-- ==== Sys2Proof/Word.lean ====
section
/-! DEFINITION. The two word types of the FG640's links: a byte, and the 16-bit word of the check
register and of the numbers that wrap at 65535 (admission number, end number). -/

namespace Sys2Proof

/-- One byte of a link frame (R167). -/
abbrev Byte := BitVec 8

/-- A 16-bit word: the check register of R168, the admission and end numbers of R5. -/
abbrev Word := BitVec 16

end Sys2Proof
end

