-- ==== Sys2Proof/Syntax.lean ====
section
/-! DEFINITION. The commands of the FG640: one constructor of `Instr` for each row of
spec/opcode_table.json, with the operands the row's rule gives it, and the plain types those operands
are made of. The part is a block: a request frame, a received byte, a timer's expiry, a sample of an
input are all commands. -/

namespace Sys2Proof

/-- A fixed number `n` of like things, in the manual's numbering order. -/
structure Bank (α : Type) (n : Nat) where
  cells : List α
  size : cells.length = n
deriving DecidableEq, Repr

namespace Bank

/-- The bank that holds `a` at every place. -/
def fill {α : Type} (n : Nat) (a : α) : Bank α n := ⟨List.replicate n a, by simp⟩

/-- The thing at place `i`. -/
def get {α : Type} {n : Nat} (b : Bank α n) (i : Fin n) : α := b.cells.get (i.cast b.size.symm)

/-- The bank with `a` at place `i`. -/
def set {α : Type} {n : Nat} (b : Bank α n) (i : Fin n) (a : α) : Bank α n :=
  ⟨b.cells.set i a, by simp [b.size]⟩

/-- The bank with `f` applied at place `i`. -/
def modify {α : Type} {n : Nat} (b : Bank α n) (i : Fin n) (f : α → α) : Bank α n :=
  b.set i (f (b.get i))

/-- The bank with `f` applied at every place. -/
def map {α β : Type} {n : Nat} (b : Bank α n) (f : α → β) : Bank β n :=
  ⟨b.cells.map f, by simp [b.size]⟩

end Bank

/-- The two serial links (R167): the coach link to the host, the service link to the pendant. -/
inductive Link where
  | coach
  | service
deriving DecidableEq, Repr

/-- A jack, by position: 0..5 are J1..J6, that is LF, RF, LM, RM, LR, RR. -/
abbrev Jack := Fin 6

/-- A room, 0..3 for ROOM1..ROOM4. -/
abbrev Room := Fin 4

/-- A room motor channel, 0..7 (R88). -/
abbrev Channel := Fin 8

/-- A switch input, S0..S23. -/
abbrev Input := Fin 24

/-- A clearance entry, 0..7 for the entries 1..8 (R155). -/
abbrev Entry := Fin 8

/-- A slot of the Operation Table, 0..3 for the slots 1..4 (R1). -/
abbrev Slot := Fin 4

/-- The electrical level of a switch input's pin (R134): pulled low by its switch, at the level of the
internal pull-up, or above it (a short to the battery). -/
inductive Level where
  | low
  | pullUp
  | battery
deriving DecidableEq, Repr

/-- One jack's two readings at a sample (R57), in millimetres and in bar. A stroke outside
0..stroke_max, or a pressure outside 0..250, is a reading outside its span. -/
structure JackReading where
  stroke : Int
  pressure : Int
deriving DecidableEq, Repr

/-- The two causes of a reset that come from the supply (R197); a REQUEST reset is a REPLY_SENT. -/
inductive SupplyReset where
  | powerOn
  | brownout
deriving DecidableEq, Repr

/-- The nonvolatile image: its bytes and its check word (R196). -/
structure Image where
  bytes : List Byte
  check : Word
deriving DecidableEq, Repr

/-- The commands of the FG640, in the order of spec/opcode_table.json. A request carries the link its
frame came on and the frame's payload bytes, its layout being that of R174 and R178. -/
inductive Instr where
  /-- R174: part code, silicon revision, restart cause, item source. -/
  | ident (link : Link) (payload : List Byte)
  /-- R176: the STATUS record. -/
  | status (link : Link) (payload : List Byte)
  /-- R8: an operation request. -/
  | submit (link : Link) (payload : List Byte)
  /-- R18. -/
  | stop (link : Link) (payload : List Byte)
  /-- R19. -/
  | haltAll (link : Link) (payload : List Byte)
  /-- R21. -/
  | resume (link : Link) (payload : List Byte)
  /-- R7. -/
  | dismiss (link : Link) (payload : List Byte)
  /-- R25. -/
  | readOp (link : Link) (payload : List Byte)
  /-- R25. -/
  | listOps (link : Link) (payload : List Byte)
  /-- R189. -/
  | readChanges (link : Link) (payload : List Byte)
  /-- R191. -/
  | readFaults (link : Link) (payload : List Byte)
  /-- R55. -/
  | readAttitude (link : Link) (payload : List Byte)
  /-- R154. -/
  | readInputs (link : Link) (payload : List Byte)
  /-- R177. -/
  | readMotion (link : Link) (payload : List Byte)
  /-- R133. -/
  | readWind (link : Link) (payload : List Byte)
  /-- R195. -/
  | setItem (link : Link) (payload : List Byte)
  /-- R178. -/
  | getItem (link : Link) (payload : List Byte)
  /-- R196. -/
  | storeItems (link : Link) (payload : List Byte)
  /-- R49. -/
  | setReference (link : Link) (payload : List Byte)
  /-- R192. -/
  | setNoticeMask (link : Link) (payload : List Byte)
  /-- R189. -/
  | postNotice (link : Link) (payload : List Byte)
  /-- R148. -/
  | park (link : Link) (payload : List Byte)
  /-- R199. -/
  | restart (link : Link) (payload : List Byte)
  /-- R183. -/
  | claim (link : Link) (payload : List Byte)
  /-- R184. -/
  | release (link : Link) (payload : List Byte)
  /-- R168: one byte received on a link. -/
  | receiveByte (link : Link) (byte : Byte)
  /-- R168: the gap timer of a link's assembler expires. -/
  | gapTimerExpiry (link : Link)
  /-- R152: the start bit of a frame on a link. -/
  | wakeOnFrameStart (link : Link)
  /-- R171: the last byte of the reply being sent on a link has been sent. -/
  | replySent (link : Link)
  /-- R197: a power-on or brownout reset. -/
  | reset (cause : SupplyReset)
  /-- R196: a store ends; `readBack` is what the image holds where it differs from what was written,
  and `none` where the read-back matches. -/
  | storeEnd (readBack : Option Image)
  /-- R180. -/
  | watchdogExpiry
  /-- R182. -/
  | serviceSilenceExpiry
  /-- R34. -/
  | staggerExpiry
  /-- R35: a sample of VBATT, in tenths of a volt of battery. -/
  | supplySample (tenths : Nat)
  /-- R36. -/
  | holdTimerExpiry
  /-- R43: the five bytes of one exchange with the inclinometer: status, axis a, axis b. -/
  | attitudeSample (ready : Byte) (a b : Word)
  /-- R52. -/
  | driftTimerExpiry
  /-- R57: stroke and pressure of every jack position at one sample. -/
  | jackSample (readings : Bank JackReading 6)
  /-- R58. -/
  | contactTimerExpiry (jack : Jack)
  /-- R59. -/
  | pumpRampTick
  /-- R67. -/
  | groundTimerExpiry
  /-- R68. -/
  | settleTimerExpiry
  /-- R70. -/
  | liftTimerExpiry
  /-- R71. -/
  | touchdownTimerExpiry
  /-- R82. -/
  | stowTimerExpiry
  /-- R85. -/
  | jackJogTimerExpiry
  /-- R89: a hall pulse on a room motor channel. -/
  | roomHallPulse (channel : Channel)
  /-- R97: the 10 ms tick of a room, with the currents of its motors in amperes. -/
  | roomTick (room : Room) (ampsA ampsB : Nat)
  /-- R98: a breakaway timer of a room expires: the operation's own, or, with `late`, the one of the
  motor that R108 started later. -/
  | roomBreakawayExpiry (room : Room) (late : Bool)
  /-- R100. -/
  | roomStallWindowExpiry (room : Room)
  /-- R109. -/
  | roomJogTimerExpiry (room : Room)
  /-- R104. -/
  | roomCoastExpiry (channel : Channel)
  /-- R117. -/
  | awningHallPulse
  /-- R119: the 10 ms tick of the awning, with the current of its motor in amperes. -/
  | awningTick (amps : Nat)
  /-- R123. -/
  | awningBreakawayExpiry
  /-- R123. -/
  | awningStallWindowExpiry
  /-- R125. -/
  | awningJogTimerExpiry
  /-- R124. -/
  | awningCoastExpiry
  /-- R127. -/
  | windPulse
  /-- R127. -/
  | windGateEnd
  /-- R129. -/
  | lockoutExpiry
  /-- R135: the levels of the 24 inputs at a 2 ms sample. -/
  | inputSample (levels : Bank Level 24)
  /-- R135. -/
  | debounceExpiry (input : Input)
  /-- R136. -/
  | firstDebounceExpiry (input : Input)
  /-- R137. -/
  | faultTimerExpiry (input : Input)
  /-- R147. -/
  | idleTimerExpiry
  /-- R150: the levels of the 24 inputs at a poll. -/
  | parkPoll (levels : Bank Level 24)
  /-- R190: the die temperature, in degrees Celsius. -/
  | thermalSample (celsius : Int)
  /-- R190: BFAULT0..BFAULT9 at a 10 ms sample. -/
  | bridgeFaultSample (asserted : Bank Bool 10)
  /-- R170: a taken frame whose KIND is no request code. -/
  | unknownKind (link : Link) (kind : Byte) (payload : List Byte)
deriving DecidableEq, Repr

end Sys2Proof
end

