-- ==== Sys2Proof/Decode.lean ====
section
/-! DEFINITION. The command a word spells. No row of the opcode table gives bits: the commands of this
block are frames, bytes, samples and expiries, not encoded instructions. -/

namespace Sys2Proof

/-- The command that a word spells by the table's bits: none, since no row gives bits (log entry 9). -/
def decodeTableWord (_nbits _w : Nat) : Option Instr := none

end Sys2Proof
end

