-- ==== Sys2Proof/Config.lean ====
section
/-! DEFINITION. What one FG640 fixes and the manual does not state: values with no body, so that no
proof can see what they are. -/

namespace Sys2Proof.Config

/-- The silicon revision returned by IDENT is "an ASCII capital letter" (R174); which letter is the
part's own. Its place in the alphabet, log entry 2. -/
opaque revisionLetter : Fin 26

/-- How many bytes of an image being written had reached the nonvolatile cells when a reset ended the
store (R196 gives the order of writing and no speed). A free value for each use, log entry 3. -/
opaque storedBytes : Nat → Nat

end Sys2Proof.Config
end

