-- ==== Sys2Proof/Machine/Kinds.lean ====
section
/-! DEFINITION. The enumerations and records the chapters of the manual name: groups, operation kinds,
states, phases, results, reasons, refusal codes, conditions, fault kinds, change categories. -/

namespace Sys2Proof.Machine

/-- The value of a debounced switch input (R134). -/
inductive Contact where
  | closed
  | opened
deriving DecidableEq, Repr

/-- A reading of a switch input (R134). -/
inductive Reading where
  | closed
  | opened
  | short
deriving DecidableEq, Repr

/-- The functions an input may hold (R138). Rooms and jacks are numbered from 0. -/
inductive Func where
  | none
  | generic
  | parkBrake
  | ignition
  | door
  | eStop
  | roomIn (room : Room)
  | jackUp (jack : Jack)
  | awningIn
deriving DecidableEq, Repr

/-- The six groups of equipment. -/
inductive Group where
  | jacks
  | room (n : Room)
  | awning
deriving DecidableEq, Repr

/-- The direction of a motion: extend or out, and retract or in. -/
inductive Dir where
  | outward
  | inward
deriving DecidableEq, Repr

/-- The operation kinds of R2. -/
inductive OpKind where
  | level
  | ground
  | jacksStow
  | jackJog
  | roomOut
  | roomIn
  | roomJog
  | awningSet
  | awningJog
  | awningStow
deriving DecidableEq, Repr

/-- Where an operation came from (R2). -/
inductive Origin where
  | link
  | service
  | internal
deriving DecidableEq, Repr

/-- The two classes (R2). -/
inductive OpClass where
  | normal
  | safety
deriving DecidableEq, Repr

/-- Wait reasons (R31). -/
inductive WaitReason where
  | queue
  | budget
  | frame
  | stagger
  | supply
deriving DecidableEq, Repr

/-- Hold reasons (R20). -/
inductive HoldReason where
  | linkSilent
  | supplyLow
deriving DecidableEq, Repr

/-- Phases, as the group controllers report them. -/
inductive Phase where
  | ground
  | settle
  | solve
  | lift
  | touchdown
  | breakaway
  | run
  | creep
  | move
deriving DecidableEq, Repr

/-- The reasons of a result (R173), in the order of their codes 1..25. -/
inductive Reason where
  | deadband
  | strokeLimited
  | disturbed
  | clearance
  | inSwitch
  | obstructed
  | sync
  | noGround
  | strokeShort
  | tooSteep
  | passes
  | attitude
  | liftTimeout
  | groundTimeout
  | stowTimeout
  | jackSensor
  | supply
  | stop
  | halt
  | eStop
  | interlock
  | claimed
  | superseded
  | peerFault
  | serviceLost
deriving DecidableEq, Repr

/-- The result of an ended operation with its reason: every result but COMPLETE has one (R2). -/
inductive Result where
  | complete
  | partly (r : Reason)
  | failed (r : Reason)
  | cancelled (r : Reason)
deriving DecidableEq, Repr

/-- What a stop will end in (R16): an end, or HELD. -/
inductive Dest where
  | ended (r : Result)
  | held (h : HoldReason)
deriving DecidableEq, Repr

/-- The remaining field of an ended record (R2), by kind. -/
inductive Remaining where
  /-- Rooms and awning: permille still to travel. -/
  | permille (n : Nat)
  /-- LEVEL: the reported pitch and roll. -/
  | attitude (pitch roll : Int)
  /-- GROUND and JACKS_STOW: a list of jacks. -/
  | jacks (l : List Jack)
  /-- JACK_JOG: the stroke. -/
  | stroke (n : Nat)
deriving DecidableEq, Repr

/-- The state of an operation with the fields R2 gives each state. -/
inductive OpState where
  | admitted (wait : WaitReason)
  | running (phase : Option Phase)
  | stopping (dest : Dest) (phase : Option Phase)
  | held (why : HoldReason)
  | ended (result : Result) (remaining : Option Remaining) (endNumber : Word)
deriving DecidableEq, Repr

/-- What an operation is asked to do: the part of a record that never changes after admission. -/
structure Job where
  kind : OpKind
  group : Group
  sub : Option Jack
  dir : Option Dir
  value : Option Nat
  origin : Origin
  bestEffort : Bool
  override : Bool
deriving DecidableEq, Repr

/-- An operation record (R2). The class follows from the kind (`OpKind.opClass`). -/
structure Op where
  tag : Nat
  job : Job
  state : OpState
  pass : Nat
  admission : Word
  /-- R26: worked out at admission and kept for the life of the record. -/
  reservation : Nat
  /-- The operation was resumed after a hold and not granted since (R21, R32, R95). -/
  resumed : Bool
deriving DecidableEq, Repr

/-- The refusal codes 1..31 of R173, in the order of their codes. -/
inductive Refuse where
  | unknownKind
  | badLength
  | badKind
  | badGroup
  | badRange
  | notReady
  | notConfigured
  | notOwner
  | dupTag
  | groupBusy
  | noSlot
  | interlock
  | unreferenced
  | slidesOut
  | jacksUp
  | windLockout
  | attitude
  | tooSteep
  | clearance
  | budget
  | jackSensor
  | noSuchTag
  | wrongState
  | safetyOp
  | busy
  | storing
  | groupActive
  | itemConflict
  | wrongLink
  | unknownItem
  | storeFail
deriving DecidableEq, Repr

/-- The four supply states (R37). -/
inductive SupplyState where
  | normal
  | low
  | hold
  | cut
deriving DecidableEq, Repr

/-- The jacks condition (R61). -/
inductive JacksCondition where
  | stowed
  | grounded
  | levelled
  | partly
deriving DecidableEq, Repr

/-- A room's condition (R93). -/
inductive RoomCondition where
  | inside
  | outside
  | between
  | unknown
deriving DecidableEq, Repr

/-- The awning's condition (R118). -/
inductive AwningCondition where
  | inside
  | outside
  | unknown
deriving DecidableEq, Repr

/-- The values of the claims map (chapter 10). -/
inductive Claim where
  | free
  | claimed
  | pending
deriving DecidableEq, Repr

/-- Causes of a wake (R153). -/
inductive WakeCause where
  | link
  | service
  | input (i : Input)
  | wind
deriving DecidableEq, Repr

/-- Causes of a reset (R197). -/
inductive RestartCause where
  | powerOn
  | brownout
  | request
deriving DecidableEq, Repr

/-- Where the working items came from (R197). -/
inductive ItemSource where
  | image
  | defaulted
deriving DecidableEq, Repr

/-- The park brake field of the coach condition record (R142). -/
inductive Brake where
  | set
  | released
  | notAssigned
deriving DecidableEq, Repr

/-- The door field of the coach condition record (R142). -/
inductive Door where
  | closed
  | opened
  | notFitted
deriving DecidableEq, Repr

/-- The E-stop field of the coach condition record (R142). -/
inductive EStop where
  | normal
  | stop
  | notAssigned
deriving DecidableEq, Repr

/-- The change categories (R174), in the order of their bits. -/
inductive Category where
  | ops
  | inputs
  | attitude
  | wind
  | supply
  | claims
  | fault
  | power
deriving DecidableEq, Repr

/-- The bit of a category in a category bit set (R174). -/
def Category.bit : Category → BitVec 8
  | .ops => 0x01#8
  | .inputs => 0x02#8
  | .attitude => 0x04#8
  | .wind => 0x08#8
  | .supply => 0x10#8
  | .claims => 0x20#8
  | .fault => 0x40#8
  | .power => 0x80#8

/-- The fault kinds (R176), in the order of their bits. -/
inductive FaultKind where
  | restart
  | linkError
  | watchdog
  | supplyUnder
  | supplyOver
  | thermal
  | attitudeSensor
  | jackSensor
  | inputFault
  | strayMotion
  | driveFault
  | travelUnstowed
  | eStop
  | itemsDefaulted
  | storeFail
deriving DecidableEq, Repr

/-- The bit of a fault kind in a kind bit set (R176). -/
def FaultKind.bit : FaultKind → Word
  | .restart => 0x0001#16
  | .linkError => 0x0002#16
  | .watchdog => 0x0004#16
  | .supplyUnder => 0x0008#16
  | .supplyOver => 0x0010#16
  | .thermal => 0x0020#16
  | .attitudeSensor => 0x0040#16
  | .jackSensor => 0x0080#16
  | .inputFault => 0x0100#16
  | .strayMotion => 0x0200#16
  | .driveFault => 0x0400#16
  | .travelUnstowed => 0x0800#16
  | .eStop => 0x1000#16
  | .itemsDefaulted => 0x2000#16
  | .storeFail => 0x4000#16

/-- The motor of a room: A at the front, B at the rear (R88). -/
inductive MotorId where
  | a
  | b
deriving DecidableEq, Repr

/-- SAFETY for AWNING_STOW and NORMAL for every other kind (R2). -/
def OpKind.opClass : OpKind → OpClass
  | .awningStow => .safety
  | _ => .normal

/-- The class of a record (R2). -/
def Op.opClass (o : Op) : OpClass := o.job.kind.opClass

/-- In RUNNING or STOPPING: the operations that hold a reservation (R27). -/
def OpState.active : OpState → Bool
  | .running _ => true
  | .stopping _ _ => true
  | _ => false

/-- In RUNNING. -/
def OpState.isRunning : OpState → Bool
  | .running _ => true
  | _ => false

/-- In ADMITTED. -/
def OpState.isAdmitted : OpState → Bool
  | .admitted _ => true
  | _ => false

/-- In HELD. -/
def OpState.isHeld : OpState → Bool
  | .held _ => true
  | _ => false

/-- In ENDED. -/
def OpState.isEnded : OpState → Bool
  | .ended _ _ _ => true
  | _ => false

/-- The phase of a RUNNING or STOPPING operation. -/
def OpState.phase : OpState → Option Phase
  | .running p => p
  | .stopping _ p => p
  | _ => none

/-- A group's place in a group bit set, by its code in R173. -/
def Group.idx : Group → Fin 6
  | .jacks => 0
  | .room n => ⟨n.val + 1, by omega⟩
  | .awning => 5

/-- Whether a group is a room. -/
def Group.isRoom : Group → Bool
  | .room _ => true
  | _ => false

/-- Every slot, in ascending order. -/
def slots : List Slot := [0, 1, 2, 3]

/-- Every jack position, in order. -/
def jackPositions : List Jack := [0, 1, 2, 3, 4, 5]

/-- Every room number, in order. -/
def roomNumbers : List Room := [0, 1, 2, 3]

/-- Every input, in order. -/
def inputNumbers : List Input :=
  [0, 1, 2, 3, 4, 5, 6, 7, 8, 9, 10, 11, 12, 13, 14, 15, 16, 17, 18, 19, 20, 21, 22, 23]

/-- Every clearance entry, in order. -/
def entryNumbers : List Entry := [0, 1, 2, 3, 4, 5, 6, 7]

/-- Every group, in the order of the codes of R173. -/
def groups : List Group := [.jacks, .room 0, .room 1, .room 2, .room 3, .awning]

end Sys2Proof.Machine
end

