-- ==== Sys2Proof/Machine/Items.lean ====
section
/-! DEFINITION. The item table of R194: the working values as a record, each item's key, number, index,
range, default and group, and how a value outside its range is taken (R195). -/

namespace Sys2Proof.Machine

/-- The condition of a clearance entry (R155). -/
inductive ClearCond where
  | group (g : Group) (lo hi : Nat)
  | input (f : Func) (state : Contact)
deriving DecidableEq, Repr

/-- What an entry does while active (R155). -/
inductive ClearAction where
  | protect
  | detect
deriving DecidableEq, Repr

/-- A clearance entry (R155). -/
structure ClearEntry where
  enabled : Bool
  subject : Group
  lo : Nat
  hi : Nat
  cond : ClearCond
  action : ClearAction
deriving DecidableEq, Repr

/-- slide_fault_action (R113). -/
inductive FaultAction where
  | room
  | slides
  | all
deriving DecidableEq, Repr

/-- A drive profile: the eleven fields of R96 and R119. -/
structure Profile where
  rampUp : Nat
  rampDown : Nat
  breakawayDuty : Nat
  breakawayTime : Nat
  runDuty : Nat
  creepDuty : Nat
  creepWindow : Nat
  endZone : Nat
  stallWindow : Nat
  stallCount : Nat
  currentLimit : Nat
deriving DecidableEq, Repr

/-- Items 1..14: budget and supply (R26, section 2.3). -/
structure SupplyItems where
  budgetLimit : Nat
  safetyReserve : Nat
  sharePump : Nat
  shareRoomMotor : Nat
  shareAwning : Nat
  staggerTime : Nat
  vAdmit : Nat
  vHold : Nat
  vCut : Nat
  vOver : Nat
  hysteresis : Nat
deriving DecidableEq, Repr

/-- Items 20..25: attitude (chapter 3). -/
structure AttitudeItems where
  rotation : Nat
  refPitch : Int
  refRoll : Int
  driftMargin : Nat
  driftTime : Nat
  autoRelevel : Bool
deriving DecidableEq, Repr

/-- Items 30..46: levelling jacks (chapter 4). -/
structure JackItems where
  count : Nat
  x : Bank Int 6
  y : Bank Int 6
  strokeMax : Bank Nat 6
  contactPressure : Nat
  levelTolerance : Nat
  maxSolveTilt : Nat
  maxPasses : Nat
  groundTimeout : Nat
  settleTime : Nat
  liftTimeout : Nat
  stowTimeout : Nat
  strokeReserve : Nat
  maxPassLift : Nat
  minMove : Nat
  rampUp : Nat
  rampDown : Nat
deriving DecidableEq, Repr

/-- Items 50..70: slide rooms (chapter 5). -/
structure RoomItems where
  count : Nat
  motors : Bank Nat 4
  travel : Bank Nat 4
  needGround : Bool
  withIgnition : Bool
  faultAction : FaultAction
  syncGain : Nat
  syncTrimMax : Nat
  syncLimit : Nat
  profile : Profile
deriving DecidableEq, Repr

/-- Items 80..100: awning and wind (chapter 6). -/
structure AwningItems where
  present : Bool
  travel : Nat
  windFactor : Nat
  avgLimit : Nat
  gustLimit : Nat
  lockout : Nat
  stowOnLinkLoss : Bool
  profile : Profile
deriving DecidableEq, Repr

/-- Items 110..117: switch inputs and parking (chapter 7). -/
structure InputItems where
  function : Bank Func 24
  invert : Bank Bool 24
  debounce : Nat
  notice : Bank Bool 24
  wake : Bank Bool 24
  slow : Bank Bool 24
  autoPark : Nat
  pollTime : Nat
deriving DecidableEq, Repr

/-- The whole item table (R194). -/
structure Items where
  supply : SupplyItems
  att : AttitudeItems
  jack : JackItems
  room : RoomItems
  awn : AwningItems
  inp : InputItems
  clearance : Bank ClearEntry 8
  linkWatchdog : Nat
  alarmMask : BitVec 8
deriving DecidableEq, Repr

/-- The default clearance entry (R155). -/
def ClearEntry.default : ClearEntry :=
  { enabled := false, subject := .room 0, lo := 0, hi := 0, cond := .input .door .opened, action := .detect }

/-- The defaults of R96. -/
def Profile.roomDefault : Profile :=
  { rampUp := 20, rampDown := 50, breakawayDuty := 1000, breakawayTime := 500, runDuty := 850,
    creepDuty := 350, creepWindow := 60, endZone := 25, stallWindow := 200, stallCount := 2, currentLimit := 40 }

/-- The defaults of R119. -/
def Profile.awningDefault : Profile :=
  { rampUp := 25, rampDown := 50, breakawayDuty := 800, breakawayTime := 500, runDuty := 700,
    creepDuty := 300, creepWindow := 120, endZone := 30, stallWindow := 200, stallCount := 2, currentLimit := 15 }

/-- The default assignment of functions (R138). -/
def defaultFunctions : Bank Func 24 :=
  ⟨[.parkBrake, .ignition, .door, .eStop, .roomIn 0, .roomIn 1, .jackUp 0, .jackUp 1, .jackUp 4, .jackUp 5,
    .awningIn, .none, .none, .none, .none, .none, .none, .none, .none, .none, .none, .none, .none, .none], rfl⟩

/-- 1 for S0..S3 and 0 otherwise: the default of notice_enable and wake_enable. -/
def firstFour : Bank Bool 24 :=
  ⟨[true, true, true, true, false, false, false, false, false, false, false, false, false, false, false, false,
    false, false, false, false, false, false, false, false], rfl⟩

/-- The defaults of R194. -/
def Items.default : Items :=
  { supply := { budgetLimit := 160, safetyReserve := 30, sharePump := 110, shareRoomMotor := 25, shareAwning := 15,
                staggerTime := 500, vAdmit := 118, vHold := 105, vCut := 95, vOver := 160, hysteresis := 3 }
    att := { rotation := 0, refPitch := 0, refRoll := 0, driftMargin := 40, driftTime := 60, autoRelevel := false }
    jack := { count := 4
              x := ⟨[4500, 4500, -1500, -1500, -3800, -3800], rfl⟩
              y := ⟨[-1100, 1100, -1100, 1100, -1100, 1100], rfl⟩
              strokeMax := Bank.fill 6 610
              contactPressure := 20, levelTolerance := 20, maxSolveTilt := 800, maxPasses := 4, groundTimeout := 30
              settleTime := 3, liftTimeout := 60, stowTimeout := 60, strokeReserve := 25, maxPassLift := 150
              minMove := 3, rampUp := 20, rampDown := 100 }
    room := { count := 2, motors := Bank.fill 4 1, travel := Bank.fill 4 1200, needGround := true
              withIgnition := false, faultAction := .slides, syncGain := 8, syncTrimMax := 200, syncLimit := 40
              profile := Profile.roomDefault }
    awn := { present := true, travel := 2400, windFactor := 700, avgLimit := 80, gustLimit := 130, lockout := 15
             stowOnLinkLoss := false, profile := Profile.awningDefault }
    inp := { function := defaultFunctions, invert := Bank.fill 24 false, debounce := 30, notice := firstFour
             wake := firstFour, slow := firstFour.map (fun b => !b), autoPark := 10, pollTime := 64 }
    clearance := Bank.fill 8 ClearEntry.default
    linkWatchdog := 10
    alarmMask := 0 }

/-- The items of R194, each with its index where it has one. A profile item is numbered by its place
in R96 or R119. -/
inductive ItemKey where
  | budgetLimit
  | safetyReserve
  | sharePump
  | shareRoomMotor
  | shareAwning
  | staggerTime
  | vAdmit
  | vHold
  | vCut
  | vOver
  | hysteresis
  | rotation
  | refPitch
  | refRoll
  | driftMargin
  | driftTime
  | autoRelevel
  | jackCount
  | jackX (j : Jack)
  | jackY (j : Jack)
  | strokeMax (j : Jack)
  | contactPressure
  | levelTolerance
  | maxSolveTilt
  | maxPasses
  | groundTimeout
  | settleTime
  | liftTimeout
  | stowTimeout
  | strokeReserve
  | maxPassLift
  | minMove
  | pumpRampUp
  | pumpRampDown
  | roomCount
  | roomMotors (n : Room)
  | roomTravel (n : Room)
  | needGround
  | withIgnition
  | faultAction
  | syncGain
  | syncTrimMax
  | syncLimit
  | roomProfile (f : Fin 11)
  | awningPresent
  | awningTravel
  | windFactor
  | avgLimit
  | gustLimit
  | lockout
  | stowOnLinkLoss
  | awningProfile (f : Fin 11)
  | function (i : Input)
  | invert (i : Input)
  | debounce
  | notice (i : Input)
  | wake (i : Input)
  | slow (i : Input)
  | autoPark
  | pollTime
  | clearance (k : Entry)
  | linkWatchdog
  | alarmMask
deriving DecidableEq, Repr

/-- The group an item belongs to (R194), for the GROUP_ACTIVE test of R195. -/
inductive ItemGroup where
  | all
  | jacks
  | rooms
  | room (n : Room)
  | awning
  | none
deriving DecidableEq, Repr

/-- The values an item may take (R194). -/
inductive Domain where
  /-- A range; a value outside it is clamped to it. -/
  | range (lo hi : Int)
  /-- A set whose rule takes a value outside it as the largest member that does not exceed it, or as
  the smallest member (R44, R96, R119, R150). Ascending. -/
  | floorSet (members : List Int)
  /-- jack_count (R56): 0, 3..6. -/
  | jackCount
  /-- link_watchdog (R179): 0, 2..120. -/
  | watchdog
  /-- An enumeration of this many values, refused BAD_RANGE outside it (R195). -/
  | choice (n : Nat)
  /-- input_function (R195). -/
  | function
  /-- clearance_entry (R156). -/
  | record
deriving DecidableEq, Repr

/-- The ranges of R96 and R119, by the place of the item in the profile. -/
def profileDomain (f : Fin 11) : Domain :=
  match f.val with
  | 0 => .range 1 100
  | 1 => .range 1 200
  | 2 => .range 300 1000
  | 3 => .floorSet [250, 500, 1000, 2000]
  | 4 => .range 100 1000
  | 5 => .range 100 600
  | 6 => .range 0 2000
  | 7 => .range 5 500
  | 8 => .range 50 1000
  | 9 => .floorSet [1, 2, 4, 6]
  | _ => .range 5 80

/-- The range or set of each item (R194). -/
def ItemKey.domain : ItemKey → Domain
  | .budgetLimit => .range 40 400
  | .safetyReserve => .range 0 100
  | .sharePump => .range 20 250
  | .shareRoomMotor => .range 5 60
  | .shareAwning => .range 5 40
  | .staggerTime => .range 0 2000
  | .vAdmit => .range 100 140
  | .vHold => .range 90 130
  | .vCut => .range 80 120
  | .vOver => .range 140 320
  | .hysteresis => .range 1 10
  | .rotation => .floorSet [0, 90, 180, 270]
  | .refPitch => .range (-500) 500
  | .refRoll => .range (-500) 500
  | .driftMargin => .range 10 200
  | .driftTime => .range 10 600
  | .autoRelevel => .range 0 1
  | .jackCount => .jackCount
  | .jackX _ => .range (-12000) 12000
  | .jackY _ => .range (-1500) 1500
  | .strokeMax _ => .range 100 1000
  | .contactPressure => .range 5 100
  | .levelTolerance => .range 5 100
  | .maxSolveTilt => .range 100 1500
  | .maxPasses => .range 1 8
  | .groundTimeout => .range 5 60
  | .settleTime => .range 1 10
  | .liftTimeout => .range 10 120
  | .stowTimeout => .range 10 120
  | .strokeReserve => .range 0 100
  | .maxPassLift => .range 50 500
  | .minMove => .range 2 20
  | .pumpRampUp => .range 1 100
  | .pumpRampDown => .range 1 200
  | .roomCount => .range 0 4
  | .roomMotors _ => .range 1 2
  | .roomTravel _ => .range 100 60000
  | .needGround => .range 0 1
  | .withIgnition => .range 0 1
  | .faultAction => .choice 3
  | .syncGain => .range 1 50
  | .syncTrimMax => .range 0 500
  | .syncLimit => .range 4 200
  | .roomProfile f => profileDomain f
  | .awningPresent => .range 0 1
  | .awningTravel => .range 100 60000
  | .windFactor => .range 1 5000
  | .avgLimit => .range 0 400
  | .gustLimit => .range 0 600
  | .lockout => .range 0 60
  | .stowOnLinkLoss => .range 0 1
  | .awningProfile f => profileDomain f
  | .function _ => .function
  | .invert _ => .range 0 1
  | .debounce => .range 10 200
  | .notice _ => .range 0 1
  | .wake _ => .range 0 1
  | .slow _ => .range 0 1
  | .autoPark => .range 0 60
  | .pollTime => .floorSet [8, 16, 32, 64, 128, 256, 512]
  | .clearance _ => .record
  | .linkWatchdog => .watchdog
  | .alarmMask => .range 0 7

/-- The group of each item (R194). -/
def ItemKey.group : ItemKey → ItemGroup
  | .budgetLimit | .safetyReserve | .sharePump | .shareRoomMotor | .shareAwning | .staggerTime => .all
  | .vAdmit | .vHold | .vCut | .vOver | .hysteresis => .none
  | .rotation | .refPitch | .refRoll | .driftMargin | .driftTime | .autoRelevel => .jacks
  | .jackCount | .jackX _ | .jackY _ | .strokeMax _ | .contactPressure | .levelTolerance => .jacks
  | .maxSolveTilt | .maxPasses | .groundTimeout | .settleTime | .liftTimeout | .stowTimeout => .jacks
  | .strokeReserve | .maxPassLift | .minMove | .pumpRampUp | .pumpRampDown => .jacks
  | .roomMotors n => .room n
  | .roomTravel n => .room n
  | .roomCount | .needGround | .withIgnition | .faultAction | .syncGain | .syncTrimMax | .syncLimit => .rooms
  | .roomProfile _ => .rooms
  | .awningPresent | .awningTravel | .windFactor | .avgLimit | .gustLimit | .lockout | .stowOnLinkLoss => .awning
  | .awningProfile _ => .awning
  | .function _ | .invert _ | .debounce => .all
  | .notice _ | .wake _ | .slow _ | .autoPark | .pollTime => .none
  | .clearance _ => .all
  | .linkWatchdog | .alarmMask => .none

/-- The `Fin n` of a number that is below `n`. -/
def finOf? (n x : Nat) : Option (Fin n) := if h : x < n then some ⟨x, h⟩ else none

/-- The `Fin n` of a number counted from 1. -/
def finFrom1? (n x : Nat) : Option (Fin n) := if x = 0 then none else finOf? n (x - 1)

/-- An item without an index: index 0 (R194). -/
def plainKey (k : ItemKey) (idx : Nat) : Option ItemKey := if idx = 0 then some k else none

/-- The item of a number and an index (R194), `none` where the table has none. -/
def ItemKey.ofNumber (num idx : Nat) : Option ItemKey :=
  match num with
  | 1 => plainKey .budgetLimit idx
  | 2 => plainKey .safetyReserve idx
  | 3 => plainKey .sharePump idx
  | 4 => plainKey .shareRoomMotor idx
  | 5 => plainKey .shareAwning idx
  | 6 => plainKey .staggerTime idx
  | 10 => plainKey .vAdmit idx
  | 11 => plainKey .vHold idx
  | 12 => plainKey .vCut idx
  | 13 => plainKey .vOver idx
  | 14 => plainKey .hysteresis idx
  | 20 => plainKey .rotation idx
  | 21 => plainKey .refPitch idx
  | 22 => plainKey .refRoll idx
  | 23 => plainKey .driftMargin idx
  | 24 => plainKey .driftTime idx
  | 25 => plainKey .autoRelevel idx
  | 30 => plainKey .jackCount idx
  | 31 => (finFrom1? 6 idx).map .jackX
  | 32 => (finFrom1? 6 idx).map .jackY
  | 33 => (finFrom1? 6 idx).map .strokeMax
  | 34 => plainKey .contactPressure idx
  | 35 => plainKey .levelTolerance idx
  | 36 => plainKey .maxSolveTilt idx
  | 37 => plainKey .maxPasses idx
  | 38 => plainKey .groundTimeout idx
  | 39 => plainKey .settleTime idx
  | 40 => plainKey .liftTimeout idx
  | 41 => plainKey .stowTimeout idx
  | 42 => plainKey .strokeReserve idx
  | 43 => plainKey .maxPassLift idx
  | 44 => plainKey .minMove idx
  | 45 => plainKey .pumpRampUp idx
  | 46 => plainKey .pumpRampDown idx
  | 50 => plainKey .roomCount idx
  | 51 => (finFrom1? 4 idx).map .roomMotors
  | 52 => (finFrom1? 4 idx).map .roomTravel
  | 53 => plainKey .needGround idx
  | 54 => plainKey .withIgnition idx
  | 55 => plainKey .faultAction idx
  | 56 => plainKey .syncGain idx
  | 57 => plainKey .syncTrimMax idx
  | 58 => plainKey .syncLimit idx
  | 80 => plainKey .awningPresent idx
  | 81 => plainKey .awningTravel idx
  | 82 => plainKey .windFactor idx
  | 83 => plainKey .avgLimit idx
  | 84 => plainKey .gustLimit idx
  | 85 => plainKey .lockout idx
  | 86 => plainKey .stowOnLinkLoss idx
  | 110 => (finOf? 24 idx).map .function
  | 111 => (finOf? 24 idx).map .invert
  | 112 => plainKey .debounce idx
  | 113 => (finOf? 24 idx).map .notice
  | 114 => (finOf? 24 idx).map .wake
  | 115 => (finOf? 24 idx).map .slow
  | 116 => plainKey .autoPark idx
  | 117 => plainKey .pollTime idx
  | 120 => (finFrom1? 8 idx).map .clearance
  | 130 => plainKey .linkWatchdog idx
  | 131 => plainKey .alarmMask idx
  | _ =>
    if 60 ≤ num ∧ num ≤ 70 ∧ idx = 0 then (finOf? 11 (num - 60)).map .roomProfile
    else if 90 ≤ num ∧ num ≤ 100 ∧ idx = 0 then (finOf? 11 (num - 90)).map .awningProfile
    else none

/-- A range clamp (R195). -/
def clampInt (lo hi x : Int) : Int := if x < lo then lo else if hi < x then hi else x

/-- The largest member that does not exceed `x`, or the smallest where there is none (R96). -/
def floorMember (members : List Int) (x : Int) : Int :=
  members.foldl (fun best m => if m ≤ x then m else best) (members.headD 0)

/-- How a number is taken into an item's range or set (R195 and the item's own rule). -/
def Domain.fit : Domain → Int → Int
  | .range lo hi, x => clampInt lo hi x
  | .floorSet l, x => floorMember l x
  | .jackCount, x => if x ≤ 0 then 0 else if x ≤ 3 then 3 else if 6 ≤ x then 6 else x
  | .watchdog, x => if x ≤ 0 then 0 else if x = 1 then 2 else if 120 < x then 120 else x
  | .choice _, x => x
  | .function, x => x
  | .record, x => x

/-- Whether a value lies within an item's range or set (R197). -/
def Domain.holds : Domain → Int → Bool
  | .range lo hi, x => decide (lo ≤ x ∧ x ≤ hi)
  | .floorSet l, x => l.contains x
  | .jackCount, x => decide (x = 0 ∨ (3 ≤ x ∧ x ≤ 6))
  | .watchdog, x => decide (x = 0 ∨ (2 ≤ x ∧ x ≤ 120))
  | .choice n, x => decide (0 ≤ x ∧ x < n)
  | .function, _ => true
  | .record, _ => true

/-- 0 or 1 for a boolean item. -/
def boolInt (b : Bool) : Int := if b then 1 else 0

/-- The function codes of input_function: the functions in the order R138 lists them, from 0 (R173). -/
def Func.code : Func → Nat
  | .none => 0
  | .generic => 1
  | .parkBrake => 2
  | .ignition => 3
  | .door => 4
  | .eStop => 5
  | .roomIn _ => 6
  | .jackUp _ => 7
  | .awningIn => 8

/-- The argument of a function: room number or jack position, counted from 1, otherwise 0 (R177). -/
def Func.arg : Func → Nat
  | .roomIn n => n.val + 1
  | .jackUp j => j.val + 1
  | _ => 0

/-- The function of a code and an argument, `none` where R195 refuses them. -/
def Func.ofCode (code arg : Nat) : Option Func :=
  match code with
  | 6 => (finFrom1? 4 arg).map .roomIn
  | 7 => (finFrom1? 6 arg).map .jackUp
  | _ =>
    if arg = 0 then
      match code with
      | 0 => some .none
      | 1 => some .generic
      | 2 => some .parkBrake
      | 3 => some .ignition
      | 4 => some .door
      | 5 => some .eStop
      | 8 => some .awningIn
      | _ => Option.none
    else Option.none

/-- A function as the number an input_function item carries: code in the low byte, argument in the
next (R178). -/
def Func.number (f : Func) : Int := f.code + 256 * f.arg

/-- The function an input_function number names, `none` where R195 refuses it (upper bytes not 0, a
code or argument outside its set). -/
def Func.ofNumber (x : Int) : Option Func :=
  if 0 ≤ x ∧ x < 65536 then Func.ofCode (x.toNat % 256) (x.toNat / 256) else Option.none

/-- The code of slide_fault_action, in the order of the item table (R173). -/
def FaultAction.code : FaultAction → Int
  | .room => 0
  | .slides => 1
  | .all => 2

/-- The slide_fault_action of a code. -/
def FaultAction.ofCode (x : Int) : FaultAction := if x = 0 then .room else if x = 1 then .slides else .all

/-- One profile field, by its place in R96 or R119. -/
def Profile.get (p : Profile) (f : Fin 11) : Nat :=
  match f.val with
  | 0 => p.rampUp
  | 1 => p.rampDown
  | 2 => p.breakawayDuty
  | 3 => p.breakawayTime
  | 4 => p.runDuty
  | 5 => p.creepDuty
  | 6 => p.creepWindow
  | 7 => p.endZone
  | 8 => p.stallWindow
  | 9 => p.stallCount
  | _ => p.currentLimit

/-- The profile with one field written. -/
def Profile.put (p : Profile) (f : Fin 11) (v : Nat) : Profile :=
  match f.val with
  | 0 => { p with rampUp := v }
  | 1 => { p with rampDown := v }
  | 2 => { p with breakawayDuty := v }
  | 3 => { p with breakawayTime := v }
  | 4 => { p with runDuty := v }
  | 5 => { p with creepDuty := v }
  | 6 => { p with creepWindow := v }
  | 7 => { p with endZone := v }
  | 8 => { p with stallWindow := v }
  | 9 => { p with stallCount := v }
  | _ => { p with currentLimit := v }

/-- The value of an item as the signed number SET_ITEM and GET_ITEM carry (R178). A clearance entry has
no such number. -/
def Items.get (t : Items) : ItemKey → Int
  | .budgetLimit => t.supply.budgetLimit
  | .safetyReserve => t.supply.safetyReserve
  | .sharePump => t.supply.sharePump
  | .shareRoomMotor => t.supply.shareRoomMotor
  | .shareAwning => t.supply.shareAwning
  | .staggerTime => t.supply.staggerTime
  | .vAdmit => t.supply.vAdmit
  | .vHold => t.supply.vHold
  | .vCut => t.supply.vCut
  | .vOver => t.supply.vOver
  | .hysteresis => t.supply.hysteresis
  | .rotation => t.att.rotation
  | .refPitch => t.att.refPitch
  | .refRoll => t.att.refRoll
  | .driftMargin => t.att.driftMargin
  | .driftTime => t.att.driftTime
  | .autoRelevel => boolInt t.att.autoRelevel
  | .jackCount => t.jack.count
  | .jackX j => t.jack.x.get j
  | .jackY j => t.jack.y.get j
  | .strokeMax j => t.jack.strokeMax.get j
  | .contactPressure => t.jack.contactPressure
  | .levelTolerance => t.jack.levelTolerance
  | .maxSolveTilt => t.jack.maxSolveTilt
  | .maxPasses => t.jack.maxPasses
  | .groundTimeout => t.jack.groundTimeout
  | .settleTime => t.jack.settleTime
  | .liftTimeout => t.jack.liftTimeout
  | .stowTimeout => t.jack.stowTimeout
  | .strokeReserve => t.jack.strokeReserve
  | .maxPassLift => t.jack.maxPassLift
  | .minMove => t.jack.minMove
  | .pumpRampUp => t.jack.rampUp
  | .pumpRampDown => t.jack.rampDown
  | .roomCount => t.room.count
  | .roomMotors n => t.room.motors.get n
  | .roomTravel n => t.room.travel.get n
  | .needGround => boolInt t.room.needGround
  | .withIgnition => boolInt t.room.withIgnition
  | .faultAction => t.room.faultAction.code
  | .syncGain => t.room.syncGain
  | .syncTrimMax => t.room.syncTrimMax
  | .syncLimit => t.room.syncLimit
  | .roomProfile f => t.room.profile.get f
  | .awningPresent => boolInt t.awn.present
  | .awningTravel => t.awn.travel
  | .windFactor => t.awn.windFactor
  | .avgLimit => t.awn.avgLimit
  | .gustLimit => t.awn.gustLimit
  | .lockout => t.awn.lockout
  | .stowOnLinkLoss => boolInt t.awn.stowOnLinkLoss
  | .awningProfile f => t.awn.profile.get f
  | .function i => (t.inp.function.get i).number
  | .invert i => boolInt (t.inp.invert.get i)
  | .debounce => t.inp.debounce
  | .notice i => boolInt (t.inp.notice.get i)
  | .wake i => boolInt (t.inp.wake.get i)
  | .slow i => boolInt (t.inp.slow.get i)
  | .autoPark => t.inp.autoPark
  | .pollTime => t.inp.pollTime
  | .clearance _ => 0
  | .linkWatchdog => t.linkWatchdog
  | .alarmMask => t.alarmMask.toNat

/-- The table with one item written, the value having been taken into the item's range already. An
input_function number that names no function, and a clearance entry, leave the table as it was. -/
def Items.put (t : Items) (k : ItemKey) (v : Int) : Items :=
  match k with
  | .budgetLimit => { t with supply := { t.supply with budgetLimit := v.toNat } }
  | .safetyReserve => { t with supply := { t.supply with safetyReserve := v.toNat } }
  | .sharePump => { t with supply := { t.supply with sharePump := v.toNat } }
  | .shareRoomMotor => { t with supply := { t.supply with shareRoomMotor := v.toNat } }
  | .shareAwning => { t with supply := { t.supply with shareAwning := v.toNat } }
  | .staggerTime => { t with supply := { t.supply with staggerTime := v.toNat } }
  | .vAdmit => { t with supply := { t.supply with vAdmit := v.toNat } }
  | .vHold => { t with supply := { t.supply with vHold := v.toNat } }
  | .vCut => { t with supply := { t.supply with vCut := v.toNat } }
  | .vOver => { t with supply := { t.supply with vOver := v.toNat } }
  | .hysteresis => { t with supply := { t.supply with hysteresis := v.toNat } }
  | .rotation => { t with att := { t.att with rotation := v.toNat } }
  | .refPitch => { t with att := { t.att with refPitch := v } }
  | .refRoll => { t with att := { t.att with refRoll := v } }
  | .driftMargin => { t with att := { t.att with driftMargin := v.toNat } }
  | .driftTime => { t with att := { t.att with driftTime := v.toNat } }
  | .autoRelevel => { t with att := { t.att with autoRelevel := v == 1 } }
  | .jackCount => { t with jack := { t.jack with count := v.toNat } }
  | .jackX j => { t with jack := { t.jack with x := t.jack.x.set j v } }
  | .jackY j => { t with jack := { t.jack with y := t.jack.y.set j v } }
  | .strokeMax j => { t with jack := { t.jack with strokeMax := t.jack.strokeMax.set j v.toNat } }
  | .contactPressure => { t with jack := { t.jack with contactPressure := v.toNat } }
  | .levelTolerance => { t with jack := { t.jack with levelTolerance := v.toNat } }
  | .maxSolveTilt => { t with jack := { t.jack with maxSolveTilt := v.toNat } }
  | .maxPasses => { t with jack := { t.jack with maxPasses := v.toNat } }
  | .groundTimeout => { t with jack := { t.jack with groundTimeout := v.toNat } }
  | .settleTime => { t with jack := { t.jack with settleTime := v.toNat } }
  | .liftTimeout => { t with jack := { t.jack with liftTimeout := v.toNat } }
  | .stowTimeout => { t with jack := { t.jack with stowTimeout := v.toNat } }
  | .strokeReserve => { t with jack := { t.jack with strokeReserve := v.toNat } }
  | .maxPassLift => { t with jack := { t.jack with maxPassLift := v.toNat } }
  | .minMove => { t with jack := { t.jack with minMove := v.toNat } }
  | .pumpRampUp => { t with jack := { t.jack with rampUp := v.toNat } }
  | .pumpRampDown => { t with jack := { t.jack with rampDown := v.toNat } }
  | .roomCount => { t with room := { t.room with count := v.toNat } }
  | .roomMotors n => { t with room := { t.room with motors := t.room.motors.set n v.toNat } }
  | .roomTravel n => { t with room := { t.room with travel := t.room.travel.set n v.toNat } }
  | .needGround => { t with room := { t.room with needGround := v == 1 } }
  | .withIgnition => { t with room := { t.room with withIgnition := v == 1 } }
  | .faultAction => { t with room := { t.room with faultAction := FaultAction.ofCode v } }
  | .syncGain => { t with room := { t.room with syncGain := v.toNat } }
  | .syncTrimMax => { t with room := { t.room with syncTrimMax := v.toNat } }
  | .syncLimit => { t with room := { t.room with syncLimit := v.toNat } }
  | .roomProfile f => { t with room := { t.room with profile := t.room.profile.put f v.toNat } }
  | .awningPresent => { t with awn := { t.awn with present := v == 1 } }
  | .awningTravel => { t with awn := { t.awn with travel := v.toNat } }
  | .windFactor => { t with awn := { t.awn with windFactor := v.toNat } }
  | .avgLimit => { t with awn := { t.awn with avgLimit := v.toNat } }
  | .gustLimit => { t with awn := { t.awn with gustLimit := v.toNat } }
  | .lockout => { t with awn := { t.awn with lockout := v.toNat } }
  | .stowOnLinkLoss => { t with awn := { t.awn with stowOnLinkLoss := v == 1 } }
  | .awningProfile f => { t with awn := { t.awn with profile := t.awn.profile.put f v.toNat } }
  | .function i =>
    match Func.ofNumber v with
    | some f => { t with inp := { t.inp with function := t.inp.function.set i f } }
    | none => t
  | .invert i => { t with inp := { t.inp with invert := t.inp.invert.set i (v == 1) } }
  | .debounce => { t with inp := { t.inp with debounce := v.toNat } }
  | .notice i => { t with inp := { t.inp with notice := t.inp.notice.set i (v == 1) } }
  | .wake i => { t with inp := { t.inp with wake := t.inp.wake.set i (v == 1) } }
  | .slow i => { t with inp := { t.inp with slow := t.inp.slow.set i (v == 1) } }
  | .autoPark => { t with inp := { t.inp with autoPark := v.toNat } }
  | .pollTime => { t with inp := { t.inp with pollTime := v.toNat } }
  | .clearance _ => t
  | .linkWatchdog => { t with linkWatchdog := v.toNat }
  | .alarmMask => { t with alarmMask := BitVec.ofInt 8 v }

/-- The eleven places of a profile. -/
def profileFields : List (Fin 11) := [0, 1, 2, 3, 4, 5, 6, 7, 8, 9, 10]

/-- Every item, in item-number order and index order: the order in which a store writes the table
(R196). -/
def itemOrder : List ItemKey :=
  List.flatten
    [[.budgetLimit, .safetyReserve, .sharePump, .shareRoomMotor, .shareAwning, .staggerTime],
     [.vAdmit, .vHold, .vCut, .vOver, .hysteresis],
     [.rotation, .refPitch, .refRoll, .driftMargin, .driftTime, .autoRelevel, .jackCount],
     jackPositions.map ItemKey.jackX, jackPositions.map ItemKey.jackY, jackPositions.map ItemKey.strokeMax,
     [.contactPressure, .levelTolerance, .maxSolveTilt, .maxPasses, .groundTimeout, .settleTime, .liftTimeout],
     [.stowTimeout, .strokeReserve, .maxPassLift, .minMove, .pumpRampUp, .pumpRampDown, .roomCount],
     roomNumbers.map ItemKey.roomMotors, roomNumbers.map ItemKey.roomTravel,
     [.needGround, .withIgnition, .faultAction, .syncGain, .syncTrimMax, .syncLimit],
     profileFields.map ItemKey.roomProfile,
     [.awningPresent, .awningTravel, .windFactor, .avgLimit, .gustLimit, .lockout, .stowOnLinkLoss],
     profileFields.map ItemKey.awningProfile,
     inputNumbers.map ItemKey.function, inputNumbers.map ItemKey.invert, [.debounce],
     inputNumbers.map ItemKey.notice, inputNumbers.map ItemKey.wake, inputNumbers.map ItemKey.slow,
     [.autoPark, .pollTime], entryNumbers.map ItemKey.clearance, [.linkWatchdog, .alarmMask]]

/-- The configured jacks, in position order (R56). -/
def Items.jacks (t : Items) : List Jack :=
  match t.jack.count with
  | 3 => [0, 1, 4]
  | 4 => [0, 1, 4, 5]
  | 5 => [0, 1, 2, 4, 5]
  | 6 => [0, 1, 2, 3, 4, 5]
  | _ => []

/-- The configured rooms: ROOMn is configured when n is at most room_count (R88). -/
def Items.rooms (t : Items) : List Room := roomNumbers.filter (fun n => n.val < t.room.count)

/-- Whether a group is configured (R56, R88, R116). -/
def Items.configured (t : Items) : Group → Bool
  | .jacks => !t.jacks.isEmpty
  | .room n => n.val < t.room.count
  | .awning => t.awn.present

/-- The motors a room has (R88): A alone, or A and B. -/
def Items.motors (t : Items) (n : Room) : List MotorId :=
  if t.room.motors.get n = 2 then [.a, .b] else [.a]

/-- The normal budget: budget_limit less safety_reserve, or 0 (R28). -/
def Items.normalBudget (t : Items) : Nat := t.supply.budgetLimit - t.supply.safetyReserve

end Sys2Proof.Machine
end

