-- ==== Sys2Proof/Machine/State.lean ====
section
/-! DEFINITION. The state of the FG640: the eleven blocks of the manual as plain data, each with the
state its chapter gives it, the queue of waiting commands, and the state right after a power-on reset
of a board whose image is blank. Every timer is held as the time of its expiry on the model's clock. -/

namespace Sys2Proof.Machine

/-! ### Operation Table (chapter 1) -/

/-- The Operation Table (R1). -/
structure Opt where
  slots : Bank (Option Op) 4
  endedList : List Nat
  admissions : Word
  ends : Word
  internalTag : Nat
deriving DecidableEq, Repr

/-! ### Start Arbiter (chapter 2) -/

/-- The four supply flags (R36). -/
structure SupplyFlags where
  underSet : Bool
  overSet : Bool
  holdSet : Bool
  cutSet : Bool
deriving DecidableEq, Repr

/-- The Start Arbiter: the waiting queue by slot, head first (R29), the two sums (R27), the stagger
timer (R34) and the supply monitor (R35 to R37). -/
structure Sta where
  queue : List Slot
  resSum : Nat
  normalSum : Nat
  stagger : Option Nat
  samples : List Nat
  filtered : Option Nat
  flags : SupplyFlags
  holdTimer : Option Nat
  supply : SupplyState
deriving DecidableEq, Repr

/-! ### Attitude Unit (chapter 3) -/

/-- A pitch and roll, in centidegrees. -/
structure Tilt where
  pitch : Int
  roll : Int
deriving DecidableEq, Repr

/-- The Attitude Unit (R45, R51). The filtered value exists exactly while attitude is valid, so
validity is whether it is present. -/
structure Atu where
  window : List Tilt
  validRun : Nat
  invalidRun : Nat
  filtered : Option Tilt
  sensorFault : Bool
  drift : Option Nat
deriving DecidableEq, Repr

/-! ### Levelling Controller (chapter 4) -/

/-- What the Levelling Controller holds for one jack: readings, contact and its timer (R57, R58), the
two valves (R59), and the marks of the running phase (R66, R67, R70, R71). -/
structure JackUnit where
  stroke : Nat
  pressure : Nat
  sensorFault : Bool
  contact : Bool
  contactTimer : Option Nat
  extending : Bool
  retracting : Bool
  /-- GROUND: the jack has reached the phase's goal (R66). -/
  goal : Bool
  /-- GROUND: its valve was closed at the stroke limit and the judgement waits for its contact timer (R67). -/
  waiting : Bool
  /-- LIFT: the stroke at which its valve closes (R70). -/
  target : Nat
  /-- TOUCHDOWN: the jack has been taken in this phase (R71). -/
  taken : Bool
  /-- TOUCHDOWN: the jack is marked unloaded (R71). -/
  unloaded : Bool
deriving DecidableEq, Repr

/-- What the solver returns (R80). -/
inductive Solution where
  | short (jacks : List Jack)
  | lifts (list : List (Jack × Nat)) (limited : Bool)
deriving DecidableEq, Repr

/-- The latest solver result, with the attitude and the pass it belongs to (R80). -/
structure SolverRecord where
  solution : Solution
  pitch : Int
  roll : Int
  pass : Nat
deriving DecidableEq, Repr

/-- The phase timers of a JACKS operation. -/
structure JackTimers where
  ground : Option Nat
  settle : Option Nat
  lift : Option Nat
  touchdown : Option Nat
  stow : Option Nat
  jog : Option Nat
deriving DecidableEq, Repr

/-- The Levelling Controller. The pump's demanded duty is 1000 while an extend valve is open and 0
otherwise (R59), so it is computed from the valves. -/
structure Lvc where
  jacks : Bank JackUnit 6
  pump : Nat
  levelled : Bool
  timers : JackTimers
  pend : Option Result
  /-- Whether the LEVEL's GROUND phase completed (R65). -/
  groundDone : Bool
  /-- TOUCHDOWN: the jack being extended and its noted stroke (R71). -/
  landing : Option (Jack × Nat)
  /-- The jacks extension handed on at the latest stroke sample (R63). -/
  extension : Nat
  solver : Option SolverRecord
deriving DecidableEq, Repr

/-! ### Slide Drive Controller (chapter 5) -/

/-- A motor channel, of a room (R88 to R100) or of the awning (R116, R117). -/
structure Motor where
  count : Nat
  /-- The direction of the drive, or of the last drive. -/
  dir : Option Dir
  driven : Bool
  /-- The expiry of its coast window (R90). -/
  coast : Option Nat
  applied : Nat
  amps : Nat
  /-- The stall detection run (R100). -/
  run : Nat
  /-- Pulses since start (R89). -/
  tally : Nat
  /-- A pulse has come since the stall window's last expiry, or since the start (R100). -/
  pulsed : Bool
  /-- Started for the operation that runs. -/
  started : Bool
  /-- Started by R108 after the grant, with a breakaway of its own. -/
  late : Bool
  /-- Stopped at its end by count, arrival or IN switch in this operation (R102, R103, R107). -/
  atEnd : Bool
deriving DecidableEq, Repr

/-- A pending end (R104, R124): a result, or one that the IN switch decides at the report. -/
inductive Pend where
  | result (r : Result)
  | bySwitch
deriving DecidableEq, Repr

/-- What the Slide Drive Controller holds for one room. -/
structure RoomUnit where
  a : Motor
  b : Motor
  referenced : Bool
  stray : Bool
  demanded : Nat
  ramped : Nat
  /-- In BREAKAWAY: the ramp does not act (R97, R98). -/
  breaking : Bool
  breakTimer : Option Nat
  /-- The breakaway timer of a motor started later by R108. -/
  lateTimer : Option Nat
  stallTimer : Option Nat
  jogTimer : Option Nat
  pend : Option Pend
  /-- The operation has entered CREEP, where it stays until it ends, a hold included (R20, R99). -/
  creeping : Bool
  /-- A grant of the operation found the room unreferenced: a ROOM_IN then stays in RUN until it ends (R99). -/
  blind : Bool
deriving DecidableEq, Repr

/-! ### Awning and Wind Unit (chapter 6) -/

/-- The awning channel and its running operation. -/
structure AwningUnit where
  motor : Motor
  referenced : Bool
  stray : Bool
  demanded : Nat
  ramped : Nat
  breaking : Bool
  /-- The operation has entered the creep window, which it keeps until it ends, a hold included (R20, R122). -/
  creeping : Bool
  breakTimer : Option Nat
  stallTimer : Option Nat
  jogTimer : Option Nat
  /-- The target count of the awning operation (R121, R122). -/
  target : Nat
  /-- The direction fixed for the AWNING_SET (R121). -/
  setDir : Option Dir
  pend : Option Pend
deriving DecidableEq, Repr

/-- The wind monitor (R127 to R129). -/
structure Wind where
  gateCount : Nat
  gateTimer : Option Nat
  lastCount : Nat
  lastSpeed : Nat
  window : List Nat
  trigger : Bool
  lockout : Option Nat
deriving DecidableEq, Repr

/-! ### Input Monitor (chapter 7) -/

/-- What the Input Monitor holds for one input. -/
structure InputUnit where
  /-- The level of the pin at the latest sample or poll. -/
  level : Level
  debounced : Option Contact
  firstDone : Bool
  debounce : Option Nat
  /-- The reading that started the first debounce timer (R136). -/
  firstReading : Option Contact
  fault : Bool
  faultTimer : Option Nat
  lastPoll : Option Contact
  pending : Option Contact
deriving DecidableEq, Repr

/-- The coach condition record (R142). -/
structure Coach where
  brake : Brake
  ignition : Bool
  door : Door
  eStop : EStop
  allStowed : Bool
  travelUnstowed : Bool
deriving DecidableEq, Repr

/-- The Input Monitor, with the power state and start-up (R136, R147, R149). -/
structure Inm where
  inputs : Bank InputUnit 24
  coach : Coach
  notReady : Bool
  parked : Bool
  wakeCause : Option WakeCause
  idle : Bool
  idleTimer : Option Nat
  pollTimer : Option Nat
  pollCount : Nat
deriving DecidableEq, Repr

/-! ### Clearance Monitor (chapter 8) -/

/-- What the Clearance Monitor holds for one entry beside the item (R155). -/
structure ClearUnit where
  active : Bool
  inside : Bool
  lastA : Option Nat
  lastB : Option Nat
deriving DecidableEq, Repr

/-- The Clearance Monitor. The order record (R160) stands with the subject whose operation it was
sent to, by group. -/
structure Clm where
  entries : Bank ClearUnit 8
  ordered : Bank Bool 6
deriving DecidableEq, Repr

/-! ### Link Interface Unit (chapters 9 and 10) -/

/-- A good frame waiting in a buffer: its KIND and its payload. -/
structure Frame where
  kind : Byte
  payload : List Byte
deriving DecidableEq, Repr

/-- What the last byte of a reply completes (R148, R171). -/
inductive After where
  | nothing
  | park
  | restart
deriving DecidableEq, Repr

/-- A built reply (R170): the fields of its frame and what it completes. -/
structure Reply where
  kind : Byte
  summary : Byte
  outcome : Byte
  data : List Byte
  after : After
deriving DecidableEq, Repr

/-- The receive assembler (R168). -/
inductive Assembler where
  | hunt
  | len
  | kind (len : Byte)
  | payload (len kind : Byte) (got : List Byte)
  | crc (len kind : Byte) (payload : List Byte) (low : Option Byte)
deriving DecidableEq, Repr

/-- One link: assembler, gap timer, pending-frame buffer (R169), and the replies built and not yet
wholly sent, oldest first, the head being the one that is sent (R171). -/
structure LinkUnit where
  assembler : Assembler
  gap : Option Nat
  buffer : List Frame
  replies : List Reply
deriving DecidableEq, Repr

/-- The Link Interface Unit. -/
structure Liu where
  coach : LinkUnit
  service : LinkUnit
  watchdog : Option Nat
  /-- WATCHDOG is present (R180). -/
  silent : Bool
  /-- The watchdog was running at the entry to parked (R179). -/
  watchdogNoted : Bool
  connected : Bool
  silence : Option Nat
  claims : Bank Claim 6
  /-- An accepted PARK waits for its entry (R148, R169). -/
  parkWait : Bool
deriving DecidableEq, Repr

/-! ### Notice Unit (chapter 11) -/

/-- A change set (R188), its flags as the bit sets of R176. -/
structure ChangeSet where
  cats : BitVec 8
  tags : List Nat
  truncated : Bool
  inputs : BitVec 24
  entries : BitVec 8
  attitude : BitVec 8
  wind : BitVec 8
deriving DecidableEq, Repr

/-- The members of the detail sets (R176): links, inputs, jacks, rooms and awning, channels. -/
structure Details where
  links : BitVec 8
  inputs : BitVec 24
  jacks : BitVec 8
  stray : BitVec 8
  channels : BitVec 16
deriving DecidableEq, Repr

/-- The fault record (R190): latched and present marks, the members present now and the members to
report, and the restart cause. -/
structure FaultRecord where
  latched : Word
  present : Word
  now : Details
  since : Details
  cause : RestartCause
deriving DecidableEq, Repr

/-- The Notice Unit with its two output pins, and the two measured conditions it keeps (R190): the
die's THERMAL state and the bridge fault inputs read asserted. -/
structure Ntu where
  coach : ChangeSet
  service : ChangeSet
  faults : FaultRecord
  mask : BitVec 8
  thermal : Bool
  bridges : BitVec 16
  /-- NOTE_N is asserted, that is driven low (R192). -/
  noteN : Bool
  /-- ALARM is asserted (R193). -/
  alarm : Bool
deriving DecidableEq, Repr

/-! ### Item Store (chapter 12) -/

/-- The Item Store: working table, image, the link whose store is in progress, and the item source. -/
structure Ist where
  items : Items
  image : Image
  storing : Option Link
  source : ItemSource
deriving DecidableEq, Repr

/-! ### The whole part -/

/-- The state of the FG640. `now`, `draws` and `pending` are the model's own: its clock in
milliseconds, the number of free values drawn so far, and the queue of waiting commands. -/
structure State where
  pending : List Instr
  now : Nat
  draws : Nat
  opt : Opt
  sta : Sta
  atu : Atu
  lvc : Lvc
  sdc : Bank RoomUnit 4
  awu : AwningUnit
  wind : Wind
  inm : Inm
  clm : Clm
  liu : Liu
  ntu : Ntu
  ist : Ist
deriving DecidableEq, Repr

/-- The reasons a command of this block could stop with a fault. There is none: every command of the
table has the effect its rule gives it, on every operand and in every state (log entry 1). -/
inductive Fault where
deriving DecidableEq, Repr

/-- The reasons a command could be refused by the model. -/
inductive Refusal where
  /-- The command has no meaning in the model yet; raised in `exec`'s own arms only. Safe. No arm
  raises it. -/
  | notModelled (mnemonic : String)
deriving DecidableEq, Repr

/-! ### Reset -/

/-- After every reset all four slots are free, the ended list is empty, both counters hold 0 and the
internal tag counter holds 240 (R1). -/
def Opt.reset : Opt :=
  { slots := Bank.fill 4 none, endedList := [], admissions := 0, ends := 0, internalTag := 240 }

/-- R27, R29, R34, R35: empty queue, both sums 0, timers stopped, window empty, flags clear, state LOW. -/
def Sta.reset : Sta :=
  { queue := [], resSum := 0, normalSum := 0, stagger := none, samples := [], filtered := none
    flags := { underSet := false, overSet := false, holdSet := false, cutSet := false }
    holdTimer := none, supply := .low }

/-- R45, R47, R51: empty window, both runs 0, attitude invalid, no sensor fault, drift timer stopped. -/
def Atu.reset : Atu :=
  { window := [], validRun := 0, invalidRun := 0, filtered := none, sensorFault := false, drift := none }

/-- R57 to R59: no reading taken, not in contact, timer stopped, valves closed. -/
def JackUnit.reset : JackUnit :=
  { stroke := 0, pressure := 0, sensorFault := false, contact := false, contactTimer := none, extending := false
    retracting := false, goal := false, waiting := false, target := 0, taken := false, unloaded := false }

/-- Every phase timer stopped (R74). -/
def JackTimers.stopped : JackTimers :=
  { ground := none, settle := none, lift := none, touchdown := none, stow := none, jog := none }

/-- R57 to R61, R63: every held value 0, both duties 0, LEVELLED clear, no solver result. -/
def Lvc.reset : Lvc :=
  { jacks := Bank.fill 6 JackUnit.reset, pump := 0, levelled := false, timers := JackTimers.stopped, pend := none
    groundDone := false, landing := none, extension := 0, solver := none }

/-- R88 to R90, R97: off, duty 0, no direction, count, tally and run 0, no coast window, current 0. -/
def Motor.reset : Motor :=
  { count := 0, dir := none, driven := false, coast := none, applied := 0, amps := 0, run := 0, tally := 0
    pulsed := false, started := false, late := false, atEnd := false }

/-- R90, R92, R97: reference flag clear, no stray, both duties 0, timers stopped. -/
def RoomUnit.reset : RoomUnit :=
  { a := Motor.reset, b := Motor.reset, referenced := false, stray := false, demanded := 0, ramped := 0
    breaking := false, breakTimer := none, lateTimer := none, stallTimer := none, jogTimer := none, pend := none
    creeping := false, blind := false }

/-- R116 to R119. -/
def AwningUnit.reset : AwningUnit :=
  { motor := Motor.reset, referenced := false, stray := false, demanded := 0, ramped := 0, breaking := false
    creeping := false, breakTimer := none, stallTimer := none, jogTimer := none, target := 0, setDir := none
    pend := none }

/-- R127 to R129 at a reset taken at time `now`: the first gate ends 1000 ms later, the window is
empty, the trigger is not present and the lockout timer is stopped. DESIGN CHOICE (log entry 48): the count and speed of
the last completed gate, which R133 returns, are 0 until a gate ends. -/
def Wind.reset (now : Nat) : Wind :=
  { gateCount := 0, gateTimer := some (now + 1000), lastCount := 0, lastSpeed := 0, window := [], trigger := false
    lockout := none }

/-- R134: no debounced state, timers stopped, fault flag clear; the pin at its pull-up (log entry 6). DESIGN CHOICE (log
entry 66): no last poll reading and no pending polled value. -/
def InputUnit.reset : InputUnit :=
  { level := .pullUp, debounced := none, firstDone := false, debounce := none, firstReading := none, fault := false
    faultTimer := none, lastPoll := none, pending := none }

/-- The record of R142 until start-up ends. -/
def Coach.startUp : Coach :=
  { brake := .notAssigned, ignition := false, door := .notFitted, eStop := .notAssigned, allStowed := false
    travelUnstowed := false }

/-- R142, R147, R153, R198: not ready, awake, no wake cause, timers stopped. DESIGN CHOICE (log entry 66): the poll
counter at 0. -/
def Inm.reset : Inm :=
  { inputs := Bank.fill 24 InputUnit.reset, coach := Coach.startUp, notReady := true, parked := false
    wakeCause := none, idle := false, idleTimer := none, pollTimer := none, pollCount := 0 }

/-- R155: every flag clear, no last judged position, no order recorded. -/
def Clm.reset : Clm :=
  { entries := Bank.fill 8 { active := false, inside := false, lastA := none, lastB := none }
    ordered := Bank.fill 6 false }

/-- R168: assembler in HUNT, gap timer stopped, buffer empty, no reply being sent. -/
def LinkUnit.reset : LinkUnit := { assembler := .hunt, gap := none, buffer := [], replies := [] }

/-- R168, R179, R181 and chapter 10: watchdog and silence timer stopped, not connected, every group free. -/
def Liu.reset : Liu :=
  { coach := LinkUnit.reset, service := LinkUnit.reset, watchdog := none, silent := false, watchdogNoted := false
    connected := false, silence := none, claims := Bank.fill 6 .free, parkWait := false }

/-- After every reset each change set holds the POWER category alone (R188). -/
def ChangeSet.reset : ChangeSet :=
  { cats := Category.power.bit, tags := [], truncated := false, inputs := 0, entries := 0, attitude := 0, wind := 0 }

/-- No member. -/
def Details.none : Details := { links := 0, inputs := 0, jacks := 0, stray := 0, channels := 0 }

/-- R190, R192, R193, R197 for a reset of this cause with the items loaded from this source: RESTART
latched, ITEMS_DEFAULTED present and latched when the items are defaulted, every other mark clear,
mask 0, NOTE_N asserted by POWER and RESTART, ALARM deasserted. -/
def Ntu.reset (cause : RestartCause) (source : ItemSource) : Ntu :=
  { coach := ChangeSet.reset, service := ChangeSet.reset
    faults :=
      { latched :=
          match source with
          | .image => FaultKind.restart.bit
          | .defaulted => FaultKind.restart.bit ||| FaultKind.itemsDefaulted.bit
        present :=
          match source with
          | .image => 0
          | .defaulted => FaultKind.itemsDefaulted.bit
        now := Details.none, since := Details.none, cause := cause }
    mask := 0, thermal := false, bridges := 0, noteN := true, alarm := false }

/-- The state a reset at time `now` leaves, for a cause, a loaded item table, its source and the image
it was read from (R197 and the reset sentences of every chapter). -/
def State.boot (pending : List Instr) (now draws : Nat) (cause : RestartCause) (items : Items)
    (source : ItemSource) (image : Image) : State :=
  { pending := pending, now := now, draws := draws, opt := Opt.reset, sta := Sta.reset, atu := Atu.reset
    lvc := Lvc.reset, sdc := Bank.fill 4 RoomUnit.reset, awu := AwningUnit.reset, wind := Wind.reset now
    inm := Inm.reset, clm := Clm.reset, liu := Liu.reset, ntu := Ntu.reset cause source
    ist := { items := items, image := image, storing := none, source := source } }

/-- A blank image: no bytes, and a check word that does not match them (section 12.5, log entry 5). -/
def Image.blank : Image := { bytes := [], check := 0 }

/-- The FG640 right after a POWER_ON reset of a new board: the image is blank, so the working table
takes every default and the items are defaulted (R197, section 12.5). -/
def State.reset : State :=
  State.boot [] 0 0 .powerOn Items.default .defaulted Image.blank

end Sys2Proof.Machine
end

