-- ==== Sys2Proof/Machine/Ops.lean ====
section
/-! DEFINITION. The named operations over the state: what a record, an input, a motor or a condition
reads as, and the updates every block shares (notices, faults, timers, claims). -/

namespace Sys2Proof.Machine

/-! ### Records -/

/-- The working item table. -/
def State.items (s : State) : Items := s.ist.items

/-- The record in a slot. -/
def State.opAt (s : State) (sl : Slot) : Option Op := s.opt.slots.get sl

/-- The state with a record written into a slot. -/
def State.setOp (s : State) (sl : Slot) (o : Op) : State :=
  { s with opt := { s.opt with slots := s.opt.slots.set sl (some o) } }

/-- The state with a slot freed and its tag taken off the ended list (R1, R7). -/
def State.clearSlot (s : State) (sl : Slot) : State :=
  match s.opAt sl with
  | none => s
  | some o =>
    { s with opt := { s.opt with slots := s.opt.slots.set sl none
                                 endedList := s.opt.endedList.filter (fun t => t != o.tag) } }

/-- The slot of the record that satisfies `p`, lowest first. -/
def State.findSlot (s : State) (p : Op → Bool) : Option Slot :=
  slots.find? (fun sl => (s.opAt sl).any p)

/-- The occupied slots whose record satisfies `p`, in ascending order (R5). -/
def State.slotsWhere (s : State) (p : Op → Bool) : List Slot :=
  slots.filter (fun sl => (s.opAt sl).any p)

/-- The slot of a tag in use (R4). -/
def State.slotOfTag (s : State) (tag : Nat) : Option Slot := s.findSlot (fun o => o.tag == tag)

/-- The slot of the non-ended operation of a group (R10). -/
def State.busySlot (s : State) (g : Group) : Option Slot :=
  s.findSlot (fun o => o.job.group == g && !o.state.isEnded)

/-- The record of the non-ended operation of a group. -/
def State.busyOp (s : State) (g : Group) : Option Op := (s.busySlot g).bind s.opAt

/-- Whether any operation is non-ended. -/
def State.anyNonEnded (s : State) : Bool := (s.findSlot (fun o => !o.state.isEnded)).isSome

/-- The slot and record of the RUNNING or STOPPING operation of a group. -/
def State.activeOp (s : State) (g : Group) : Option (Slot × Op) :=
  match s.busySlot g with
  | none => none
  | some sl =>
    match s.opAt sl with
    | some o => if o.state.active then some (sl, o) else none
    | none => none

/-- The slot and record of the RUNNING operation of a group. -/
def State.runningOp (s : State) (g : Group) : Option (Slot × Op) :=
  match s.activeOp g with
  | some (sl, o) => if o.state.isRunning then some (sl, o) else none
  | none => none

/-- Whether some room operation is RUNNING or STOPPING (R33). -/
def State.roomMoving (s : State) : Bool :=
  (s.findSlot (fun o => o.job.group.isRoom && o.state.active)).isSome

/-- Whether a JACKS operation is RUNNING or STOPPING (R33). -/
def State.jacksMoving (s : State) : Bool :=
  (s.findSlot (fun o => o.job.group == .jacks && o.state.active)).isSome

/-- The state with the phase of a RUNNING operation written, as its group controller reports it (R2). -/
def State.reportPhase (s : State) (sl : Slot) (p : Phase) : State :=
  match s.opAt sl with
  | some o =>
    match o.state with
    | .running _ => s.setOp sl { o with state := .running (some p) }
    | _ => s
  | none => s

/-! ### Switch inputs -/

/-- What the Input Monitor holds for an input. -/
def State.input (s : State) (i : Input) : InputUnit := s.inm.inputs.get i

/-- The state with one input's unit changed. -/
def State.modInput (s : State) (i : Input) (f : InputUnit → InputUnit) : State :=
  { s with inm := { s.inm with inputs := s.inm.inputs.modify i f } }

/-- The function of an input. -/
def State.funcOf (s : State) (i : Input) : Func := s.items.inp.function.get i

/-- The input that holds a function (R138). -/
def State.inputOf (s : State) (f : Func) : Option Input :=
  inputNumbers.find? (fun i => decide (s.funcOf i = f))

/-- What a function reads: the debounced state of its input, open before the first debounce and while
the function is unassigned (R136, R138). -/
def State.reads (s : State) (f : Func) : Contact :=
  match s.inputOf f with
  | none => .opened
  | some i => (s.input i).debounced.getD .opened

/-- Whether a function reads closed. -/
def State.shut (s : State) (f : Func) : Bool := s.reads f == .closed

/-- The reading of a pin's level under an inversion (R134). -/
def readLevel (invert : Bool) : Level → Reading
  | .low => if invert then .opened else .closed
  | .pullUp => if invert then .closed else .opened
  | .battery => .short

/-- The present reading of an input under its input_invert item. -/
def State.reading (s : State) (i : Input) : Reading :=
  readLevel (s.items.inp.invert.get i) (s.input i).level

/-- The contact a reading stands for; a short reading stands for none. -/
def Reading.contact : Reading → Option Contact
  | .closed => some .closed
  | .opened => some .opened
  | .short => none

/-- The opposite debounced state (R135). -/
def Contact.flip : Contact → Contact
  | .closed => .opened
  | .opened => .closed

/-- The mandatory functions of R139 for the present configuration, in the order the rule lists them. -/
def State.mandatory (s : State) : List Func :=
  [Func.parkBrake, Func.eStop] ++ s.items.rooms.map Func.roomIn ++ s.items.jacks.map Func.jackUp
    ++ (if s.items.awn.present then [Func.awningIn] else [])

/-- The mandatory functions held by no input (R139). -/
def State.unassigned (s : State) : List Func :=
  s.mandatory.filter (fun f => (s.inputOf f).isNone)

/-! ### Motors and positions -/

/-- A motor of the part: a room's, or the awning's. -/
inductive MotorRef where
  | room (n : Room) (m : MotorId)
  | awning
deriving DecidableEq, Repr

/-- The room and motor of a channel (R88). -/
def channelRoom (c : Channel) : Room := ⟨c.val / 2, by omega⟩

/-- The motor of a channel (R88). -/
def channelMotor (c : Channel) : MotorId := if c.val % 2 = 0 then .a else .b

/-- A motor of a room. -/
def RoomUnit.motor (r : RoomUnit) : MotorId → Motor
  | .a => r.a
  | .b => r.b

/-- The room with one motor changed. -/
def RoomUnit.modMotor (r : RoomUnit) (m : MotorId) (f : Motor → Motor) : RoomUnit :=
  match m with
  | .a => { r with a := f r.a }
  | .b => { r with b := f r.b }

/-- The unit of a room. -/
def State.roomUnit (s : State) (n : Room) : RoomUnit := s.sdc.get n

/-- The state with a room's unit changed. -/
def State.modRoom (s : State) (n : Room) (f : RoomUnit → RoomUnit) : State :=
  { s with sdc := s.sdc.modify n f }

/-- The state with a room's motor changed. -/
def State.modRoomMotor (s : State) (n : Room) (m : MotorId) (f : Motor → Motor) : State :=
  s.modRoom n (fun r => r.modMotor m f)

/-- The state with the awning's unit changed. -/
def State.modAwning (s : State) (f : AwningUnit → AwningUnit) : State := { s with awu := f s.awu }

/-- The state with the awning's motor changed. -/
def State.modAwningMotor (s : State) (f : Motor → Motor) : State :=
  s.modAwning (fun a => { a with motor := f a.motor })

/-- The motor a reference names. -/
def State.motor (s : State) : MotorRef → Motor
  | .room n m => (s.roomUnit n).motor m
  | .awning => s.awu.motor

/-- The travel item of a motor's group (R89, R117). -/
def State.travelOf (s : State) : MotorRef → Nat
  | .room n _ => s.items.room.travel.get n
  | .awning => s.items.awn.travel

/-- A position in permille: count × 1000 div travel, clamped to 0..1000 (R91, R117). -/
def permilleOf (count travel : Nat) : Nat := min 1000 (count * 1000 / travel)

/-- A motor's position (R91, R117). -/
def State.motorPosition (s : State) (r : MotorRef) : Nat := permilleOf (s.motor r).count (s.travelOf r)

/-- A pulse outward adds 1 and a pulse inward takes 1, held within 0..travel + 200 (R89). -/
def pulseCount (travel count : Nat) : Dir → Nat
  | .outward => min (travel + 200) (count + 1)
  | .inward => count - 1

/-- The direction toward a room operation's target end (R91): OUT for ROOM_OUT and an outward jog, IN
for ROOM_IN and an inward jog. -/
def Job.roomDir (j : Job) : Dir :=
  match j.kind with
  | .roomOut => .outward
  | .roomIn => .inward
  | _ => j.dir.getD .inward

/-- The room position (R91), absent while the room is unreferenced. -/
def State.roomPosition (s : State) (n : Room) : Option Nat :=
  if (s.roomUnit n).referenced then
    let pa := s.motorPosition (.room n .a)
    if s.items.room.motors.get n = 2 then
      let pb := s.motorPosition (.room n .b)
      match s.busyOp (.room n) with
      | none => some (max pa pb)
      | some o =>
        match o.job.roomDir with
        | .outward => some (min pa pb)
        | .inward => some (max pa pb)
    else some pa
  else none

/-- The awning position (R117), absent while unreferenced. -/
def State.awningPosition (s : State) : Option Nat :=
  if s.awu.referenced then some (s.motorPosition .awning) else none

/-! ### Conditions -/

/-- The unit of a jack. -/
def State.jack (s : State) (j : Jack) : JackUnit := s.lvc.jacks.get j

/-- The state with one jack's unit changed. -/
def State.modJack (s : State) (j : Jack) (f : JackUnit → JackUnit) : State :=
  { s with lvc := { s.lvc with jacks := s.lvc.jacks.modify j f } }

/-- The state with every jack's unit changed. -/
def State.modJacks (s : State) (f : JackUnit → JackUnit) : State :=
  { s with lvc := { s.lvc with jacks := s.lvc.jacks.map f } }

/-- Every configured jack is in contact. -/
def State.allContact (s : State) : Bool := s.items.jacks.all (fun j => (s.jack j).contact)

/-- The JACK_UP input of every configured jack reads closed. -/
def State.allJacksUp (s : State) : Bool := s.items.jacks.all (fun j => s.shut (.jackUp j))

/-- The jacks condition (R61): STOWED when the group is not configured, else the first row that holds. -/
def State.jacksCondition (s : State) : JacksCondition :=
  if s.items.jacks.isEmpty then .stowed
  else if s.lvc.levelled then .levelled
  else if s.allJacksUp then .stowed
  else if s.allContact then .grounded
  else .partly

/-- GROUNDED or LEVELLED: the jacks condition that R65, R81 and R94 ask for. -/
def State.jacksDown (s : State) : Bool :=
  match s.jacksCondition with
  | .grounded => true
  | .levelled => true
  | _ => false

/-- A room's condition (R93): the first row that holds. -/
def State.roomCondition (s : State) (n : Room) : RoomCondition :=
  if !(s.roomUnit n).referenced && !s.shut (.roomIn n) then .unknown
  else if s.shut (.roomIn n) then .inside
  else if (s.items.motors n).all
      (fun m => decide (1000 - s.items.room.profile.endZone * 1000 / s.items.room.travel.get n
        ≤ s.motorPosition (.room n m))) then .outside
  else .between

/-- Some configured room is not IN. -/
def State.someRoomOut (s : State) : Bool :=
  s.items.rooms.any (fun n => !(s.roomCondition n == .inside))

/-- The awning's condition (R118): the first row that holds. -/
def State.awningCondition (s : State) : AwningCondition :=
  if !s.awu.referenced && !s.shut .awningIn then .unknown
  else if s.shut .awningIn then .inside
  else .outside

/-- All stowed (R142): jacks STOWED, every configured room IN, the awning IN or absent. -/
def State.allStowed (s : State) : Bool :=
  s.jacksCondition == .stowed && !s.someRoomOut && (!s.items.awn.present || s.awningCondition == .inside)

/-- The park brake field (R142). -/
def State.brakeNow (s : State) : Brake :=
  match s.inputOf .parkBrake with
  | none => .notAssigned
  | some _ => if s.shut .parkBrake then .set else .released

/-- The E-stop field (R142). -/
def State.eStopNow (s : State) : EStop :=
  match s.inputOf .eStop with
  | none => .notAssigned
  | some _ => if s.shut .eStop then .normal else .stop

/-- The door field (R142). -/
def State.doorNow (s : State) : Door :=
  match s.inputOf .door with
  | none => .notFitted
  | some _ => if s.shut .door then .closed else .opened

/-- The coach condition record as R142 and R145 derive it from the present inputs and conditions; the
start-up record until start-up ends. -/
def State.coachNow (s : State) : Coach :=
  if s.inm.notReady then Coach.startUp
  else
    { brake := s.brakeNow, ignition := s.shut .ignition, door := s.doorNow, eStop := s.eStopNow
      allStowed := s.allStowed
      travelUnstowed := s.brakeNow == .released && !s.allStowed }

/-- Attitude is valid exactly while a filtered value exists (R45, R47). -/
def State.attitudeValid (s : State) : Bool := s.atu.filtered.isSome

/-- The reported attitude (R48): filtered less the reference offsets, each clamped to ±3000. -/
def State.reported (s : State) : Option Tilt :=
  s.atu.filtered.map (fun f =>
    { pitch := clampInt (-3000) 3000 (f.pitch - s.items.att.refPitch)
      roll := clampInt (-3000) 3000 (f.roll - s.items.att.refRoll) })

/-- Both axes of an attitude lie at or below a bound in absolute value. -/
def Tilt.within (t : Tilt) (bound : Nat) : Bool := decide (t.pitch.natAbs ≤ bound ∧ t.roll.natAbs ≤ bound)

/-- The drift monitor is watching (R51). -/
def State.watching (s : State) : Bool :=
  s.jacksCondition == .levelled && !s.inm.parked && s.attitudeValid

/-- The pump's demanded duty (R59): 1000 while any extend valve is open, 0 while none is. -/
def State.pumpDemand (s : State) : Nat :=
  if s.lvc.jacks.cells.any (fun j => j.extending) then 1000 else 0

/-- The stroke limit of a jack: stroke_max less stroke_reserve (R67, R71, R84). -/
def State.strokeLimit (s : State) (j : Jack) : Nat :=
  s.items.jack.strokeMax.get j - s.items.jack.strokeReserve

/-! ### Notices (R188) -/

/-- A raise in one set: the category. -/
def ChangeSet.raise (c : ChangeSet) (k : Category) : ChangeSet := { c with cats := c.cats ||| k.bit }

/-- The state with both change sets changed alike. -/
def State.modSets (s : State) (f : ChangeSet → ChangeSet) : State :=
  { s with ntu := { s.ntu with coach := f s.ntu.coach, service := f s.ntu.service } }

/-- A raise without a detail on both links. -/
def State.raise (s : State) (k : Category) : State := s.modSets (fun c => c.raise k)

/-- A raise of ATTITUDE with details (R176: LEVEL_DRIFT bit 0, JACK_UNLOADED bit 1, relevel skipped
bit 2, validity change bit 3). -/
def State.raiseAttitude (s : State) (detail : BitVec 8) : State :=
  s.modSets (fun c => { c.raise .attitude with attitude := c.attitude ||| detail })

/-- A raise of WIND with details (R176: trigger bit 0, lockout start bit 1, lockout end bit 2). -/
def State.raiseWind (s : State) (detail : BitVec 8) : State :=
  s.modSets (fun c => { c.raise .wind with wind := c.wind ||| detail })

/-- A bit of a bit set, by its place. -/
def bitAt (w n : Nat) : BitVec w := BitVec.ofNat w (2 ^ n)

/-- A raise of INPUTS with an input's change flag (R146). -/
def State.raiseInput (s : State) (i : Input) : State :=
  s.modSets (fun c => { c.raise .inputs with inputs := c.inputs ||| bitAt 24 i.val })

/-- A clearance entry's flag on both links (R160, R163). No category stands beside these flags (log
entry 30). -/
def State.flagEntry (s : State) (k : Entry) : State :=
  s.modSets (fun c => { c with entries := c.entries ||| bitAt 8 k.val })

/-- A tag enters the ended/held tag list of one set, and OPS is raised (R188). -/
def ChangeSet.noteTag (c : ChangeSet) (tag : Nat) : ChangeSet :=
  let c := c.raise .ops
  if c.tags.contains tag then c
  else if c.tags.length < 8 then { c with tags := c.tags ++ [tag] }
  else { c with truncated := true }

/-- A tag enters the ended/held tag list of both sets (R15, R20). -/
def State.noteTag (s : State) (tag : Nat) : State := s.modSets (fun c => c.noteTag tag)

/-- An event-only fault kind, or a kind latched by its event: the mark is latched and FAULT raised
(R190). -/
def State.latch (s : State) (k : FaultKind) : State :=
  let s := s.raise .fault
  { s with ntu := { s.ntu with faults := { s.ntu.faults with latched := s.ntu.faults.latched ||| k.bit } } }

/-- The bit of a link in the LINK_ERROR detail (R176). -/
def linkBit : Link → BitVec 8
  | .coach => 0x01#8
  | .service => 0x02#8

/-- A discarded frame: LINK_ERROR with its link (R168, R190). -/
def State.linkError (s : State) (l : Link) : State :=
  let s := s.latch .linkError
  { s with ntu := { s.ntu with faults :=
      { s.ntu.faults with since := { s.ntu.faults.since with links := s.ntu.faults.since.links ||| linkBit l } } } }

/-! ### Links and claims -/

/-- The unit of a link. -/
def State.link (s : State) : Link → LinkUnit
  | .coach => s.liu.coach
  | .service => s.liu.service

/-- The state with one link's unit changed. -/
def State.modLink (s : State) (l : Link) (f : LinkUnit → LinkUnit) : State :=
  match l with
  | .coach => { s with liu := { s.liu with coach := f s.liu.coach } }
  | .service => { s with liu := { s.liu with service := f s.liu.service } }

/-- The entry of a group in the claims map. -/
def State.claimOf (s : State) (g : Group) : Claim := s.liu.claims.get g.idx

/-- A group counts as claimed while it is claimed or pending (R185). -/
def State.claimed (s : State) (g : Group) : Bool := !(s.claimOf g == .free)

/-- The state with a group's entry of the claims map written. -/
def State.setClaim (s : State) (g : Group) (c : Claim) : State :=
  { s with liu := { s.liu with claims := s.liu.claims.set g.idx c } }

/-- The operations a CLAIM cancels (R183): LINK origin, or INTERNAL origin and NORMAL class. -/
def Op.claimable (o : Op) : Bool :=
  o.job.origin == .link || (o.job.origin == .internal && o.opClass == .normal)

/-- The group holds a non-ended operation that a CLAIM cancels. -/
def State.hostBusy (s : State) (g : Group) : Bool :=
  (s.findSlot (fun o => o.job.group == g && !o.state.isEnded && o.claimable)).isSome

/-- A pending group whose last cancelled operation has left becomes claimed (R183). DESIGN CHOICE (log entry 62): this raises
no CLAIMS. -/
def State.settleClaims (s : State) : State :=
  groups.foldl (fun s g => if s.claimOf g == .pending && !s.hostBusy g then s.setClaim g .claimed else s) s

/-! ### Time -/

/-- The whole seconds left to an expiry (log entry 8). -/
def State.secondsLeft (s : State) (expiry : Nat) : Nat := (expiry - s.now) / 1000

/-- Whether the wind lockout runs or a trigger is present (R120, R130). -/
def State.windBars (s : State) : Bool := s.wind.lockout.isSome || s.wind.trigger

end Sys2Proof.Machine
end

