-- ==== Sys2Proof/Machine/Solver.lean ====
section
/-! DEFINITION. The solver of section 4.4: one lift per configured jack from a pitch and a roll, by the
stages elevation (R75), lift (R76), pass scaling (R77), deadband (R78) and stroke (R79). -/

namespace Sys2Proof.Machine

/-- A quotient by 1,000,000 rounded to the nearest, halves away from zero (R75). -/
def roundMicro (n : Int) : Int :=
  if 0 ≤ n then (n + 500000) / 1000000 else -((-n + 500000) / 1000000)

/-- The elevation stage for one jack point (R75): z in micrometres. -/
def elevation (x y pitch roll : Int) : Int := roundMicro ((x * pitch + y * roll) * 174533)

/-- What the solver takes for one configured jack (R75): its place, its height and its available stroke. -/
structure JackPoint where
  jack : Jack
  z : Int
  avail : Nat
deriving DecidableEq, Repr

/-- The greatest height (R76). -/
def zMax (l : List JackPoint) : Int :=
  match l with
  | [] => 0
  | p :: rest => rest.foldl (fun m q => max m q.z) p.z

/-- The lift stage (R76): micrometres to the highest point, rounded to millimetres, halves up. -/
def liftStage (l : List JackPoint) : List Nat := l.map (fun p => ((zMax l - p.z + 500) / 1000).toNat)

/-- The greatest lift. -/
def greatest (l : List Nat) : Nat := l.foldl max 0

/-- The pass-scaling stage (R77). -/
def scaleStage (maxPassLift : Nat) (l : List Nat) : List Nat :=
  if maxPassLift < greatest l then l.map (fun x => x * maxPassLift / greatest l) else l

/-- The deadband stage (R78). -/
def deadbandStage (minMove : Nat) (l : List Nat) : List Nat := l.map (fun x => if x < minMove then 0 else x)

/-- The stroke stage (R79): with BEST_EFFORT a lift beyond the available stroke is cut to it and the
result is marked; without, any such jack makes the result STROKE_SHORT. -/
def strokeStage (bestEffort : Bool) (points : List JackPoint) (lifts : List Nat) : Solution :=
  let pairs := points.zip lifts
  let beyond := pairs.filter (fun p => decide (p.1.avail < p.2))
  if beyond.isEmpty then .lifts (pairs.map (fun p => (p.1.jack, p.2))) false
  else if bestEffort then .lifts (pairs.map (fun p => (p.1.jack, min p.2 p.1.avail))) true
  else .short (beyond.map (fun p => p.1.jack))

/-- The five stages in their order. -/
def solve (maxPassLift minMove : Nat) (bestEffort : Bool) (points : List JackPoint) : Solution :=
  strokeStage bestEffort points (deadbandStage minMove (scaleStage maxPassLift (liftStage points)))

/-- The solver's inputs at SOLVE (R75, R79). -/
def State.jackPoints (s : State) (t : Tilt) : List JackPoint :=
  s.items.jacks.map (fun j =>
    { jack := j
      z := elevation (s.items.jack.x.get j) (s.items.jack.y.get j) t.pitch t.roll
      avail := s.items.jack.strokeMax.get j - (s.jack j).stroke - s.items.jack.strokeReserve })

/-- The solver run on a reported attitude for an operation (R75 to R80). -/
def State.runSolver (s : State) (t : Tilt) (bestEffort : Bool) : Solution :=
  solve s.items.jack.maxPassLift s.items.jack.minMove bestEffort (s.jackPoints t)

end Sys2Proof.Machine
end

