-- ==== Sys2Proof/Machine/Flags.lean ====
section
/-! DEFINITION. Every flag the part computes: the supply flags and state (R36, R37), the fault marks
and detail sets (R190), the two attention outputs (R192, R193) and the summary byte (R172). -/

namespace Sys2Proof.Machine

/-! ### Supply flags (R36, R37) -/

/-- A flag between its set and clear levels keeps its value (R36). -/
def holdFlag (old setNow clearNow : Bool) : Bool := if setNow then true else if clearNow then false else old

/-- The filtered voltage: the eight samples plus 4, div 8 (R35). -/
def filterVoltage (samples : List Nat) : Nat := (samples.sum + 4) / 8

/-- The four flags at an evaluation (R36). The hold flag is set only by its timer's expiry. -/
def evalFlags (t : SupplyItems) (v : Nat) (f : SupplyFlags) : SupplyFlags :=
  { underSet := holdFlag f.underSet (decide (v < t.vAdmit)) (decide (t.vAdmit + t.hysteresis ≤ v))
    overSet := holdFlag f.overSet (decide (t.vOver < v)) (decide (v + t.hysteresis ≤ t.vOver))
    holdSet := holdFlag f.holdSet false (decide (t.vHold + t.hysteresis ≤ v))
    cutSet := holdFlag f.cutSet (decide (v < t.vCut)) (decide (t.vCut + t.hysteresis ≤ v)) }

/-- The hold timer at an evaluation (R36): started below v_hold with the hold flag clear and the timer
stopped; stopped at or above v_hold. -/
def evalHoldTimer (t : SupplyItems) (v now : Nat) (f : SupplyFlags) (timer : Option Nat) : Option Nat :=
  if v < t.vHold then
    match timer with
    | some e => some e
    | none => if f.holdSet then none else some (now + 500)
  else none

/-- The supply state of the flags (R37). -/
def SupplyFlags.state (f : SupplyFlags) : SupplyState :=
  if f.cutSet then .cut else if f.holdSet then .hold else if f.underSet || f.overSet then .low else .normal

/-! ### Fault marks (R190) -/

/-- A bit where a condition holds. -/
def markIf (b : Bool) (k : FaultKind) : Word := if b then k.bit else 0

/-- The bits of the places where a list holds `true`. -/
def bitsOf (w : Nat) (l : List Bool) : BitVec w :=
  (l.zipIdx).foldl (fun acc p => if p.1 then acc ||| bitAt w p.2 else acc) 0

/-- The rooms and the awning whose STRAY_MOTION is present (R176: rooms in bits 0..3, AWNING in bit 4). -/
def State.strayBits (s : State) : BitVec 8 :=
  bitsOf 8 (s.sdc.cells.map (fun r => r.stray) ++ [s.awu.stray])

/-- The members present now of each detail set (R190). LINK_ERROR is event only. -/
def State.detailsNow (s : State) : Details :=
  { links := 0
    inputs := bitsOf 24 (s.inm.inputs.cells.map (fun i => i.fault))
    jacks := bitsOf 8 (s.lvc.jacks.cells.map (fun j => j.sensorFault))
    stray := s.strayBits
    channels := s.ntu.bridges }

/-- The kinds present now (R190), from the state of the blocks that hold each condition. -/
def State.presentNow (s : State) : Word :=
  markIf s.liu.silent .watchdog
  ||| markIf s.sta.flags.underSet .supplyUnder
  ||| markIf s.sta.flags.overSet .supplyOver
  ||| markIf s.ntu.thermal .thermal
  ||| markIf s.atu.sensorFault .attitudeSensor
  ||| markIf (!(s.detailsNow.jacks == 0)) .jackSensor
  ||| markIf (!(s.detailsNow.inputs == 0)) .inputFault
  ||| markIf (!(s.strayBits == 0)) .strayMotion
  ||| markIf (!(s.ntu.bridges == 0)) .driveFault
  ||| markIf s.inm.coach.travelUnstowed .travelUnstowed
  ||| markIf (s.inm.coach.eStop == .stop) .eStop
  ||| markIf (s.ist.source == .defaulted) .itemsDefaulted

/-- The members that are present now and were not at the last evaluation, by kind. -/
def newMembers (now old : Details) : Details :=
  { links := 0
    inputs := now.inputs &&& ~~~ old.inputs
    jacks := now.jacks &&& ~~~ old.jacks
    stray := now.stray &&& ~~~ old.stray
    channels := now.channels &&& ~~~ old.channels }

/-- The kinds with a further member present (R190). -/
def Details.kinds (d : Details) : Word :=
  markIf (!(d.inputs == 0)) .inputFault ||| markIf (!(d.jacks == 0)) .jackSensor
  ||| markIf (!(d.stray == 0)) .strayMotion ||| markIf (!(d.channels == 0)) .driveFault

/-- Two detail sets together. -/
def Details.join (a b : Details) : Details :=
  { links := a.links ||| b.links, inputs := a.inputs ||| b.inputs, jacks := a.jacks ||| b.jacks
    stray := a.stray ||| b.stray, channels := a.channels ||| b.channels }

/-- The fault record follows the blocks (R190): a kind, or a further member of its detail, that becomes
present latches the kind and raises FAULT on both links. -/
def State.syncFaults (s : State) : State :=
  let now := s.detailsNow
  let present := s.presentNow
  let fresh := (present &&& ~~~ s.ntu.faults.present) ||| (newMembers now s.ntu.faults.now).kinds
  let s := if fresh = 0 then s else s.raise .fault
  { s with ntu := { s.ntu with faults :=
      { s.ntu.faults with latched := s.ntu.faults.latched ||| fresh
                          present := present
                          now := now
                          since := s.ntu.faults.since.join now } } }

/-! ### NOTE_N and ALARM -/

/-- NOTE_N is asserted exactly while the coach link's change set holds a category not masked, or a
kind is latched while the FAULT bit of the mask is clear (R192). -/
def State.noteDue (s : State) : Bool :=
  !(s.ntu.coach.cats &&& ~~~ s.ntu.mask == 0)
  || (!(s.ntu.faults.latched == 0) && (s.ntu.mask &&& Category.fault.bit == 0))

/-- A record that has ended FAILED(OBSTRUCTED) still occupies its slot (R193). -/
def State.obstructed (s : State) : Bool :=
  (s.findSlot (fun o =>
    match o.state with
    | .ended (.failed .obstructed) _ _ => true
    | _ => false)).isSome

/-- ALARM's three causes under alarm_mask (R193). -/
def State.alarmDue (s : State) : Bool :=
  (s.inm.coach.travelUnstowed && !s.items.alarmMask.getLsbD 0)
  || (s.inm.coach.eStop == .stop && !s.items.alarmMask.getLsbD 1)
  || (s.obstructed && !s.items.alarmMask.getLsbD 2)

/-- The two output pins follow (R192, R193). -/
def State.pins (s : State) : State :=
  { s with ntu := { s.ntu with noteN := s.noteDue, alarm := s.alarmDue } }

/-- Fault record and pins together: the end of an event that changes a fault condition only. -/
def State.sync (s : State) : State := s.syncFaults.pins

/-! ### Summary byte (R172) -/

/-- The change set of a link. -/
def State.changes (s : State) : Link → ChangeSet
  | .coach => s.ntu.coach
  | .service => s.ntu.service

/-- A change set is empty: no category, no detail, no tag, no truncated mark. -/
def ChangeSet.isEmpty (c : ChangeSet) : Bool :=
  c.cats == 0 && c.tags.isEmpty && !c.truncated && c.inputs == 0 && c.entries == 0 && c.attitude == 0 && c.wind == 0

/-- Some group is claimed or pending (R185). -/
def State.anyClaimed (s : State) : Bool := groups.any (fun g => s.claimed g)

/-- A bit of the summary byte. -/
def bitIf (b : Bool) (v : BitVec 8) : BitVec 8 := if b then v else 0

/-- The summary byte of a reply on a link (R172). DESIGN CHOICE (log entry 57): its eight flags are those of R172's table, and
none is the power state that R148 and R149 name. -/
def State.summary (s : State) (l : Link) : Byte :=
  bitIf (!(s.ntu.faults.latched == 0)) 0x80#8
  ||| bitIf (!(s.changes l).isEmpty) 0x40#8
  ||| bitIf s.ntu.alarm 0x20#8
  ||| bitIf (s.findSlot (fun o => o.state.active)).isSome 0x10#8
  ||| bitIf (s.findSlot (fun o => o.state.isAdmitted)).isSome 0x08#8
  ||| bitIf (s.findSlot (fun o => o.state.isHeld)).isSome 0x04#8
  ||| bitIf s.anyClaimed 0x02#8
  ||| bitIf s.inm.notReady 0x01#8

end Sys2Proof.Machine
end

