-- ==== Sys2Proof/Machine/Drives.lean ====
section
/-! DEFINITION. The drive outputs of the three group controllers: how a motor starts and stops, how a
cut, a ramp-down or a stop-at-edge order reaches them, and when an operation's outputs are at rest. -/

namespace Sys2Proof.Machine

/-! ### Motors -/

/-- A motor stops being driven: applied duty 0, and its coast window opens for 300 ms (R90). -/
def Motor.halt (now : Nat) (m : Motor) : Motor :=
  if m.driven then { m with driven := false, applied := 0, coast := some (now + 300) } else m

/-- A motor is started in a direction at a duty (R98, R122): tally and run 0, its coast window closed. -/
def Motor.start (dir : Dir) (duty : Nat) (late : Bool) (m : Motor) : Motor :=
  { m with dir := some dir, driven := true, coast := none, applied := duty, run := 0, tally := 0, pulsed := false
           started := true, late := late, atEnd := false }

/-- A pulse on a driven motor (R89): the count moves, the run is cleared, the tally rises to at most
65535. -/
def Motor.drivenPulse (travel : Nat) (m : Motor) : Motor :=
  { m with count := pulseCount travel m.count (m.dir.getD .inward), run := 0, tally := min 65535 (m.tally + 1)
           pulsed := true }

/-- A pulse in the coast window counts in the direction of the last drive (R90). -/
def Motor.coastPulse (travel : Nat) (m : Motor) : Motor :=
  { m with count := pulseCount travel m.count (m.dir.getD .inward) }

/-- A motor has broken away when its tally reaches 2 (R98). -/
def Motor.broken (m : Motor) : Bool := decide (2 ≤ m.tally)

/-- Driven, or in its coast window. -/
def Motor.moving (m : Motor) : Bool := m.driven || m.coast.isSome

/-! ### Rooms -/

/-- No motor of the room is driven. -/
def RoomUnit.noneDriven (r : RoomUnit) : Bool := !r.a.driven && !r.b.driven

/-- No motor of the room is driven or coasting. -/
def RoomUnit.atRest (r : RoomUnit) : Bool := !r.a.moving && !r.b.moving

/-- After a motor stopped: with none driven both duties are 0 (the demanded one by DESIGN CHOICE, log entry 53); otherwise
the motor still driven runs alone at the ramped duty, with no trim (R106). -/
def RoomUnit.afterStop (r : RoomUnit) : RoomUnit :=
  if r.noneDriven then { r with ramped := 0, demanded := 0 }
  else if !r.a.driven && r.b.driven then { r with b := { r.b with applied := r.ramped } }
  else if r.a.driven && !r.b.driven then { r with a := { r.a with applied := r.ramped } }
  else r

/-- One motor of a room stops at its end (R102, R103). -/
def RoomUnit.haltAtEnd (now : Nat) (m : MotorId) (r : RoomUnit) : RoomUnit :=
  (r.modMotor m (fun x => if x.driven then { x.halt now with atEnd := true } else x)).afterStop

/-- Every driven motor of a room stops at once, without ramp. -/
def RoomUnit.haltAll (now : Nat) (r : RoomUnit) : RoomUnit :=
  RoomUnit.afterStop { r with a := r.a.halt now, b := r.b.halt now }

/-- A room's operation leaves its motors: timers stopped, duties 0, no pending end. What R99 keeps until the operation ends
stands. -/
def RoomUnit.rest (r : RoomUnit) : RoomUnit :=
  { r with a := { r.a with started := false, late := false, atEnd := false }
           b := { r.b with started := false, late := false, atEnd := false }
           demanded := 0, ramped := 0, breaking := false, breakTimer := none, lateTimer := none
           stallTimer := none, jogTimer := none, pend := none }

/-- A room's operation is over (R99, R104). -/
def RoomUnit.forget (r : RoomUnit) : RoomUnit := { r.rest with creeping := false, blind := false }

/-- A pending end, once set, is not replaced (R104). -/
def RoomUnit.decide (p : Pend) (r : RoomUnit) : RoomUnit :=
  if r.pend.isNone then { r with pend := some p } else r

/-- A stop, stepped cancel or hold (R104, R110): demanded duty 0, the ramp acts, the pending end is
dropped and the jog timer stops. -/
def RoomUnit.rampOff (r : RoomUnit) : RoomUnit :=
  { r with demanded := 0, breaking := false, jogTimer := none, pend := none }

/-- A stop-at-edge order (R112, R161): demanded duty 0, PARTIAL(CLEARANCE) pending, the breakaway
ended; without effect where a pending end stands. -/
def RoomUnit.order (r : RoomUnit) : RoomUnit :=
  if r.pend.isSome then r
  else { r with demanded := 0, breaking := false, breakTimer := none, lateTimer := none
                pend := some (.result (.partly .clearance)) }

/-! ### Awning -/

/-- The awning motor stops: its coast window opens and its duty is 0 (R116). DESIGN CHOICE (log entry 53): the demanded and
the ramped duty are 0 with it. -/
def AwningUnit.halt (now : Nat) (a : AwningUnit) : AwningUnit :=
  if a.motor.driven then { a with motor := { a.motor.halt now with atEnd := true }, ramped := 0, demanded := 0 } else a

/-- The awning's operation leaves its motor: timers stopped, duties 0, no pending end. An entered creep window is kept until
the operation ends (R122). -/
def AwningUnit.rest (a : AwningUnit) : AwningUnit :=
  { a with motor := { a.motor with started := false, late := false, atEnd := false }
           demanded := 0, ramped := 0, breaking := false, breakTimer := none
           stallTimer := none, jogTimer := none, pend := none }

/-- The awning's operation is over (R122, R124). -/
def AwningUnit.forget (a : AwningUnit) : AwningUnit := { a.rest with creeping := false }

/-- A pending end, once set, is not replaced (R124). -/
def AwningUnit.decide (p : Pend) (a : AwningUnit) : AwningUnit :=
  if a.pend.isNone then { a with pend := some p } else a

/-- A stop, stepped cancel or hold (R126). -/
def AwningUnit.rampOff (a : AwningUnit) : AwningUnit :=
  { a with demanded := 0, breaking := false, jogTimer := none, pend := none }

/-- A stop-at-edge order (R126, R161). -/
def AwningUnit.order (a : AwningUnit) : AwningUnit :=
  if a.pend.isSome then a
  else { a with demanded := 0, breaking := false, breakTimer := none
                pend := some (.result (.partly .clearance)) }

/-! ### Jacks -/

/-- Every valve closed. -/
def Lvc.closeValves (l : Lvc) : Lvc :=
  { l with jacks := l.jacks.map (fun j => { j with extending := false, retracting := false, waiting := false }) }

/-- Every valve closed, every phase timer stopped, no pending end, no jack being brought down: what a
stop and every end of a JACKS operation do (R60, R74). -/
def Lvc.standDown (l : Lvc) : Lvc :=
  { l.closeValves with timers := JackTimers.stopped, pend := none, landing := none }

/-! ### By group -/

/-- Where a group's outputs are off and its coast windows closed (R16, R60, R110). -/
def State.groupAtRest (s : State) : Group → Bool
  | .jacks => s.lvc.pump == 0
  | .room n => (s.roomUnit n).atRest
  | .awning => !s.awu.motor.moving

/-- The group controller brings the outputs down through their ramps (R16). -/
def State.rampGroup (s : State) : Group → State
  | .jacks => { s with lvc := s.lvc.standDown }
  | .room n => s.modRoom n RoomUnit.rampOff
  | .awning => s.modAwning AwningUnit.rampOff

/-- The group controller cuts every output at once (R17, R111, R126). -/
def State.cutGroup (s : State) : Group → State
  | .jacks => { s with lvc := { s.lvc.standDown with pump := 0 } }
  | .room n => s.modRoom n (fun r => (r.haltAll s.now).forget)
  | .awning => s.modAwning (fun a => (a.halt s.now).forget)

/-- The group's operation is suspended by a hold, which does not end it (R20). -/
def State.restGroup (s : State) : Group → State
  | .jacks => { s with lvc := s.lvc.standDown }
  | .room n => s.modRoom n RoomUnit.rest
  | .awning => s.modAwning AwningUnit.rest

/-- The group controller has no operation any more. -/
def State.forgetGroup (s : State) : Group → State
  | .jacks => { s with lvc := s.lvc.standDown }
  | .room n => s.modRoom n RoomUnit.forget
  | .awning => s.modAwning AwningUnit.forget

end Sys2Proof.Machine
end

