-- ==== Sys2Proof/Machine/Clearance.lean ====
section
/-! DEFINITION. The Clearance Monitor (chapter 8): when an entry is active, where its subject stands,
what a count change does, a change by SET_ITEM among them, and the stop-at-edge order. -/

namespace Sys2Proof.Machine

/-- The item of a clearance entry (R155). -/
def State.entryItem (s : State) (k : Entry) : ClearEntry := s.items.clearance.get k

/-- What the monitor holds for an entry. -/
def State.entryUnit (s : State) (k : Entry) : ClearUnit := s.clm.entries.get k

/-- The state with one entry's unit changed. -/
def State.modEntry (s : State) (k : Entry) (f : ClearUnit → ClearUnit) : State :=
  { s with clm := { s.clm with entries := s.clm.entries.modify k f } }

/-- The motors of a subject: for a room those it has, for the awning its one. -/
def State.subjectMotors (s : State) : Group → List (MotorId × MotorRef)
  | .jacks => []
  | .room n => (s.items.motors n).map (fun m => (m, MotorRef.room n m))
  | .awning => [(.a, .awning)]

/-- Whether a subject is referenced. -/
def State.subjectReferenced (s : State) : Group → Bool
  | .jacks => false
  | .room n => (s.roomUnit n).referenced
  | .awning => s.awu.referenced

/-- The position of a condition group (R157), absent where the group has none. -/
def State.groupPosition (s : State) (g : Group) : Option Nat :=
  if s.items.configured g then
    match g with
    | .jacks => some s.lvc.extension
    | .room n => s.roomPosition n
    | .awning => s.awningPosition
  else none

/-- A position lies in a range, both ends included. -/
def inRange (lo hi p : Nat) : Bool := decide (lo ≤ p ∧ p ≤ hi)

/-- An entry's condition holds (R157). DESIGN CHOICE (log entry 55): an INPUT condition on the ROOM_IN or JACK_UP of an
unconfigured room or jack is judged like any other. -/
def State.condHolds (s : State) : ClearCond → Bool
  | .group g lo hi =>
    match s.groupPosition g with
    | some p => inRange lo hi p
    | none => false
  | .input f st => (s.inputOf f).isSome && s.reads f == st

/-- An entry is active while it is enabled and its condition holds; never while its subject is not
configured (R157, R165). -/
def State.activeNow (s : State) (e : ClearEntry) : Bool :=
  e.enabled && s.items.configured e.subject && s.condHolds e.cond

/-- The condition of an entry names something the part has: a GROUP condition a configured group (R165). -/
def Items.hasCond (t : Items) : ClearCond → Bool
  | .group g _ _ => t.configured g
  | .input _ _ => true

/-- Any motor of the subject stands inside the entry's range (R158); never while the subject or the condition
group is not configured, nor while the subject is unreferenced (R165). DESIGN CHOICE (log entry 56): the flag of a
disabled entry stays clear. -/
def State.insideNow (s : State) (e : ClearEntry) : Bool :=
  e.enabled && s.items.configured e.subject && s.items.hasCond e.cond && s.subjectReferenced e.subject
    && (s.subjectMotors e.subject).any (fun p => inRange e.lo e.hi (s.motorPosition p.2))

/-- The direction of a count change (R158): rising is outward, falling is inward. -/
def countDir (was count : Nat) : Option Dir :=
  if was < count then some .outward else if count < was then some .inward else none

/-- A count change in a direction enters a range (R158): outward across lo from below, inward across hi from
above. -/
def entersRange (lo hi : Nat) (last : Option Nat) (new : Nat) (d : Option Dir) : Bool :=
  match last, d with
  | some p, some .outward => decide (p < lo ∧ lo ≤ new)
  | some p, some .inward => decide (hi < p ∧ new ≤ hi)
  | _, _ => false

/-- The last judged position of a motor of the subject. -/
def ClearUnit.last (u : ClearUnit) : MotorId → Option Nat
  | .a => u.lastA
  | .b => u.lastB

/-- The unit with a motor's last judged position written. -/
def ClearUnit.setLast (u : ClearUnit) (m : MotorId) (p : Nat) : ClearUnit :=
  match m with
  | .a => { u with lastA := some p }
  | .b => { u with lastB := some p }

/-- The range is closed ahead of a motion (R160). -/
def ClearEntry.closedAhead (e : ClearEntry) : Dir → Bool
  | .outward => decide (1000 ≤ e.hi)
  | .inward => decide (e.lo = 0)

/-- A driven motor stands inside a range that is closed ahead of it (R160); an unreferenced subject has no
position (R165). -/
def State.blocked (s : State) (e : ClearEntry) (r : MotorRef) : Bool :=
  s.subjectReferenced e.subject && (s.motor r).driven && inRange e.lo e.hi (s.motorPosition r) && e.closedAhead ((s.motor r).dir.getD .inward)

/-- The enabled entries of a subject, in order (R158); those of a subject that is not configured are never active (R165). -/
def State.entriesOf (s : State) (g : Group) : List Entry :=
  entryNumbers.filter (fun k => (s.entryItem k).enabled && (s.entryItem k).subject == g)

/-- The active PROTECT entries of a subject. -/
def State.protecting (s : State) (g : Group) : List Entry :=
  (s.entriesOf g).filter (fun k => (s.entryUnit k).active && (s.entryItem k).action == .protect)

/-- The monitor judges a subject's operation only while it is RUNNING, of class NORMAL and has no order
recorded against it (R160). -/
def State.judged (s : State) (g : Group) : Bool :=
  match s.runningOp g with
  | some (_, o) => o.opClass == .normal && !s.clm.ordered.get g.idx
  | none => false

/-- One stop-at-edge order for the subject's operation, with the flag of every entry that called for
it (R160); nothing where no entry calls or the operation is not judged. -/
def State.sendOrder (s : State) (g : Group) (callers : List Entry) : State :=
  if callers.isEmpty || !s.judged g then s
  else
    let s := callers.foldl State.flagEntry s
    let s := { s with clm := { s.clm with ordered := s.clm.ordered.set g.idx true } }
    match g with
    | .jacks => s
    | .room n => s.modRoom n RoomUnit.order
    | .awning => s.modAwning AwningUnit.order

/-- The judgement at a grant, an activation of `among`, or a count written by a reference (R160): a
driven motor inside a range closed ahead of it. -/
def State.judgeStanding (s : State) (g : Group) (among : List Entry) : State :=
  s.sendOrder g (among.filter (fun k => (s.subjectMotors g).any (fun p => s.blocked (s.entryItem k) p.2)))

/-- While the subject has a non-ended SERVICE operation with OVERRIDE, no DETECT entry of it sets a
flag (R163). -/
def State.detectWaived (s : State) (g : Group) : Bool :=
  match s.busyOp g with
  | some o => o.job.origin == .service && o.job.override
  | none => false

/-- The monitor judges one count change of a motor of a subject (R158, R160, R163): what it enters, the inside
flag, the last judged position, then the DETECT flags and the stop-at-edge order. `was` is the count before the
change; `byReference` is a count written by a reference, which takes the position test in place of the entering
test for its order. The inside flag is first derived when start-up ends (R155); the last judged position is written
before that too (both: log entry 49). DESIGN CHOICE (log entry 61): a motor that this very pulse has stopped is no longer a
driven one and asks for no order. DESIGN CHOICE (log entry 68): the order at a pulse has the entering test alone, also of a
motor driven inside a range closed ahead that no judgement has stopped, such as one started late (R108). -/
def State.judgeMove (s : State) (g : Group) (m : MotorId) (r : MotorRef) (was : Nat) (byReference : Bool) : State :=
  if s.subjectReferenced g then
    let new := s.motorPosition r
    let d := countDir was (s.motor r).count
    let entered := (s.entriesOf g).filter (fun k =>
      entersRange (s.entryItem k).lo (s.entryItem k).hi ((s.entryUnit k).last m) new d)
    let notes := entered.filter (fun k =>
      (s.entryUnit k).active && (s.entryItem k).action == .detect && !s.detectWaived g)
    let stops := entered.filter (fun k => (s.protecting g).contains k && (s.motor r).driven && (s.motor r).dir == d)
    let t := (s.entriesOf g).foldl (fun t k =>
      t.modEntry k (fun u => { u.setLast m new with inside := !s.inm.notReady && s.insideNow (s.entryItem k) })) s
    let t := notes.foldl State.flagEntry t
    if byReference then t.judgeStanding g (t.protecting g) else t.sendOrder g stops
  else s

/-- The Clearance Monitor judges each motor of a subject whose count has changed since `before`, every count standing as
it is now (R158). -/
def State.judgeChanged (s before : State) (g : Group) : State :=
  (s.subjectMotors g).foldl (fun t p =>
    if (s.motor p.2).count = (before.motor p.2).count then t
    else t.judgeMove g p.1 p.2 (before.motor p.2).count false) s

/-- The active and inside flags of every entry, derived afresh once start-up has ended; each PROTECT
entry that becomes active is judged against its subject's running operation (R155, R157, R160). -/
def State.deriveClearance (s : State) : State :=
  if s.inm.notReady then s
  else
    let rose := entryNumbers.filter (fun k =>
      s.activeNow (s.entryItem k) && !(s.entryUnit k).active && (s.entryItem k).action == .protect)
    let t := entryNumbers.foldl (fun t k =>
      t.modEntry k (fun u => { u with active := s.activeNow (s.entryItem k), inside := s.insideNow (s.entryItem k) })) s
    groups.foldl (fun t g => t.judgeStanding g (rose.filter (fun k => (t.entryItem k).subject == g))) t

/-- The target offered at admission step 10 (R159); none for the JACKS kinds. -/
def Job.target (j : Job) : Option Nat :=
  match j.kind with
  | .roomOut => some 1000
  | .roomIn => some 0
  | .awningSet => some (j.value.getD 0)
  | .roomJog | .awningJog => some (if j.dir == some Dir.outward then 1000 else 0)
  | _ => none

/-- Admission step 10 (R159): the target lies inside the subject range of an active PROTECT entry. -/
def State.targetBarred (s : State) (j : Job) : Bool :=
  match j.target with
  | none => false
  | some p => (s.protecting j.group).any (fun k => inRange (s.entryItem k).lo (s.entryItem k).hi p)

end Sys2Proof.Machine
end

