-- ==== Sys2Proof/Machine/Table.lean ====
section
/-! DEFINITION. The Operation Table's own operations (R13 to R24): placing a record, ending, stopping,
holding, ending at once, motion ceased, and the report of an end with slide_fault_action. -/

namespace Sys2Proof.Machine

/-! ### Judgements on a record -/

/-- The target count of an AWNING_SET: clamped target × awning_travel div 1000 (R121). -/
def State.setTarget (s : State) (j : Job) : Nat := j.value.getD 0 * s.items.awn.travel / 1000

/-- The direction of an AWNING_SET: outward when its target count lies above the present count (R121). -/
def State.setDirNow (s : State) (j : Job) : Dir :=
  if s.awu.motor.count < s.setTarget j then .outward else .inward

/-- Whether a job is of a deploying kind at admission (R11, R120, Terms). -/
def State.deploying (s : State) (j : Job) : Bool :=
  match j.kind with
  | .level | .ground | .roomOut => true
  | .jackJog | .roomJog | .awningJog => j.dir == some Dir.outward
  | .awningSet =>
    match s.awningPosition with
    | some p => decide (p < j.value.getD 0)
    | none => decide (0 < j.value.getD 0)
  | _ => false

/-- Whether a record is deploying at a park-brake release (R23): a RUNNING AWNING_SET by the direction in which its motor
runs. DESIGN CHOICE (log entry 40): one in STOPPING, for which R23 gives no test, by the motor's direction too. -/
def State.deployingOp (s : State) (o : Op) : Bool :=
  match o.job.kind with
  | .awningSet => if o.state.active then s.awu.motor.dir == some Dir.outward else s.deploying o.job
  | _ => s.deploying o.job

/-- The remaining field an end writes (R2, R72, R81, R82, R85, R86, R105, R124). -/
def State.remainingOf (s : State) (o : Op) : Option Remaining :=
  match o.job.kind, o.job.group with
  | .level, _ => s.reported.map (fun t => .attitude t.pitch t.roll)
  | .ground, _ => some (.jacks (s.items.jacks.filter (fun j => !(s.jack j).contact)))
  | .jacksStow, _ => some (.jacks (s.items.jacks.filter (fun j => !s.shut (.jackUp j))))
  | .jackJog, _ => some (.stroke ((o.job.sub.map (fun j => (s.jack j).stroke)).getD 0))
  | .roomOut, .room n | .roomIn, .room n | .roomJog, .room n =>
    (s.roomPosition n).map (fun p =>
      match o.job.roomDir with
      | .outward => .permille (1000 - p)
      | .inward => .permille p)
  | .awningSet, _ =>
    s.awningPosition.map (fun p =>
      match s.awu.setDir with
      | some .outward => .permille (o.job.value.getD 0 - p)
      | _ => .permille (p - o.job.value.getD 0))
  | .awningJog, _ =>
    s.awningPosition.map (fun p => if o.job.dir == some Dir.outward then .permille (1000 - p) else .permille p)
  | .awningStow, _ => s.awningPosition.map .permille
  | _, _ => none

/-! ### Ending -/

/-- An operation leaves RUNNING or STOPPING: its reservation is subtracted and its order record clears
(R27, R160). -/
def State.release (s : State) (o : Op) : State :=
  if o.state.active then
    { s with sta := { s.sta with resSum := s.sta.resSum - o.reservation
                                 normalSum := if o.opClass == .normal then s.sta.normalSum - o.reservation
                                              else s.sta.normalSum }
             clm := { s.clm with ordered := s.clm.ordered.set o.job.group.idx false } }
  else s

/-- An operation leaves the waiting queue (R29). -/
def State.unqueue (s : State) (sl : Slot) : State :=
  { s with sta := { s.sta with queue := s.sta.queue.filter (fun q => q != sl) } }

/-- The end of an operation is written (R15): ENDED with its result, reason and remaining field, the
end number, the ended list, the released reservation, the tag to the Notice Unit; a LEVEL that ends
COMPLETE sets LEVELLED (R61). -/
def State.writeEnd (s : State) (sl : Slot) (r : Result) (remaining : Option Remaining) : State :=
  match s.opAt sl with
  | none => s
  | some o =>
    let number := s.opt.ends + 1
    let s := (s.release o).unqueue sl
    let s := s.setOp sl { o with state := .ended r remaining number, resumed := false }
    let s := { s with opt := { s.opt with ends := number, endedList := s.opt.endedList ++ [o.tag] } }
    let s := s.forgetGroup o.job.group
    let s := if o.job.kind == .level && r == .complete then { s with lvc := { s.lvc with levelled := true } } else s
    (s.noteTag o.tag).settleClaims

/-- An end with the remaining field of the moment. -/
def State.endOp (s : State) (sl : Slot) (r : Result) : State :=
  match s.opAt sl with
  | none => s
  | some o => s.writeEnd sl r (s.remainingOf o)

/-- An operation becomes HELD (R16, R20): it leaves the queue or gives up its reservation, and its tag
goes to the Notice Unit; what it keeps until it ends stands (R99, R122). -/
def State.moveHeld (s : State) (sl : Slot) (h : HoldReason) : State :=
  match s.opAt sl with
  | none => s
  | some o =>
    let s := (s.release o).unqueue sl
    let s := s.setOp sl { o with state := .held h, resumed := false }
    ((s.restGroup o.job.group).noteTag o.tag).settleClaims

/-- The controller reports "motion ceased" for a STOPPING operation (R16). -/
def State.motionCeased (s : State) (sl : Slot) : State :=
  match s.opAt sl with
  | none => s
  | some o =>
    match o.state with
    | .stopping (.ended r) _ => s.endOp sl r
    | .stopping (.held h) _ => s.moveHeld sl h
    | _ => s

/-- A RUNNING operation is stopped toward a destination (R16); it leaves STOPPING in the same event
where its outputs are at rest already. -/
def State.stopToward (s : State) (sl : Slot) (d : Dest) : State :=
  match s.opAt sl with
  | none => s
  | some o =>
    match o.state with
    | .running p =>
      let s := (s.setOp sl { o with state := .stopping d p }).rampGroup o.job.group
      if s.groupAtRest o.job.group then s.motionCeased sl else s
    | _ => s

/-- A STOP or a stepped cancel reaches an operation (R16): ADMITTED and HELD end at once, RUNNING is
stopped, STOPPING keeps an end and gives up HELD. -/
def State.cancelOp (s : State) (sl : Slot) (r : Result) : State :=
  match s.opAt sl with
  | none => s
  | some o =>
    match o.state with
    | .admitted _ => s.endOp sl r
    | .held _ => s.endOp sl r
    | .running _ => s.stopToward sl (.ended r)
    | .stopping (.held _) p => s.setOp sl { o with state := .stopping (.ended r) p }
    | .stopping (.ended _) _ => s
    | .ended _ _ _ => s

/-- A hold reaches an operation (R20); it does not reach the SAFETY class. -/
def State.holdOp (s : State) (sl : Slot) (h : HoldReason) : State :=
  match s.opAt sl with
  | none => s
  | some o =>
    if o.opClass == .safety then s
    else
      match o.state with
      | .admitted _ => s.moveHeld sl h
      | .running _ => s.stopToward sl (.held h)
      | _ => s

/-- The result an immediate end writes, by state (R17). -/
def OpState.immediate (r : Result) : OpState → Option Result
  | .stopping (.ended d) _ => some d
  | .ended _ _ _ => none
  | _ => some r

/-- An operation is ended at once (R17): its outputs go off without ramp and the record is written. -/
def State.endNow (s : State) (sl : Slot) (r : Result) : State :=
  match s.opAt sl with
  | none => s
  | some o =>
    match o.state.immediate r with
    | none => s
    | some r' =>
      let rem := s.remainingOf o
      let s := if o.state.active then s.cutGroup o.job.group else s
      s.writeEnd sl r' rem

/-- Every slot whose record satisfies `p`, in ascending order, has `f` done to it; the record is read
afresh at each (R5). -/
def State.eachOp (s : State) (p : State → Op → Bool) (f : State → Slot → State) : State :=
  slots.foldl (fun s sl =>
    match s.opAt sl with
    | some o => if p s o then f s sl else s
    | none => s) s

/-- A room operation's FAILED end with reason OBSTRUCTED or SYNC applies slide_fault_action (R113). -/
def slideFault (o : Op) (r : Result) : Bool :=
  o.job.group.isRoom && (r == .failed .obstructed || r == .failed .sync)

/-- slide_fault_action reaches every other non-ended operation (R113). -/
def State.applySlideFault (s : State) (failed : Slot) : State :=
  match s.items.room.faultAction with
  | .room => s
  | .slides =>
    slots.foldl (fun s sl =>
      match s.opAt sl with
      | some o =>
        if sl != failed && o.job.group.isRoom && !o.state.isEnded then s.cancelOp sl (.cancelled .peerFault) else s
      | none => s) s
  | .all =>
    slots.foldl (fun s sl =>
      match s.opAt sl with
      | some o =>
        if sl != failed && o.opClass == .normal && !o.state.isEnded then s.cancelOp sl (.cancelled .peerFault) else s
      | none => s) s

/-- A group controller reports the end of its RUNNING operation (R15); a report for an operation in any
other state is discarded. -/
def State.reportEndWith (s : State) (sl : Slot) (r : Result) (remaining : Option Remaining) : State :=
  match s.opAt sl with
  | none => s
  | some o =>
    match o.state with
    | .running _ =>
      let s := s.writeEnd sl r remaining
      if slideFault o r then s.applySlideFault sl else s
    | _ => s

/-- A reported end with the remaining field of the moment. -/
def State.reportEnd (s : State) (sl : Slot) (r : Result) : State :=
  match s.opAt sl with
  | none => s
  | some o => s.reportEndWith sl r (s.remainingOf o)

end Sys2Proof.Machine
end

