-- ==== Sys2Proof/Machine/Jacks.lean ====
section
/-! DEFINITION. The Levelling Controller (chapter 4): winding down, the phases of LEVEL and GROUND,
JACKS_STOW and JACK_JOG, and what samples, contacts, attitudes and the pump's ramp do to them. -/

namespace Sys2Proof.Machine

/-! ### Winding down -/

/-- An end reported for a LEVEL with some jack marked unloaded raises JACK_UNLOADED when it is COMPLETE
(R71). -/
def State.unloadedNotice (s : State) (o : Op) (r : Result) : State :=
  if o.job.kind == .level && r == .complete && s.items.jacks.any (fun j => (s.jack j).unloaded)
  then s.raiseAttitude 0x02#8 else s

/-- The pending end of a JACKS operation is reported (R60). -/
def State.reportJacks (s : State) (sl : Slot) (r : Result) : State :=
  match s.opAt sl with
  | none => s
  | some o => (s.reportEnd sl r).unloadedNotice o r

/-- A RUNNING JACKS operation has reached its result (R60): valves closed, timers stopped, the result
kept pending, and reported at once where the pump is off already. -/
def State.windDownJacks (s : State) (sl : Slot) (r : Result) : State :=
  let s := { s with lvc := { s.lvc.standDown with pend := some r } }
  if s.lvc.pump == 0 then s.reportJacks sl r else s

/-! ### Phases -/

/-- SETTLE begins (R68): every valve closed; the settle timer starts now if the pump is off. -/
def State.beginSettle (s : State) (sl : Slot) : State :=
  let s := s.reportPhase sl .settle
  let l := s.lvc.closeValves
  let timer := if s.lvc.pump == 0 then some (s.now + s.items.jack.settleTime * 1000) else none
  { s with lvc := { l with timers := { JackTimers.stopped with settle := timer }, groundDone := true, landing := none } }

/-- Every configured jack has reached the GROUND goal (R66). -/
def State.allGrounded (s : State) : Bool := s.items.jacks.all (fun j => (s.jack j).goal)

/-- GROUND begins (R66). -/
def State.beginGround (s : State) (sl : Slot) : State :=
  let s := s.reportPhase sl .ground
  let s := { s with lvc := { s.lvc with groundDone := false
                                        timers := { JackTimers.stopped with
                                          ground := some (s.now + s.items.jack.groundTimeout * 1000) } } }
  let s := s.items.jacks.foldl (fun s j =>
    s.modJack j (fun u => { u with goal := u.contact, extending := !u.contact, waiting := false })) s
  if s.allGrounded then s.beginSettle sl else s

/-- The next jack of TOUCHDOWN (R71): the lowest-numbered configured jack that is not in contact and
has not been taken in this phase. -/
def State.nextLanding (s : State) : Option Jack :=
  s.items.jacks.find? (fun j => !(s.jack j).contact && !(s.jack j).taken)

/-- TOUCHDOWN takes its next jack, or winds down COMPLETE where none remains (R71). -/
def State.takeNext (s : State) (sl : Slot) : State :=
  match s.nextLanding with
  | some j =>
    let s := s.modJack j (fun u => { u with extending := true, taken := true })
    { s with lvc := { s.lvc with landing := some (j, (s.jack j).stroke) } }
  | none => s.windDownJacks sl .complete

/-- The jack of TOUCHDOWN is done with: its valve closes, it may be marked unloaded, and the next is
taken (R71). -/
def State.landed (s : State) (sl : Slot) (j : Jack) (mark : Bool) : State :=
  let s := s.modJack j (fun u => { u with extending := false, unloaded := u.unloaded || mark })
  let s := { s with lvc := { s.lvc with landing := none } }
  s.takeNext sl

/-- TOUCHDOWN begins (R71). -/
def State.beginTouchdown (s : State) (sl : Slot) : State :=
  let s := s.reportPhase sl .touchdown
  let s := s.modJacks (fun u => { u with taken := false, unloaded := false })
  let s := { s with lvc := { s.lvc with timers := { JackTimers.stopped with
                                touchdown := some (s.now + s.items.jack.liftTimeout * 1000) } } }
  s.takeNext sl

/-- LIFT begins (R70): each jack with a lift above 0 gets its target and its valve opens. -/
def State.beginLift (s : State) (sl : Slot) (lifts : List (Jack × Nat)) : State :=
  let s := s.reportPhase sl .lift
  let s := lifts.foldl (fun s p =>
    if p.2 = 0 then s
    else s.modJack p.1 (fun u => { u with target := u.stroke + p.2, extending := true })) s
  { s with lvc := { s.lvc with timers := { JackTimers.stopped with
                      lift := some (s.now + s.items.jack.liftTimeout * 1000) } } }

/-- The tolerance of an operation (R64). -/
def State.tolerance (s : State) (o : Op) : Nat := o.job.value.getD s.items.jack.levelTolerance

/-- Every lift of a list is 0. -/
def noLift (l : List (Jack × Nat)) : Bool := l.all (fun p => p.2 == 0)

/-- The solver's result decides the next step (R69). -/
def State.actOnSolution (s : State) (sl : Slot) (o : Op) : Solution → State
  | .short _ => s.windDownJacks sl (.failed .strokeShort)
  | .lifts l limited =>
    if noLift l then s.windDownJacks sl (.partly (if limited then .strokeLimited else .deadband))
    else (s.setOp sl { o with pass := o.pass + 1 }).beginLift sl l

/-- SOLVE, taken in one event on the reported attitude (R69). The result of the SOLVE before it is kept no longer
(R63, R80), and one that runs no solver leaves none. -/
def State.takeSolve (s : State) (sl : Slot) : State :=
  let s := s.reportPhase sl .solve
  let s := { s with lvc := { s.lvc with solver := none } }
  match s.opAt sl with
  | none => s
  | some o =>
    match s.reported with
    | none => s.windDownJacks sl (.failed .attitude)
    | some t =>
      if t.within (s.tolerance o) then s.beginTouchdown sl
      else if !t.within s.items.jack.maxSolveTilt then s.windDownJacks sl (.failed .tooSteep)
      else if o.pass = s.items.jack.maxPasses then s.windDownJacks sl (.failed .passes)
      else
        let sol := s.runSolver t o.job.bestEffort
        let s := { s with lvc := { s.lvc with solver := some { solution := sol, pitch := t.pitch, roll := t.roll, pass := o.pass } } }
        s.actOnSolution sl o sol

/-! ### The running operation -/

/-- The RUNNING JACKS operation that still judges its outcome: no end is pending. -/
def State.jacksJudging (s : State) : Option (Slot × Op) :=
  if s.lvc.pend.isSome then none else s.runningOp .jacks

/-- The operation opens or holds a retract valve: JACKS_STOW, or a retracting JACK_JOG. -/
def Op.retracts (o : Op) : Bool :=
  o.job.kind == .jacksStow || (o.job.kind == .jackJog && o.job.dir == some Dir.inward)

/-- SERVICE origin with OVERRIDE (R83, R186). -/
def Job.exempt (j : Job) : Bool := j.origin == .service && j.override

/-- The retract interlock while running (R83): a room not IN closes the retract valves and ends the
operation CANCELLED(INTERLOCK). -/
def State.watchRetract (s : State) : State :=
  match s.jacksJudging with
  | some (sl, o) =>
    if o.retracts && !o.job.exempt && s.someRoomOut then s.windDownJacks sl (.cancelled .interlock) else s
  | none => s

/-- A JACK_UP input that changes to closed (R82, R86). -/
def State.jackStowed (s : State) (j : Jack) : State :=
  match s.jacksJudging with
  | some (sl, o) =>
    if o.job.kind == .jacksStow then
      let s := s.modJack j (fun u => { u with retracting := false })
      if s.allJacksUp then s.windDownJacks sl .complete else s
    else if o.job.kind == .jackJog && o.job.dir == some Dir.inward && o.job.sub == some j then
      s.windDownJacks sl .complete
    else s
  | none => s

/-- A jack comes into contact (R66, R71). -/
def State.jackContact (s : State) (j : Jack) : State :=
  match s.jacksJudging with
  | some (sl, o) =>
    if o.state.phase == some .ground then
      if (s.jack j).extending || (s.jack j).waiting then
        let s := s.modJack j (fun u => { u with extending := false, waiting := false, goal := true })
        if s.allGrounded then s.beginSettle sl else s
      else s
    else if o.state.phase == some .touchdown then
      match s.lvc.landing with
      | some (k, _) => if k = j then s.landed sl j false else s
      | none => s
    else s
  | none => s

/-- A new reported attitude, or attitude become invalid, reaches TOUCHDOWN (R71, R73). -/
def State.touchdownAttitude (s : State) : State :=
  match s.jacksJudging with
  | some (sl, o) =>
    if o.state.phase == some .touchdown then
      match s.reported with
      | none => s.windDownJacks sl (.failed .attitude)
      | some t => if t.within (s.tolerance o) then s else s.windDownJacks sl (.partly .disturbed)
    else s
  | none => s

/-! ### Samples (R57, R58) -/

/-- A stroke reading is in range of its span (R57). -/
def strokeInRange (strokeMax : Nat) (x : Int) : Bool := decide (0 ≤ x ∧ x ≤ strokeMax)

/-- A pressure reading is in range of its span, 0..250 bar (R57). -/
def pressureInRange (x : Int) : Bool := decide (0 ≤ x ∧ x ≤ 250)

/-- One jack's readings at a sample (R57): each reading in range is taken, the other keeps its last
value, and JACK_SENSOR is present for the jack unless both are in range. -/
def JackUnit.read (strokeMax : Nat) (r : JackReading) (u : JackUnit) : JackUnit :=
  { u with stroke := if strokeInRange strokeMax r.stroke then r.stroke.toNat else u.stroke
           pressure := if pressureInRange r.pressure then r.pressure.toNat else u.pressure
           sensorFault := !(strokeInRange strokeMax r.stroke && pressureInRange r.pressure) }

/-- One jack's contact judgement at a pressure sample (R58). -/
def JackUnit.judgeContact (now threshold : Nat) (u : JackUnit) : JackUnit :=
  if u.pressure < threshold then { u with contact := false, contactTimer := none }
  else if u.contact then u
  else
    match u.contactTimer with
    | some _ => u
    | none => { u with contactTimer := some (now + 200) }

/-- Every configured jack is read. -/
def State.readJacks (s : State) (readings : Bank JackReading 6) : State :=
  s.items.jacks.foldl (fun s j =>
    s.modJack j (fun u => u.read (s.items.jack.strokeMax.get j) (readings.get j))) s

/-- Every configured jack's contact is judged. -/
def State.judgeContacts (s : State) : State :=
  s.items.jacks.foldl (fun s j => s.modJack j (fun u => u.judgeContact s.now s.items.jack.contactPressure)) s

/-- The jacks extension (R63): the greatest of stroke × 1000 div stroke_max. -/
def State.extensionNow (s : State) : Nat :=
  greatest (s.items.jacks.map (fun j => (s.jack j).stroke * 1000 / s.items.jack.strokeMax.get j))

/-- A jack whose JACK_SENSOR has become present ends the operations that R73, R81 and R85 name. -/
def State.judgeSensors (s : State) (fresh : List Jack) : State :=
  match s.jacksJudging with
  | some (sl, o) =>
    match o.job.kind with
    | .level | .ground => if fresh.isEmpty then s else s.windDownJacks sl (.failed .jackSensor)
    | .jackJog =>
      if o.job.dir == some Dir.outward && fresh.any (fun j => o.job.sub == some j)
      then s.windDownJacks sl (.failed .jackSensor) else s
    | _ => s
  | none => s

/-- The GROUND phase at a stroke sample (R67): valves at the stroke limit close; a jack whose contact
timer is stopped, and that is not in contact, is NO_GROUND. -/
def State.groundSample (s : State) (sl : Slot) : State :=
  let s := s.items.jacks.foldl (fun s j =>
    if (s.jack j).extending && decide (s.strokeLimit j ≤ (s.jack j).stroke)
    then s.modJack j (fun u => { u with extending := false, waiting := true }) else s) s
  if s.items.jacks.any (fun j => (s.jack j).waiting && !(s.jack j).contact && (s.jack j).contactTimer.isNone)
  then s.windDownJacks sl (.failed .noGround) else s

/-- LIFT at a stroke sample (R70): valves at their targets close; when the last has closed, SETTLE. -/
def State.liftSample (s : State) (sl : Slot) : State :=
  let s := s.items.jacks.foldl (fun s j =>
    if (s.jack j).extending && decide ((s.jack j).target ≤ (s.jack j).stroke)
    then s.modJack j (fun u => { u with extending := false }) else s) s
  if s.items.jacks.any (fun j => (s.jack j).extending) then s else s.beginSettle sl

/-- TOUCHDOWN at a stroke sample (R71): travel used, or the stroke limit. -/
def State.touchdownSample (s : State) (sl : Slot) : State :=
  match s.lvc.landing with
  | some (j, noted) =>
    if noted + 30 ≤ (s.jack j).stroke ∨ s.strokeLimit j ≤ (s.jack j).stroke then s.landed sl j true else s
  | none => s

/-- An extending JACK_JOG at a stroke sample (R85). -/
def State.jogSample (s : State) (sl : Slot) (o : Op) : State :=
  match o.job.sub with
  | some j =>
    if o.job.dir == some Dir.outward && decide (s.strokeLimit j ≤ (s.jack j).stroke)
    then s.windDownJacks sl (.partly .strokeLimited) else s
  | none => s

/-- The phase limits at a stroke sample. -/
def State.judgeStrokes (s : State) : State :=
  match s.jacksJudging with
  | some (sl, o) =>
    match o.job.kind, o.state.phase with
    | .jackJog, _ => s.jogSample sl o
    | _, some .ground => s.groundSample sl
    | _, some .lift => s.liftSample sl
    | _, some .touchdown => s.touchdownSample sl
    | _, _ => s
  | none => s

/-- Contact loss with LEVELLED set (R62): the flag is cleared and JACK_UNLOADED raised. -/
def State.judgeLoss (s : State) (lost : List Jack) : State :=
  if !lost.isEmpty && s.lvc.levelled then
    let s := { s with lvc := { s.lvc with levelled := false } }
    s.raiseAttitude 0x02#8
  else s

/-- One sample of the jacks (R57, R58, R63): readings, sensor faults, contacts, the extension, then the
phase limits (the order within the sample is log entry 13). -/
def State.sampleJacks (s : State) (readings : Bank JackReading 6) : State :=
  let before := s
  let s := s.readJacks readings
  let fresh := s.items.jacks.filter (fun j => (s.jack j).sensorFault && !(before.jack j).sensorFault)
  let s := s.judgeContacts
  let lost := s.items.jacks.filter (fun j => !(s.jack j).contact && (before.jack j).contact)
  let s := s.judgeLoss lost
  let s := { s with lvc := { s.lvc with extension := s.extensionNow } }
  (s.judgeSensors fresh).judgeStrokes

/-! ### The pump (R59, R60) -/

/-- A duty moves toward its demand by its ramp, without passing it (R59, R97, R119). -/
def rampToward (demand up down duty : Nat) : Nat :=
  if duty < demand then min demand (duty + up) else max demand (duty - down)

/-- The pump's applied duty has come to 0: the pending end is reported, a STOPPING operation's motion
has ceased, or the settle timer starts (R60, R68). -/
def State.pumpOff (s : State) : State :=
  match s.activeOp .jacks with
  | some (sl, o) =>
    match o.state with
    | .running p =>
      match s.lvc.pend with
      | some r => s.reportJacks sl r
      | none =>
        if p == some .settle && s.lvc.timers.settle.isNone then
          { s with lvc := { s.lvc with timers := { s.lvc.timers with
              settle := some (s.now + s.items.jack.settleTime * 1000) } } }
        else s
    | .stopping _ _ => s.motionCeased sl
    | _ => s
  | none => s

/-- One 10 ms tick of the pump (R59). -/
def State.pumpTick (s : State) : State :=
  let duty := rampToward s.pumpDemand s.items.jack.rampUp s.items.jack.rampDown s.lvc.pump
  let s := { s with lvc := { s.lvc with pump := duty } }
  if duty = 0 ∧ s.pumpDemand = 0 then s.pumpOff else s

/-! ### Timers -/

/-- The settle timer expires (R68): a LEVEL takes SOLVE; a GROUND ends COMPLETE with every configured
jack in contact, PARTIAL(DISTURBED) otherwise (R81). -/
def State.settleExpired (s : State) : State :=
  let s := { s with lvc := { s.lvc with timers := { s.lvc.timers with settle := none } } }
  match s.jacksJudging with
  | some (sl, o) =>
    if o.job.kind == .ground then
      s.windDownJacks sl (if s.allContact then .complete else .partly .disturbed)
    else s.takeSolve sl
  | none => s

/-- A phase timer that fails the running operation with a result (R67, R70, R71, R82), or ends a jog
(R85). -/
def State.jacksTimeout (s : State) (r : Result) : State :=
  match s.jacksJudging with
  | some (sl, _) => s.windDownJacks sl r
  | none => s

/-! ### Needing no motion, and starting -/

/-- A JACKS job needs no motion (R81, R82, R84); a LEVEL never. -/
def State.jacksIdleJob (s : State) (j : Job) : Bool :=
  match j.kind with
  | .ground => s.allContact
  | .jacksStow => s.jacksCondition == .stowed
  | .jackJog =>
    match j.sub with
    | some k => if j.dir == some Dir.outward then decide (s.strokeLimit k ≤ (s.jack k).stroke) else s.shut (.jackUp k)
    | none => false
  | _ => false

/-- JACKS_STOW starts (R82). -/
def State.startStow (s : State) (sl : Slot) : State :=
  let s := s.reportPhase sl .move
  let s := s.items.jacks.foldl (fun s j =>
    if s.shut (.jackUp j) then s else s.modJack j (fun u => { u with retracting := true })) s
  let s := { s with lvc := { s.lvc with timers := { JackTimers.stopped with
                                stow := some (s.now + s.items.jack.stowTimeout * 1000) } } }
  if s.allJacksUp then s.windDownJacks sl .complete else s

/-- JACK_JOG starts (R85, R86). -/
def State.startJackJog (s : State) (sl : Slot) (j : Job) : State :=
  let s := s.reportPhase sl .move
  let s :=
    match j.sub with
    | some k =>
      s.modJack k (fun u =>
        if j.dir == some Dir.outward then { u with extending := true } else { u with retracting := true })
    | none => s
  { s with lvc := { s.lvc with timers := { JackTimers.stopped with jog := some (s.now + j.value.getD 0) } } }

/-- The Levelling Controller takes a granted operation (R62, R65, R81 to R86). `resumed` is a grant
after RESUME. DESIGN CHOICE (log entry 44): a resumed GROUND that finds every jack in contact, and a resumed JACK_JOG that
needs no motion any more (extending with its jack at the stroke limit, retracting with its JACK_UP closed), end COMPLETE
at their grant (R21, R32): the first without the GROUND phase of R81, the second without the jog time of R85 and R86. -/
def State.startJacks (s : State) (sl : Slot) (o : Op) (resumed : Bool) : State :=
  let idleJob := s.jacksIdleJob o.job
  let s := { s with lvc := { s.lvc with levelled := false } }
  if o.retracts && !o.job.exempt && s.someRoomOut then s.reportEnd sl (.cancelled .interlock)
  else if resumed && idleJob then s.reportEnd sl .complete
  else
    match o.job.kind with
    | .level => if resumed && s.lvc.groundDone then s.beginSettle sl else s.beginGround sl
    | .ground => s.beginGround sl
    | .jacksStow => s.startStow sl
    | _ => s.startJackJog sl o.job

end Sys2Proof.Machine
end

