-- ==== Sys2Proof/Machine/Attitude.lean ====
section
/-! DEFINITION. The Attitude Unit (chapter 3): samples, rotation, the window and its mean, validity, the
drift monitor, and what a change of the reference does. -/

namespace Sys2Proof.Machine

/-- A sample is valid (R43): ready code A6 hexadecimal, both angles within ±3000. -/
def sampleValid (ready : Byte) (a b : Word) : Bool :=
  ready == 0xA6#8 && decide (-3000 ≤ a.toInt ∧ a.toInt ≤ 3000 ∧ -3000 ≤ b.toInt ∧ b.toInt ≤ 3000)

/-- The coach axes of a sample under sensor_rotation (R44). -/
def rotate (rotation : Nat) (a b : Int) : Tilt :=
  match rotation with
  | 90 => { pitch := b, roll := -a }
  | 180 => { pitch := -a, roll := -b }
  | 270 => { pitch := -b, roll := a }
  | _ => { pitch := a, roll := b }

/-- The mean of eight values from their sum, halves away from zero (R46). -/
def meanOfEight (sum : Int) : Int := if 0 ≤ sum then (sum + 4) / 8 else -((-sum + 4) / 8)

/-- The filtered value of a window (R46). -/
def filterTilt (window : List Tilt) : Tilt :=
  { pitch := meanOfEight (window.map Tilt.pitch).sum, roll := meanOfEight (window.map Tilt.roll).sum }

/-- Attitude becomes invalid with an empty window and both runs at 0 (R44, R54). -/
def Atu.clear (u : Atu) : Atu :=
  { u with window := [], validRun := 0, invalidRun := 0, filtered := none, drift := none }

/-- A valid sample (R45). -/
def Atu.takeValid (t : Tilt) (u : Atu) : Atu :=
  match u.filtered with
  | none =>
    let window := u.window ++ [t]
    let run := min 8 (u.validRun + 1)
    if run = 8 then
      { u with window := window, validRun := run, invalidRun := 0, filtered := some (filterTilt window), sensorFault := false }
    else { u with window := window, validRun := run, invalidRun := 0 }
  | some _ =>
    let window := u.window.drop 1 ++ [t]
    { u with window := window, invalidRun := 0, filtered := some (filterTilt window) }

/-- An invalid sample (R45, R47). -/
def Atu.takeInvalid (u : Atu) : Atu :=
  let run := min 4 (u.invalidRun + 1)
  match u.filtered with
  | none => { u with window := [], validRun := 0, invalidRun := run, sensorFault := u.sensorFault || run == 4 }
  | some _ =>
    if run = 4 then { u with window := [], validRun := 0, invalidRun := run, filtered := none, sensorFault := true, drift := none }
    else { u with invalidRun := run }

/-- One evaluation of the drift monitor on a reported attitude (R51). -/
def State.evalDrift (s : State) : State :=
  if s.watching then
    match s.reported with
    | some t =>
      let bound := s.items.jack.levelTolerance + s.items.att.driftMargin
      let drift :=
        if t.within bound then none
        else
          match s.atu.drift with
          | some e => some e
          | none => some (s.now + s.items.att.driftTime * 1000)
      { s with atu := { s.atu with drift := drift } }
    | none => s
  else s

/-- One sample of the inclinometer (R43 to R47): the unit's own state, the validity change, and the new
reported attitude handed to TOUCHDOWN and to the drift monitor. DESIGN CHOICE (log entry 50): the monitor judges the
sample that makes attitude valid too. -/
def State.sampleAttitude (s : State) (ready : Byte) (a b : Word) : State :=
  let was := s.attitudeValid
  let ok := sampleValid ready a b
  let atu := if ok then s.atu.takeValid (rotate s.items.att.rotation a.toInt b.toInt) else s.atu.takeInvalid
  let s := { s with atu := atu }
  let s := if s.attitudeValid == was then s else s.raiseAttitude 0x08#8
  let fresh := s.attitudeValid && ok
  let s := if fresh || s.attitudeValid != was then s.touchdownAttitude else s
  if fresh then s.evalDrift else s

/-- A change of sensor_rotation (R44): the unit starts over and a validity change is raised. -/
def State.rotationChanged (s : State) : State :=
  let was := s.attitudeValid
  let s := { s with atu := s.atu.clear }
  if was then s.raiseAttitude 0x08#8 else s

/-- A change of a reference offset (R48, R50): the drift timer stops and LEVELLED is judged again. -/
def State.referenceChanged (s : State) : State :=
  let s := { s with atu := { s.atu with drift := none } }
  if s.lvc.levelled then
    match s.reported with
    | some t =>
      if t.within s.items.jack.levelTolerance then s else { s with lvc := { s.lvc with levelled := false } }
    | none => s
  else s

/-- What a drift expiry declares (R52, steps 1 and 2). -/
def State.declareDrift (s : State) : State :=
  let s := { s with atu := { s.atu with drift := none } }
  let s := s.raiseAttitude 0x01#8
  { s with lvc := { s.lvc with levelled := false } }

end Sys2Proof.Machine
end

