-- ==== Sys2Proof/Machine/Rooms.lean ====
section
/-! DEFINITION. The Slide Drive Controller (chapter 5): starting a room, hall pulses, the ramp and the
synchronisation trim, stall qualification and its judgement, end stops, and the report of an end. -/

namespace Sys2Proof.Machine

/-! ### Reading a room -/

/-- The profile of every room (R96). -/
def State.roomProfile (s : State) : Profile := s.items.room.profile

/-- The room has two motors (R88). -/
def State.twoMotors (s : State) (n : Room) : Bool := s.items.room.motors.get n == 2

/-- |d|, the difference of a two-motor room's counts (R106). -/
def RoomUnit.spread (r : RoomUnit) : Nat := ((r.a.count : Int) - (r.b.count : Int)).natAbs

/-- The lead motor in a direction (R106): none at d = 0. -/
def RoomUnit.lead (r : RoomUnit) (d : Dir) : Option MotorId :=
  if r.a.count = r.b.count then none
  else
    match d with
    | .outward => if r.b.count < r.a.count then some .a else some .b
    | .inward => if r.a.count < r.b.count then some .a else some .b

/-- The trim of the lead motor: |d| × sync_gain, capped at sync_trim_max (R106). -/
def State.trim (s : State) (n : Room) : Nat :=
  min s.items.room.syncTrimMax ((s.roomUnit n).spread * s.items.room.syncGain)

/-- The room operation that still judges its outcome: RUNNING with no pending end. -/
def State.roomJudging (s : State) (n : Room) : Option (Slot × Op) :=
  if (s.roomUnit n).pend.isSome then none else s.runningOp (.room n)

/-- The result a pending end gives at the report (R103, R104). -/
def Pend.report (switchClosed : Bool) : Pend → Result
  | .result r => r
  | .bySwitch => if switchClosed then .complete else .partly .inSwitch

/-! ### Pending ends -/

/-- A result decided for a RUNNING room operation (R104). -/
def State.decideRoom (s : State) (n : Room) (p : Pend) : State :=
  match s.roomJudging n with
  | some _ => s.modRoom n (fun r => r.decide p)
  | none => s

/-- The pending end of an operation whose motors have all stopped at their end (R102, R103, R109). DESIGN CHOICE (log
entry 47): of an inward jog whose motors stopped some by arrival and some by the switch, the switch decides: COMPLETE. -/
def Job.endOfTravel (j : Job) (bySwitch : Bool) : Pend :=
  match j.roomDir with
  | .outward => .result .complete
  | .inward => if bySwitch && j.kind == .roomJog then .result .complete else .bySwitch

/-- After an end stop: when no motor is driven any more the pending end is set. -/
def State.roomEndCheck (s : State) (n : Room) (bySwitch : Bool) : State :=
  match s.roomJudging n with
  | some (_, o) =>
    if (s.roomUnit n).noneDriven then s.modRoom n (fun r => r.decide (o.job.endOfTravel bySwitch)) else s
  | none => s

/-! ### Phases -/

/-- The CREEP test of a ROOM_OUT or ROOM_IN (R99): some driven motor is within room_creep_window of the target count. It
is never met with a window of 0, nor by a ROOM_IN of a room that was unreferenced at a grant of it (log entry 45). -/
def State.roomNear (s : State) (n : Room) (j : Job) : Bool :=
  let r := s.roomUnit n
  let w := s.roomProfile.creepWindow
  let near := fun (m : Motor) =>
    m.driven &&
      match j.roomDir with
      | .outward => decide (s.items.room.travel.get n ≤ m.count + w)
      | .inward => decide (m.count ≤ w)
  decide (0 < w) && r.referenced && !(j.kind == .roomIn && r.blind) && (near r.a || (s.twoMotors n && near r.b))

/-- A room operation enters RUN or CREEP (R99): its demanded duty and its phase. -/
def State.setPace (s : State) (n : Room) (sl : Slot) (creep : Bool) : State :=
  let duty := if creep then s.roomProfile.creepDuty else s.roomProfile.runDuty
  (s.modRoom n (fun r => { r with demanded := duty, creeping := creep })).reportPhase sl (if creep then .creep else .run)

/-- BREAKAWAY ends (R98): its timer stops; a RUNNING operation takes its demanded duty and phase, those of CREEP also where
it had entered CREEP before a hold, which does not end it (R20, R99; DEDUCED, log entry 65). -/
def State.endBreakaway (s : State) (n : Room) : State :=
  let s := s.modRoom n (fun r => { r with breaking := false, breakTimer := none })
  match s.roomJudging n with
  | some (sl, o) =>
    if o.job.kind == .roomJog then s.modRoom n (fun r => { r with demanded := s.roomProfile.creepDuty })
    else s.setPace n sl ((s.roomUnit n).creeping || s.roomNear n o.job)
  | none => s

/-- Every driven motor started at the grant has broken away (R98). DESIGN CHOICE (log entry 46): a motor that stopped
before its tally reached 2 is not waited for. -/
def RoomUnit.allBroken (r : RoomUnit) : Bool :=
  (!r.a.driven || r.a.late || r.a.broken) && (!r.b.driven || r.b.late || r.b.broken)

/-- The breakaway tests at a pulse: the operation's own, and that of a motor started later. -/
def State.testBreakaway (s : State) (n : Room) : State :=
  let r := s.roomUnit n
  let s := if r.breakTimer.isSome && r.allBroken then s.endBreakaway n else s
  if (r.a.late && r.a.broken) || (r.b.late && r.b.broken)
  then s.modRoom n (fun r => { r with lateTimer := none }) else s

/-- The CREEP test at a pulse (R99), for a ROOM_OUT or ROOM_IN in RUN. -/
def State.testCreep (s : State) (n : Room) : State :=
  match s.roomJudging n with
  | some (sl, o) =>
    if !(s.roomUnit n).breaking && o.job.kind != .roomJog && o.state.phase == some .run && s.roomNear n o.job
    then s.setPace n sl true else s
  | none => s

/-! ### Stops -/

/-- The counts of some motors of a room are written by a reference and the room's flag set (R92); the Clearance
Monitor then judges each of those changes, every count standing as written. -/
def State.referenceRoom (s : State) (n : Room) (which : List MotorId) (count : Nat) : State :=
  let t := which.foldl (fun t m => t.modRoomMotor n m (fun x => { x with count := count })) s
  let t := t.modRoom n (fun r => { r with referenced := true, stray := false })
  which.foldl (fun t m => t.judgeMove (.room n) m (.room n m) ((s.roomUnit n).motor m).count true) t

/-- The count stop of an outward motor (R102, R109): ROOM_OUT, or an outward jog of a referenced room. -/
def State.testEndStop (s : State) (n : Room) (m : MotorId) : State :=
  match s.activeOp (.room n) with
  | some (_, o) =>
    let x := (s.roomUnit n).motor m
    if x.driven && x.dir == some Dir.outward && (o.job.kind == .roomOut || (s.roomUnit n).referenced)
        && decide (s.items.room.travel.get n ≤ x.count)
    then (s.modRoom n (fun r => r.haltAtEnd s.now m)).roomEndCheck n false
    else s
  | none => s

/-- The synchronisation test at a pulse (R107). -/
def State.testSync (s : State) (n : Room) : State :=
  let r := s.roomUnit n
  if s.twoMotors n && r.a.driven && r.b.driven && !r.a.atEnd && !r.b.atEnd
      && decide (s.items.room.syncLimit < r.spread)
  then (s.decideRoom n (.result (.failed .sync))).modRoom n (fun r => r.haltAll s.now)
  else s

/-- The second motor of an out-of-step room is started when |d| has come to sync_limit (R108). DESIGN CHOICE (log entry 54):
only for an operation in RUNNING whose end is not decided yet. -/
def State.testLateStart (s : State) (n : Room) (m : MotorId) : State :=
  let r := s.roomUnit n
  let other := if m = .a then MotorId.b else MotorId.a
  match s.roomJudging n with
  | some (_, o) =>
    if s.twoMotors n && o.job.roomDir == .inward && (r.motor m).driven && (r.motor m).started
        && !(r.motor other).started && decide (r.spread ≤ s.items.room.syncLimit)
    then
      (s.modRoomMotor n other (Motor.start .inward s.roomProfile.breakawayDuty true)).modRoom n
        (fun r => { r with lateTimer := some (s.now + s.roomProfile.breakawayTime) })
    else s
  | none => s

/-- A qualified stall is judged (R101, R103): arrival or obstruction. -/
def State.judgeStall (s : State) (n : Room) (m : MotorId) : State :=
  let r := s.roomUnit n
  let x := r.motor m
  if !x.driven then s
  else
    let dir := x.dir.getD .inward
    let arrival :=
      match dir with
      | .outward => r.referenced && decide (s.items.room.travel.get n - s.roomProfile.endZone ≤ x.count)
      | .inward => !r.referenced || decide (x.count ≤ s.roomProfile.endZone)
    if arrival then
      let home := match dir with
        | .outward => s.items.room.travel.get n
        | .inward => 0
      let s := s.modRoom n (fun r => r.haltAtEnd s.now m)
      (s.referenceRoom n [m] home).roomEndCheck n false
    else (s.decideRoom n (.result (.failed .obstructed))).modRoom n (fun r => r.haltAll s.now)

/-- A ROOM_IN input that changes to closed, or reads closed at a first debounce (R92, R103): every
motor count becomes 0; a change stops an inward motion. -/
def State.roomHome (s : State) (n : Room) (changed : Bool) : State :=
  let inwardOp := match s.activeOp (.room n) with
    | some (_, o) => o.job.roomDir == .inward
    | none => false
  let s :=
    if changed && inwardOp then
      s.modRoom n (fun r => (r.haltAtEnd s.now .a).haltAtEnd s.now .b)
    else s
  let s := s.referenceRoom n (s.items.motors n) 0
  if changed && inwardOp then s.roomEndCheck n true else s

/-! ### Pulses (R89, R90) -/

/-- A hall pulse of a room motor. -/
def State.roomPulse (s : State) (n : Room) (m : MotorId) : State :=
  if s.inm.parked || !s.items.configured (.room n) || !(s.items.motors n).contains m then s
  else
    let x := (s.roomUnit n).motor m
    let travel := s.items.room.travel.get n
    if x.driven then
      let t := s.modRoomMotor n m (Motor.drivenPulse travel)
      let moved := ((t.roomUnit n).motor m).count != x.count
      let t := ((((t.testBreakaway n).testEndStop n m).testCreep n).testSync n).testLateStart n m
      if moved then t.judgeMove (.room n) m (.room n m) x.count false else t
    else if x.coast.isSome then
      let t := s.modRoomMotor n m (Motor.coastPulse travel)
      if ((t.roomUnit n).motor m).count != x.count then t.judgeMove (.room n) m (.room n m) x.count false else t
    else s.modRoom n (fun r => { r with stray := true })

/-! ### Ticks (R97, R106) -/

/-- The applied duty of a driven motor at a tick. -/
def State.roomDuty (s : State) (n : Room) (m : MotorId) (running : Bool) : Nat :=
  let r := s.roomUnit n
  let x := r.motor m
  if running && x.late && r.lateTimer.isSome && r.pend.isNone then s.roomProfile.breakawayDuty
  else if s.twoMotors n && !r.breaking && r.a.driven && r.b.driven && r.lead (x.dir.getD .inward) == some m
  then r.ramped - s.trim n
  else r.ramped

/-- One 10 ms tick of a room: currents, ramp, trim, and the stop at the foot of a ramp-down (R97, R106,
R110, R112). -/
def State.tickRoom (s : State) (n : Room) (ampsA ampsB : Nat) : State :=
  if s.inm.parked || !s.items.configured (.room n) || (s.roomUnit n).noneDriven then s
  else
    let s := s.modRoom n (fun r =>
      { r with a := if r.a.driven then { r.a with amps := ampsA } else r.a
               b := if r.b.driven then { r.b with amps := ampsB } else r.b
               ramped := if r.breaking then r.ramped
                         else rampToward r.demanded s.roomProfile.rampUp s.roomProfile.rampDown r.ramped })
    let r := s.roomUnit n
    if !r.breaking && r.demanded = 0 && r.ramped = 0 then s.modRoom n (fun r => r.haltAll s.now)
    else
      let running := (s.runningOp (.room n)).isSome
      let da := s.roomDuty n .a running
      let db := s.roomDuty n .b running
      s.modRoom n (fun r =>
        { r with a := if r.a.driven then { r.a with applied := da } else r.a
                 b := if r.b.driven then { r.b with applied := db } else r.b })

/-! ### Timers -/

/-- The operation's breakaway timer expires (R98): each motor it started that has not broken away has a
qualified stall; the motors still driven go on to RUN. DESIGN CHOICE (log entry 64): of two such motors A is judged first. -/
def State.breakawayExpired (s : State) (n : Room) : State :=
  let s := s.modRoom n (fun r => { r with breakTimer := none })
  let stuck := fun (s : State) (m : MotorId) =>
    let x := (s.roomUnit n).motor m
    x.driven && !x.late && !x.broken
  let s := if stuck s .a then s.judgeStall n .a else s
  let s := if stuck s .b then s.judgeStall n .b else s
  if (s.roomUnit n).breaking && !(s.roomUnit n).noneDriven then s.endBreakaway n
  else s.modRoom n (fun r => { r with breaking := false })

/-- The breakaway timer of a motor started later expires (R98, R108). -/
def State.lateBreakawayExpired (s : State) (n : Room) : State :=
  let s := s.modRoom n (fun r => { r with lateTimer := none })
  let stuck := fun (m : MotorId) =>
    let x := (s.roomUnit n).motor m
    x.driven && x.late && !x.broken
  if stuck .a then s.judgeStall n .a else if stuck .b then s.judgeStall n .b else s

/-- A stall detection on a motor at an expiry (R100). -/
def Motor.detected (limit : Nat) (m : Motor) : Bool :=
  m.driven && m.broken && m.applied != 0 && (!m.pulsed || decide (limit < m.amps))

/-- One motor at a stall window expiry (R100): the run with the detection counted, and whether the
stall is qualified, which sets the run back to 0. -/
def Motor.stallTest (p : Profile) (m : Motor) : Motor × Bool :=
  if m.detected p.currentLimit then
    if p.stallCount ≤ m.run + 1 then ({ m with run := 0, pulsed := false }, true)
    else ({ m with run := m.run + 1, pulsed := false }, false)
  else ({ m with pulsed := false }, false)

/-- The stall window timer expires and is restarted (R100). DESIGN CHOICE (log entry 64): of two qualified stalls motor A's
is judged first. -/
def State.stallExpired (s : State) (n : Room) : State :=
  let r := s.roomUnit n
  let ta := r.a.stallTest s.roomProfile
  let tb := r.b.stallTest s.roomProfile
  let s := s.modRoom n (fun r =>
    { r with a := ta.1, b := tb.1, stallTimer := some (s.now + s.roomProfile.stallWindow) })
  let s := if ta.2 then s.judgeStall n .a else s
  if tb.2 then s.judgeStall n .b else s

/-- The jog timer of a room expires (R109). -/
def State.roomJogExpired (s : State) (n : Room) : State :=
  let s := s.modRoom n (fun r => { r with jogTimer := none })
  match s.roomJudging n with
  | some _ => (s.decideRoom n (.result .complete)).modRoom n (fun r => r.haltAll s.now)
  | none => s

/-- A room with every output off: the pending end is reported, or motion has ceased (R104, R110). -/
def State.roomRests (s : State) (n : Room) : State :=
  if (s.roomUnit n).atRest then
    match s.activeOp (.room n) with
    | some (sl, o) =>
      match o.state, (s.roomUnit n).pend with
      | .running _, some p => s.reportEnd sl (p.report (s.shut (.roomIn n)))
      | .stopping _ _, _ => s.motionCeased sl
      | _, _ => s
    | none => s
  else s

/-- A coast window closes (R104). -/
def State.roomCoastExpired (s : State) (n : Room) (m : MotorId) : State :=
  (s.modRoomMotor n m (fun x => { x with coast := none })).roomRests n

/-! ### Needing no motion, and starting -/

/-- A room job needs no motion (R95). -/
def State.roomIdleJob (s : State) (n : Room) (j : Job) : Bool :=
  match j.kind with
  | .roomOut => s.roomCondition n == .outside
  | .roomIn => s.roomCondition n == .inside
  | _ =>
    match j.roomDir with
    | .outward => (s.roomUnit n).referenced
        && (s.items.motors n).all (fun m => decide (s.items.room.travel.get n ≤ ((s.roomUnit n).motor m).count))
    | .inward => s.roomCondition n == .inside

/-- The motors of a room start (R98), those of `which`; a resumed operation has its CREEP and its RUN of an unreferenced room
still (R20, R99; log entries 45 and 65). DESIGN CHOICE (log entry 52): the demanded duty stays 0 until
BREAKAWAY ends. -/
def State.startMotors (s : State) (n : Room) (sl : Slot) (j : Job) (resumed : Bool) (which : List MotorId) : State :=
  let p := s.roomProfile
  let s := which.foldl (fun s m => s.modRoomMotor n m (Motor.start j.roomDir p.breakawayDuty false)) s
  let s := s.modRoom n (fun r =>
    { r with ramped := p.breakawayDuty, breaking := true, breakTimer := some (s.now + p.breakawayTime), lateTimer := none
             stallTimer := some (s.now + p.stallWindow)
             jogTimer := if j.kind == .roomJog then some (s.now + j.value.getD 0) else none
             pend := none, creeping := resumed && r.creeping, blind := !r.referenced || resumed && r.blind })
  s.reportPhase sl (if j.kind == .roomJog then .move else .breakaway)

/-- The Slide Drive Controller takes a granted operation (R95, R98, R108, R109). -/
def State.startRoom (s : State) (n : Room) (sl : Slot) (o : Op) (resumed : Bool) : State :=
  let r := s.roomUnit n
  if resumed && s.roomIdleJob n o.job then s.reportEndWith sl .complete (some (.permille 0))
  else if s.twoMotors n && decide (s.items.room.syncLimit < r.spread) then
    match o.job.roomDir with
    | .outward => s.reportEnd sl (.failed .sync)
    | .inward => s.startMotors n sl o.job resumed [if r.b.count < r.a.count then .a else .b]
  else s.startMotors n sl o.job resumed (s.items.motors n)

end Sys2Proof.Machine
end

