-- ==== Sys2Proof/Machine/Awning.lean ====
section
/-! DEFINITION. The awning half of the Awning and Wind Unit (chapter 6): starting the awning, hall pulses,
the creep window, stalls, stops by count and by switch, and the report of an end. -/

namespace Sys2Proof.Machine

/-! ### Reading the awning -/

/-- The awning's profile (R119). -/
def State.awningProfile (s : State) : Profile := s.items.awn.profile

/-- The direction of an awning operation (R121, R122): that fixed for an AWNING_SET, the named one of a
jog, inward for a stow. -/
def State.awningDir (s : State) (o : Op) : Dir :=
  match o.job.kind with
  | .awningSet => s.awu.setDir.getD .inward
  | .awningJog => o.job.dir.getD .inward
  | _ => .inward

/-- The awning operation that still judges its outcome: RUNNING with no pending end. -/
def State.awningJudging (s : State) : Option (Slot × Op) :=
  if s.awu.pend.isSome then none else s.runningOp .awning

/-- The distance of the count from a target count. -/
def AwningUnit.gap (a : AwningUnit) (target : Nat) : Nat := ((a.motor.count : Int) - (target : Int)).natAbs

/-- The target count of an operation: 0 for a stow (R122). -/
def State.awningTarget (s : State) (o : Op) : Nat :=
  match o.job.kind with
  | .awningSet => s.awu.target
  | _ => 0

/-- The awning is in the creep window of an operation (R122); a jog has none. -/
def State.awningNear (s : State) (o : Op) : Bool :=
  o.job.kind != .awningJog && s.awu.referenced
    && decide (s.awu.gap (s.awningTarget o) ≤ s.awningProfile.creepWindow)

/-! ### Pending ends -/

/-- A result decided for a RUNNING awning operation (R124). -/
def State.decideAwning (s : State) (p : Pend) : State :=
  match s.awningJudging with
  | some _ => s.modAwning (fun a => a.decide p)
  | none => s

/-- The awning motor stops being driven (R116). -/
def State.haltAwning (s : State) : State := s.modAwning (fun a => a.halt s.now)

/-- The pending end at an arrival (R124, R125, R132): the IN switch decides it at the report for an
AWNING_SET with target 0, an inward jog and a stow. -/
def Op.awningArrival (o : Op) (d : Dir) : Pend :=
  match d with
  | .outward => .result .complete
  | .inward =>
    if o.job.kind == .awningSet && decide (0 < o.job.value.getD 0) then .result .complete else .bySwitch

/-- The awning's count is written by a reference, and its flag set (R118). -/
def State.referenceAwning (s : State) (count : Nat) : State :=
  let t := s.modAwning (fun a =>
    { a with motor := { a.motor with count := count }, referenced := true, stray := false })
  t.judgeMove .awning .a .awning s.awu.motor.count true

/-! ### Phases -/

/-- The awning operation runs at its run or its creep duty (R122). -/
def State.setAwningPace (s : State) (sl : Slot) (o : Op) (creep : Bool) : State :=
  let duty := if creep then s.awningProfile.creepDuty else s.awningProfile.runDuty
  let s := s.modAwning (fun a => { a with demanded := duty, creeping := creep })
  if o.job.kind == .awningSet then s.reportPhase sl (if creep then .creep else .run) else s

/-- BREAKAWAY ends (R122). The creep window counts as entered also where the operation entered it before a hold, which does
not end it (R20); that an AWNING_SET then reports CREEP is DEDUCED (log entry 65). -/
def State.endAwningBreakaway (s : State) : State :=
  let s := s.modAwning (fun a => { a with breaking := false, breakTimer := none })
  match s.awningJudging with
  | some (sl, o) =>
    if o.job.kind == .awningJog then s.modAwning (fun a => { a with demanded := s.awningProfile.creepDuty })
    else s.setAwningPace sl o (s.awu.creeping || s.awningNear o)
  | none => s

/-- The breakaway test at a pulse (R122). -/
def State.testAwningBreakaway (s : State) : State :=
  if s.awu.breakTimer.isSome && s.awu.motor.broken then s.endAwningBreakaway else s

/-- The creep test at a pulse (R122). -/
def State.testAwningCreep (s : State) : State :=
  match s.awningJudging with
  | some (sl, o) =>
    if !s.awu.breaking && !s.awu.creeping && s.awningNear o then s.setAwningPace sl o true else s
  | none => s

/-- The count at which an awning operation's motor stops is reached (R124, R125): the target count of an
AWNING_SET (inward only with a target above 0), awning_travel for an outward jog of a referenced awning. -/
def State.awningAtStop (s : State) (o : Op) : Bool :=
  match o.job.kind with
  | .awningSet =>
    match s.awningDir o with
    | .outward => decide (s.awu.target ≤ s.awu.motor.count)
    | .inward => decide (0 < o.job.value.getD 0 ∧ s.awu.motor.count ≤ s.awu.target)
  | .awningJog =>
    s.awningDir o == .outward && s.awu.referenced && decide (s.items.awn.travel ≤ s.awu.motor.count)
  | _ => false

/-- The count stop at a pulse (R124, R125). -/
def State.testAwningStop (s : State) : State :=
  match s.activeOp .awning with
  | some (_, o) =>
    if s.awu.motor.driven && s.awningAtStop o then s.haltAwning.decideAwning (.result .complete) else s
  | none => s

/-! ### Stalls and the switch -/

/-- A qualified stall is judged (R123): arrival or obstruction. -/
def State.judgeAwningStall (s : State) : State :=
  let m := s.awu.motor
  if !m.driven then s
  else
    let dir := m.dir.getD .inward
    let arrival :=
      match dir with
      | .outward => s.awu.referenced && decide (s.items.awn.travel - s.awningProfile.endZone ≤ m.count)
      | .inward => !s.awu.referenced || decide (m.count ≤ s.awningProfile.endZone)
    if arrival then
      let home := match dir with
        | .outward => s.items.awn.travel
        | .inward => 0
      let t := s.haltAwning.referenceAwning home
      match t.activeOp .awning with
      | some (_, o) => t.decideAwning (o.awningArrival dir)
      | none => t
    else s.haltAwning.decideAwning (.result (.failed .obstructed))

/-- An AWNING_IN input that changes to closed, or reads closed at a first debounce (R118, R124, R125,
R132): the count becomes 0, and a change stops an inward motion. -/
def State.awningHome (s : State) (changed : Bool) : State :=
  let inwardOp := match s.activeOp .awning with
    | some (_, o) => s.awningDir o == .inward
    | none => false
  if changed && inwardOp then (s.haltAwning.referenceAwning 0).decideAwning (.result .complete)
  else s.referenceAwning 0

/-! ### Pulses and ticks -/

/-- A hall pulse of the awning motor (R117). -/
def State.awningPulse (s : State) : State :=
  if s.inm.parked || !s.items.awn.present then s
  else
    let m := s.awu.motor
    let travel := s.items.awn.travel
    if m.driven then
      let t := s.modAwningMotor (Motor.drivenPulse travel)
      let moved := t.awu.motor.count != m.count
      let t := (t.testAwningBreakaway.testAwningStop).testAwningCreep
      if moved then t.judgeMove .awning .a .awning m.count false else t
    else if m.coast.isSome then
      let t := s.modAwningMotor (Motor.coastPulse travel)
      if t.awu.motor.count != m.count then t.judgeMove .awning .a .awning m.count false else t
    else s.modAwning (fun a => { a with stray := true })

/-- One 10 ms tick of the awning (R119, R126): the current, sampled whether or not the motor is driven; then,
for a driven motor, the ramp, the applied duty and the stop at the foot of a ramp-down. -/
def State.tickAwning (s : State) (amps : Nat) : State :=
  if s.inm.parked || !s.items.awn.present then s
  else
    let s := s.modAwningMotor (fun m => { m with amps := amps })
    if !s.awu.motor.driven then s else
    let s := s.modAwning (fun a =>
      { a with ramped := if a.breaking then a.ramped
                         else rampToward a.demanded s.awningProfile.rampUp s.awningProfile.rampDown a.ramped })
    if !s.awu.breaking && s.awu.demanded = 0 && s.awu.ramped = 0 then s.haltAwning
    else s.modAwning (fun a => { a with motor := { a.motor with applied := a.ramped } })

/-! ### Timers -/

/-- The breakaway timer expires (R123): a motor that has not broken away has a qualified stall. -/
def State.awningBreakawayExpired (s : State) : State :=
  let s := s.modAwning (fun a => { a with breakTimer := none })
  if s.awu.motor.driven && !s.awu.motor.broken then s.judgeAwningStall else s

/-- The stall window timer expires and is restarted (R100, R123). -/
def State.awningStallExpired (s : State) : State :=
  let t := s.awu.motor.stallTest s.awningProfile
  let s := s.modAwning (fun a => { a with motor := t.1, stallTimer := some (s.now + s.awningProfile.stallWindow) })
  if t.2 then s.judgeAwningStall else s

/-- The jog timer expires (R125). -/
def State.awningJogExpired (s : State) : State :=
  let s := s.modAwning (fun a => { a with jogTimer := none })
  match s.awningJudging with
  | some _ => (s.decideAwning (.result .complete)).haltAwning
  | none => s

/-- With the motor off and its coast window closed the pending end is reported, or motion has ceased
(R124, R126). -/
def State.awningRests (s : State) : State :=
  if s.awu.motor.moving then s
  else
    match s.activeOp .awning with
    | some (sl, o) =>
      match o.state, s.awu.pend with
      | .running _, some p => s.reportEnd sl (p.report (s.shut .awningIn))
      | .stopping _ _, _ => s.motionCeased sl
      | _, _ => s
    | none => s

/-- The coast window closes (R117). -/
def State.awningCoastExpired (s : State) : State :=
  (s.modAwningMotor (fun m => { m with coast := none })).awningRests

/-! ### Needing no motion, and starting -/

/-- An awning job needs no motion (R121). -/
def State.awningIdleJob (s : State) (j : Job) : Bool :=
  match j.kind with
  | .awningSet =>
    if j.value.getD 0 = 0 then s.awningCondition == .inside
    else s.awu.referenced && decide (s.awu.gap (s.setTarget j) ≤ s.awningProfile.endZone)
  | .awningJog =>
    match j.dir.getD .inward with
    | .outward => s.awu.referenced && decide (s.items.awn.travel ≤ s.awu.motor.count)
    | .inward => s.awningCondition == .inside
  | _ => false

/-- The direction and the target count of an AWNING_SET are fixed (R121). -/
def State.fixAwning (s : State) (j : Job) : State :=
  if j.kind == .awningSet then
    s.modAwning (fun a => { a with setDir := some (s.setDirNow j), target := s.setTarget j })
  else s

/-- The awning motor starts for an operation (R122). DESIGN CHOICE (log entry 52): the demanded duty stays 0 until
BREAKAWAY ends. A resumed operation has its creep window still (R20, R122). -/
def State.runAwning (s : State) (sl : Slot) (o : Op) (resumed : Bool) : State :=
  let p := s.awningProfile
  let d := s.awningDir o
  let s := s.modAwning (fun a =>
    { a with motor := a.motor.start d p.breakawayDuty false
             ramped := p.breakawayDuty, breaking := true, creeping := resumed && a.creeping
             breakTimer := some (s.now + p.breakawayTime)
             stallTimer := some (s.now + p.stallWindow)
             jogTimer := if o.job.kind == .awningJog then some (s.now + o.job.value.getD 0) else none
             pend := none })
  s.reportPhase sl (if o.job.kind == .awningSet then .breakaway else .move)

/-- The Awning and Wind Unit takes a granted operation (R121, R122, R130). -/
def State.startAwning (s : State) (sl : Slot) (o : Op) (resumed : Bool) : State :=
  if resumed && s.awningIdleJob o.job then s.reportEndWith sl .complete (some (.permille 0))
  else
    let s := if resumed then s.fixAwning o.job else s
    if s.awningDir o == .outward && s.windBars then s.reportEnd sl (.cancelled .interlock)
    else s.runAwning sl o resumed

end Sys2Proof.Machine
end

