-- ==== Sys2Proof/Machine/Arbiter.lean ====
section
/-! DEFINITION. The Start Arbiter (chapter 2): the four tests of the head of the waiting queue, the grant,
the examination, joining the queue, and the supply monitor. -/

namespace Sys2Proof.Machine

/-! ### The four tests (R31) -/

/-- The budget test (R31, R28). -/
def State.fitsBudget (s : State) (o : Op) : Bool :=
  match o.opClass with
  | .normal =>
    decide (s.sta.resSum + o.reservation ≤ s.items.supply.budgetLimit
      ∧ s.sta.normalSum + o.reservation ≤ s.items.normalBudget)
  | .safety => decide (s.sta.resSum + o.reservation ≤ s.items.supply.budgetLimit)

/-- The frame rule allows a group (R33). -/
def State.frameAllows (s : State) : Group → Bool
  | .jacks => !s.roomMoving
  | .room _ => !s.jacksMoving
  | .awning => true

/-- The stagger test (R31, R34). -/
def State.staggerAllows (s : State) (o : Op) : Bool :=
  match o.opClass with
  | .normal => s.sta.stagger.isNone
  | .safety => true

/-- The supply test (R31, R38, R40). -/
def State.supplyAllows (s : State) (o : Op) : Bool :=
  match o.opClass with
  | .normal => s.sta.supply == .normal
  | .safety => !(s.sta.supply == .cut)

/-- The first test that a head fails, as its wait reason; `none` where all four pass (R31). DESIGN CHOICE (log entry 42):
in CUT a NORMAL head shows STAGGER while the stagger timer runs, by the order of R31, and SUPPLY (R40) after it. -/
def State.blockedBy (s : State) (o : Op) : Option WaitReason :=
  if !s.fitsBudget o then some .budget
  else if !s.frameAllows o.job.group then some .frame
  else if !s.staggerAllows o then some .stagger
  else if !s.supplyAllows o then some .supply
  else none

/-! ### The grant (R32) -/

/-- The Arbiter's own part of a grant: the head leaves the queue, its reservation is added, the stagger
timer is started, and the record becomes RUNNING (R27, R32, R34). DESIGN CHOICE (log entry 43): with stagger_time 0 a
timer that an earlier grant started keeps its expiry. -/
def State.grantRecord (s : State) (sl : Slot) (o : Op) : State :=
  let sta := { s.sta with
    queue := s.sta.queue.filter (fun q => q != sl)
    resSum := s.sta.resSum + o.reservation
    normalSum := if o.opClass == .normal then s.sta.normalSum + o.reservation else s.sta.normalSum
    stagger := if s.items.supply.staggerTime = 0 then s.sta.stagger else some (s.now + s.items.supply.staggerTime) }
  { s with sta := sta }.setOp sl { o with state := .running none, resumed := false }

/-- The group controller takes the granted operation. -/
def State.startOp (s : State) (sl : Slot) (o : Op) : State :=
  match o.job.group with
  | .jacks => s.startJacks sl o o.resumed
  | .room n => s.startRoom n sl o o.resumed
  | .awning => s.startAwning sl o o.resumed

/-- A grant in one event (R32), with the Clearance Monitor's judgement of it (R160). -/
def State.grant (s : State) (sl : Slot) (o : Op) : State :=
  let t := (s.grantRecord sl o).startOp sl o
  t.judgeStanding o.job.group (t.protecting o.job.group)

/-! ### The examination (R30) -/

/-- The wait reason of an ADMITTED record is written. -/
def State.setWait (s : State) (sl : Slot) (w : WaitReason) : State :=
  match s.opAt sl with
  | some o => if o.state.isAdmitted then s.setOp sl { o with state := .admitted w } else s
  | none => s

/-- The head is granted, and the next examined, until a head is not granted or the queue is empty; the
head that is not granted gets its reason and every entry behind it QUEUE (R30). A grant is made only to an
operation in ADMITTED (R3). `n` bounds the grants. -/
def State.examine : Nat → State → State
  | 0, s => s
  | n + 1, s =>
    match s.sta.queue with
    | [] => s
    | sl :: behind =>
      match s.opAt sl with
      | none => s
      | some o =>
        if !o.state.isAdmitted then s
        else
          match s.blockedBy o with
          | none => (s.grant sl o).examine n
          | some w => behind.foldl (fun t q => t.setWait q .queue) (s.setWait sl w)

/-- The examination of the queue as it stands. -/
def State.examineQueue (s : State) : State := s.examine s.sta.queue.length

/-- An operation joins the queue at the tail of its class's part (R29). -/
def State.enqueue (s : State) (sl : Slot) (c : OpClass) : State :=
  let isSafety := fun (q : Slot) => (s.opAt q).any (fun o => o.opClass == .safety)
  let queue := match c with
    | .normal => s.sta.queue ++ [sl]
    | .safety => s.sta.queue.filter isSafety ++ [sl] ++ s.sta.queue.filter (fun q => !isSafety q)
  { s with sta := { s.sta with queue := queue } }

/-! ### The supply monitor (R35 to R41) -/

/-- Every non-ended NORMAL operation that satisfies `p` gets a hold, in ascending slot order (R20). -/
def State.holdAll (s : State) (p : Op → Bool) (h : HoldReason) : State :=
  s.eachOp (fun _ o => o.opClass == .normal && !o.state.isEnded && p o) (fun s sl => s.holdOp sl h)

/-- Every operation that satisfies `p` is ended at once, in ascending slot order (R17). -/
def State.endAll (s : State) (p : Op → Bool) (r : Result) : State :=
  s.eachOp (fun _ o => !o.state.isEnded && p o) (fun s sl => s.endNow sl r)

/-- Every non-ended operation that satisfies `p` gets a cancel, in ascending slot order (R16). -/
def State.cancelAll (s : State) (p : State → Op → Bool) (r : Result) : State :=
  s.eachOp (fun s o => !o.state.isEnded && p s o) (fun s sl => s.cancelOp sl r)

/-- What an entry to a supply state does to the operations (R39, R40). -/
def State.enterSupply (s : State) : SupplyState → State
  | .hold => s.holdAll (fun _ => true) .supplyLow
  | .cut => s.endAll (fun o => o.state.active) (.failed .supply)
  | _ => s

/-- The supply state follows from the flags (R37). `first` is the first evaluation after a reset, which
raises no SUPPLY change (R35). -/
def State.followSupply (s : State) (first : Bool) : State :=
  let new := s.sta.flags.state
  if new == s.sta.supply then s
  else
    let s := { s with sta := { s.sta with supply := new } }
    let s := if first then s else s.raise .supply
    s.enterSupply new

/-- The last eight samples (R35). -/
def pushSample (window : List Nat) (v : Nat) : List Nat :=
  (if 8 ≤ window.length then window.drop 1 else window) ++ [v]

/-- One sample of VBATT (R35, R36). -/
def State.sampleSupply (s : State) (tenths : Nat) : State :=
  let window := pushSample s.sta.samples tenths
  if window.length < 8 then { s with sta := { s.sta with samples := window } }
  else
    let v := filterVoltage window
    let first := s.sta.filtered.isNone
    let timer := evalHoldTimer s.items.supply v s.now s.sta.flags s.sta.holdTimer
    let flags := evalFlags s.items.supply v s.sta.flags
    { s with sta := { s.sta with samples := window, filtered := some v, flags := flags, holdTimer := timer } }.followSupply
      first

/-- The hold timer expires (R36). -/
def State.holdTimerExpired (s : State) : State :=
  { s with sta := { s.sta with holdTimer := none, flags := { s.sta.flags with holdSet := true } } }.followSupply false

end Sys2Proof.Machine
end

