-- ==== Sys2Proof/Machine/Settle.lean ====
section
/-! DEFINITION. The end of an event: what the blocks hand to each other in the event that changed them,
taken once, after the event's own effects (log entry 7). The retract interlock, the clearance flags, the
examination of the queue, the drift monitor, the coach condition record, idle, the fault record and the
two attention outputs all follow here. -/

namespace Sys2Proof.Machine

/-- The drift timer is stopped while the monitor is not watching (R51). -/
def State.driftIdle (s : State) : State :=
  if s.watching then s else { s with atu := { s.atu with drift := none } }

/-- The coach condition record follows (R142, R145); it is not re-derived while parked (R149). -/
def State.deriveCoach (s : State) : State :=
  if s.inm.parked then s else { s with inm := { s.inm with coach := s.coachNow } }

/-- The part is idle (R147). -/
def State.idleNow (s : State) : Bool :=
  !s.inm.parked && !s.inm.notReady && !s.anyNonEnded && !s.shut .ignition && !s.liu.connected && s.ist.storing.isNone

/-- The idle timer starts where idle begins and stops where it ends (R147). -/
def State.followIdle (s : State) : State :=
  if s.idleNow then
    if s.inm.idle then s
    else
      { s with inm := { s.inm with idle := true
                                   idleTimer := if s.items.inp.autoPark = 0 then none
                                                else some (s.now + s.items.inp.autoPark * 60000) } }
  else { s with inm := { s.inm with idle := false, idleTimer := none } }

/-- The end of an event. -/
def State.settle (s : State) : State :=
  (s.watchRetract.deriveClearance.examineQueue.deriveClearance.driftIdle.deriveCoach.followIdle).sync

end Sys2Proof.Machine
end

