-- ==== Sys2Proof/Machine/Operands.lean ====
section
/-! DEFINITION. The encoding of values in frames (R173): bytes in, bytes out, the enumeration codes, the
frame check (R168), and the numbers of an image. -/

namespace Sys2Proof.Machine

/-! ### Bytes in -/

/-- The number of two bytes, low byte first. -/
def num16 (lo hi : Byte) : Nat := lo.toNat + 256 * hi.toNat

/-- The signed number of four bytes, low byte first. -/
def int32 (a b c d : Byte) : Int :=
  (BitVec.ofNat 32 (a.toNat + 256 * b.toNat + 65536 * c.toNat + 16777216 * d.toNat)).toInt

/-- The place of a set bit: a group bit set names the group of each code (R174). -/
def groupsOf (set : Byte) : List Group := groups.filter (fun g => set.getLsbD g.idx.val)

/-! ### Bytes out -/

/-- One byte. -/
def out8 (n : Nat) : List Byte := [BitVec.ofNat 8 n]

/-- Two bytes, low byte first. -/
def out16 (n : Nat) : List Byte := [BitVec.ofNat 8 n, BitVec.ofNat 8 (n / 256)]

/-- Four bytes, low byte first. -/
def out32 (n : Nat) : List Byte :=
  [BitVec.ofNat 8 n, BitVec.ofNat 8 (n / 256), BitVec.ofNat 8 (n / 65536), BitVec.ofNat 8 (n / 16777216)]

/-- A signed number in two bytes. -/
def outInt16 (x : Int) : List Byte := out16 (BitVec.ofInt 16 x).toNat

/-- A signed number in four bytes. -/
def outInt32 (x : Int) : List Byte := out32 (BitVec.ofInt 32 x).toNat

/-- A boolean. -/
def outBool (b : Bool) : List Byte := out8 (if b then 1 else 0)

/-- A field of `n` bytes that may be absent: its presence byte, then its bytes or zeros (R173). -/
def outOpt (n : Nat) : Option (List Byte) → List Byte
  | some l => out8 1 ++ l
  | none => out8 0 ++ List.replicate n 0

/-- A list padded with zero bytes to a length. -/
def padTo (n : Nat) (l : List Byte) : List Byte := l ++ List.replicate (n - l.length) 0

/-- A bit set of three bytes. -/
def out24 (v : BitVec 24) : List Byte :=
  [v.extractLsb' 0 8, v.extractLsb' 8 8, v.extractLsb' 16 8]

/-- A bit set of jacks. -/
def jackSet (l : List Jack) : BitVec 8 := l.foldl (fun acc j => acc ||| bitAt 8 j.val) 0

/-! ### Codes (R173) -/

/-- The code of a kind. -/
def OpKind.code : OpKind → Nat
  | .level => 0
  | .ground => 1
  | .jacksStow => 2
  | .jackJog => 3
  | .roomOut => 4
  | .roomIn => 5
  | .roomJog => 6
  | .awningSet => 7
  | .awningJog => 8
  | .awningStow => 9

/-- The kind a SUBMIT may name by a code; 9 and all above are refused BAD_KIND. -/
def OpKind.submitted (b : Byte) : Option OpKind :=
  [OpKind.level, .ground, .jacksStow, .jackJog, .roomOut, .roomIn, .roomJog, .awningSet, .awningJog].find?
    (fun k => k.code == b.toNat)

/-- The code of a group. -/
def Group.code (g : Group) : Nat := g.idx.val

/-- The group of a code. -/
def Group.ofCode (b : Byte) : Option Group := groups.find? (fun g => g.code == b.toNat)

/-- The code of a jack, by position from 1. -/
def jackCode (j : Jack) : Nat := j.val + 1

/-- The code of a direction. -/
def Dir.code : Dir → Nat
  | .outward => 0
  | .inward => 1

/-- The code of a motor's direction, 2 for none (R173). -/
def dirCode : Option Dir → Nat
  | some d => d.code
  | none => 2

/-- The code of an origin. -/
def Origin.code : Origin → Nat
  | .link => 0
  | .service => 1
  | .internal => 2

/-- The code of a class. -/
def OpClass.code : OpClass → Nat
  | .normal => 0
  | .safety => 1

/-- The code of a state. -/
def OpState.code : OpState → Nat
  | .admitted _ => 0
  | .running _ => 1
  | .stopping _ _ => 2
  | .held _ => 3
  | .ended _ _ _ => 4

/-- The code of a wait reason. -/
def WaitReason.code : WaitReason → Nat
  | .queue => 0
  | .budget => 1
  | .frame => 2
  | .stagger => 3
  | .supply => 4

/-- The code of a hold reason. -/
def HoldReason.code : HoldReason → Nat
  | .linkSilent => 0
  | .supplyLow => 1

/-- The code of a phase. -/
def Phase.code : Phase → Nat
  | .ground => 0
  | .settle => 1
  | .solve => 2
  | .lift => 3
  | .touchdown => 4
  | .breakaway => 5
  | .run => 6
  | .creep => 7
  | .move => 8

/-- The code of a reason. -/
def Reason.code : Reason → Nat
  | .deadband => 1
  | .strokeLimited => 2
  | .disturbed => 3
  | .clearance => 4
  | .inSwitch => 5
  | .obstructed => 6
  | .sync => 7
  | .noGround => 8
  | .strokeShort => 9
  | .tooSteep => 10
  | .passes => 11
  | .attitude => 12
  | .liftTimeout => 13
  | .groundTimeout => 14
  | .stowTimeout => 15
  | .jackSensor => 16
  | .supply => 17
  | .stop => 18
  | .halt => 19
  | .eStop => 20
  | .interlock => 21
  | .claimed => 22
  | .superseded => 23
  | .peerFault => 24
  | .serviceLost => 25

/-- The code of a result. -/
def Result.code : Result → Nat
  | .complete => 0
  | .partly _ => 1
  | .failed _ => 2
  | .cancelled _ => 3

/-- The reason of a result; COMPLETE has none. -/
def Result.reason : Result → Option Reason
  | .complete => none
  | .partly r => some r
  | .failed r => some r
  | .cancelled r => some r

/-- The refusal codes (R173). -/
def Refuse.code : Refuse → Nat
  | .unknownKind => 1
  | .badLength => 2
  | .badKind => 3
  | .badGroup => 4
  | .badRange => 5
  | .notReady => 6
  | .notConfigured => 7
  | .notOwner => 8
  | .dupTag => 9
  | .groupBusy => 10
  | .noSlot => 11
  | .interlock => 12
  | .unreferenced => 13
  | .slidesOut => 14
  | .jacksUp => 15
  | .windLockout => 16
  | .attitude => 17
  | .tooSteep => 18
  | .clearance => 19
  | .budget => 20
  | .jackSensor => 21
  | .noSuchTag => 22
  | .wrongState => 23
  | .safetyOp => 24
  | .busy => 25
  | .storing => 26
  | .groupActive => 27
  | .itemConflict => 28
  | .wrongLink => 29
  | .unknownItem => 30
  | .storeFail => 31

/-- The code of a jacks condition. -/
def JacksCondition.code : JacksCondition → Nat
  | .stowed => 0
  | .grounded => 1
  | .levelled => 2
  | .partly => 3

/-- The code of a room condition. -/
def RoomCondition.code : RoomCondition → Nat
  | .inside => 0
  | .outside => 1
  | .between => 2
  | .unknown => 3

/-- The code of an awning condition. -/
def AwningCondition.code : AwningCondition → Nat
  | .inside => 0
  | .outside => 1
  | .unknown => 2

/-- The code of a supply state. -/
def SupplyState.code : SupplyState → Nat
  | .normal => 0
  | .low => 1
  | .hold => 2
  | .cut => 3

/-- The code of a wake cause. -/
def WakeCause.code : WakeCause → Nat
  | .link => 0
  | .service => 1
  | .input _ => 2
  | .wind => 3

/-- The input number beside a wake cause (R176). -/
def WakeCause.inputNumber : WakeCause → Nat
  | .input i => i.val
  | _ => 0

/-- The code of a restart cause (R174). -/
def RestartCause.code : RestartCause → Nat
  | .powerOn => 0
  | .brownout => 1
  | .request => 2

/-- The code of an item source (R174). -/
def ItemSource.code : ItemSource → Nat
  | .image => 0
  | .defaulted => 1

/-- The code of a contact. -/
def Contact.code : Contact → Nat
  | .closed => 0
  | .opened => 1

/-- The code of a reading (R177). -/
def Reading.code : Reading → Nat
  | .closed => 0
  | .opened => 1
  | .short => 2

/-- The byte FF of an absent enumeration (R177). -/
def absentCode : Nat := 255

/-! ### The frame check (R168) -/

/-- One place of the shift. -/
def crcShift (r : Word) : Word := if r.getLsbD 15 then (r <<< 1) ^^^ 0x1021#16 else r <<< 1

/-- The register after one byte. -/
def crcByte (r : Word) (b : Byte) : Word :=
  let x := r ^^^ (b.zeroExtend 16 <<< 8)
  crcShift (crcShift (crcShift (crcShift (crcShift (crcShift (crcShift (crcShift x)))))))

/-- The check word of a list of bytes. -/
def crc16 (l : List Byte) : Word := l.foldl crcByte 0xFFFF#16

/-- The check word a received frame must carry: over LEN, KIND and payload. -/
def frameCheck (len kind : Byte) (payload : List Byte) : Word := crc16 (len :: kind :: payload)

/-! ### Clearance records (R178) -/

/-- A clearance record as SET_ITEM carries it, after the enumeration bytes were taken (R178). -/
structure RawEntry where
  enabled : Bool
  subject : Group
  lo : Nat
  hi : Nat
  byGroup : Bool
  group : Group
  condLo : Nat
  condHi : Nat
  func : Func
  state : Contact
  action : ClearAction
deriving DecidableEq, Repr

/-- A boolean or two-valued byte. -/
def two? (b : Byte) : Option Bool := if b = 0 then some false else if b = 1 then some true else none

/-- The sixteen bytes of a clearance record, the fields down the table's columns (R178). An enumeration byte outside its set gives `none`
(R173); the fields that the condition kind does not use are ignored (R170). DESIGN CHOICE (log entry 60): so does an argument
that the function does not take, as R195 has it for input_function. -/
def RawEntry.read : List Byte → Option RawEntry
  | [en, sub, lo0, lo1, hi0, hi1, kind, act, cg, cl0, cl1, ch0, ch1, fc, fa, st] =>
    match two? en, Group.ofCode sub, two? kind, two? act with
    | some enabled, some subject, some byInput, some detect =>
      let action := if detect then ClearAction.detect else ClearAction.protect
      let whole := fun (g : Group) (f : Func) (c : Contact) =>
        RawEntry.mk enabled subject (num16 lo0 lo1) (num16 hi0 hi1) (!byInput) g (num16 cl0 cl1) (num16 ch0 ch1) f c action
      if byInput then
        match Func.ofCode fc.toNat fa.toNat, two? st with
        | some f, some opened => some (whole .jacks f (if opened then .opened else .closed))
        | _, _ => none
      else (Group.ofCode cg).map (fun g => whole g .none .closed)
    | _, _, _, _ => none
  | _ => none

/-- A record is taken: bounds above 1000 are clamped, and the refusals of R156 are judged; `none` is
BAD_RANGE. -/
def RawEntry.take (r : RawEntry) : Option ClearEntry :=
  let lo := min 1000 r.lo
  let hi := min 1000 r.hi
  let clo := min 1000 r.condLo
  let chi := min 1000 r.condHi
  if hi < lo then none
  else if r.byGroup && decide (chi < clo) then none
  else if r.subject = .jacks then none
  else if r.byGroup && r.group == r.subject then none
  else if !r.byGroup && (r.func == .none || r.func == .generic) then none
  else
    some { enabled := r.enabled, subject := r.subject, lo := lo, hi := hi
           cond := if r.byGroup then .group r.group clo chi else .input r.func r.state
           action := r.action }

/-- The sixteen bytes of a stored entry (R178); the fields of the other condition kind hold 0. -/
def ClearEntry.write (e : ClearEntry) : List Byte :=
  let act := match e.action with
    | .protect => 0
    | .detect => 1
  let head := outBool e.enabled ++ out8 e.subject.code ++ out16 e.lo ++ out16 e.hi
  match e.cond with
  | .group g lo hi => head ++ out8 0 ++ out8 act ++ out8 g.code ++ out16 lo ++ out16 hi ++ [0, 0, 0]
  | .input f st => head ++ out8 1 ++ out8 act ++ [0, 0, 0, 0, 0] ++ out8 f.code ++ out8 f.arg ++ out8 st.code

/-! ### The nonvolatile image (R196, R197; its layout is log entry 4) -/

/-- The image bytes of one item. -/
def Items.itemBytes (t : Items) (k : ItemKey) : List Byte :=
  match k with
  | .clearance e => (t.clearance.get e).write
  | _ => outInt32 (t.get k)

/-- The whole table in item-number order and index order (R196). -/
def Items.imageBytes (t : Items) : List Byte := itemOrder.flatMap t.itemBytes

/-- The image a store writes: the table, then the check word over its bytes (R196). -/
def Items.image (t : Items) : Image := { bytes := t.imageBytes, check := crc16 t.imageBytes }

/-- One item read back from the front of the bytes; `none` where they are short or the value lies
outside the item's range or set (R197). -/
def Items.readItem (t : Items) (k : ItemKey) (bytes : List Byte) : Option (Items × List Byte) :=
  match k with
  | .clearance e =>
    match (RawEntry.read (bytes.take 16)).bind RawEntry.take with
    | some c => if c.write = bytes.take 16 then some ({ t with clearance := t.clearance.set e c }, bytes.drop 16) else none
    | none => none
  | _ =>
    match bytes with
    | a :: b :: c :: d :: rest =>
      let v := int32 a b c d
      if k.domain.holds v then
        match k with
        | .function _ => if (Func.ofNumber v).isSome then some (t.put k v, rest) else none
        | _ => some (t.put k v, rest)
      else none
    | _ => none

/-- The table read from image bytes. -/
def Items.readImage : List ItemKey → Items → List Byte → Option Items
  | [], t, [] => some t
  | [], _, _ :: _ => none
  | k :: rest, t, bytes =>
    match t.readItem k bytes with
    | some (t', bytes') => Items.readImage rest t' bytes'
    | none => none

/-- The load at a reset (R197): the image's table where its check word matches and every value lies
within its range or set, every default otherwise. -/
def loadImage (m : Image) : Items × ItemSource :=
  if crc16 m.bytes = m.check then
    match Items.readImage itemOrder Items.default m.bytes with
    | some t => (t, .image)
    | none => (Items.default, .defaulted)
  else (Items.default, .defaulted)

end Sys2Proof.Machine
end

