-- ==== Sys2Proof/Machine/Wind.lean ====
section
/-! DEFINITION. Measuring the wind (section 6.5 and 6.6): the gate counter, the gate speed, the window of
ten speeds and its average, the trigger and the lockout timer. -/

namespace Sys2Proof.Machine

/-- A pulse on the WIND input (R127). -/
def Wind.pulse (w : Wind) : Wind := { w with gateCount := min 2000 (w.gateCount + 1) }

/-- The gate speed of a count (R127). -/
def gateSpeed (factor n : Nat) : Nat := (n * factor + 50) / 100

/-- The window with a speed at its tail; the oldest of ten leaves (R128). -/
def pushSpeed (window : List Nat) (v : Nat) : List Nat :=
  (if 10 ≤ window.length then window.drop 1 else window) ++ [v]

/-- The average of the window (R128), absent while it is empty. -/
def averageSpeed (window : List Nat) : Option Nat :=
  if window.isEmpty then none else some ((window.sum + window.length / 2) / window.length)

/-- The trigger at a gate end (R129). -/
def triggerNow (t : AwningItems) (average speed : Nat) : Bool :=
  (t.avgLimit != 0 && decide (t.avgLimit < average)) || (t.gustLimit != 0 && decide (t.gustLimit < speed))

/-- A gate end (R127 to R129): speed, window, trigger and lockout timer; the next gate begins. -/
def Wind.gateEnd (t : AwningItems) (now : Nat) (w : Wind) : Wind :=
  let v := gateSpeed t.windFactor w.gateCount
  let window := pushSpeed w.window v
  let trigger := triggerNow t ((averageSpeed window).getD 0) v
  { gateCount := 0
    gateTimer := some (now + 1000)
    lastCount := w.gateCount
    lastSpeed := v
    window := window
    trigger := trigger
    lockout := if trigger && t.lockout != 0 then some (now + t.lockout * 60000) else w.lockout }

/-- The WIND details a gate end raises (R129): trigger where it was not present before, lockout start
where the timer was stopped. -/
def gateDetails (old new : Wind) : BitVec 8 :=
  (if new.trigger && !old.trigger then 0x01#8 else 0) ||| (if old.lockout.isNone && new.lockout.isSome then 0x02#8 else 0)

/-- The unit's own part of a gate end, with the notices it raises. -/
def State.measureWind (s : State) : State :=
  let w := s.wind.gateEnd s.items.awn s.now
  let detail := gateDetails s.wind w
  let s := { s with wind := w }
  if detail = 0 then s else s.raiseWind detail

/-- The lockout timer expires (R129). -/
def State.endLockout (s : State) : State :=
  let s := { s with wind := { s.wind with lockout := none } }
  s.raiseWind 0x04#8

end Sys2Proof.Machine
end

