-- ==== Sys2Proof/Machine/Admission.lean ====
section
/-! DEFINITION. Admission (section 1.2): the eleven steps of a SUBMIT, what admission does, RESUME's return
to the queue, the internal LEVEL of a relevel (R53) and the safety stow (R22, R131). -/

namespace Sys2Proof.Machine

/-! ### Step 2: the fields (R9, R12) -/

/-- The eleven payload bytes of a SUBMIT (R174). -/
structure Submit where
  tag : Byte
  kind : Byte
  group : Byte
  hasSub : Byte
  sub : Byte
  hasDir : Byte
  dir : Byte
  hasValue : Byte
  value : Nat
  flags : Byte
deriving DecidableEq, Repr

/-- The payload read as a SUBMIT; `none` where its length is not 11. -/
def Submit.read : List Byte → Option Submit
  | [t, k, g, ps, sb, pd, d, pv, v0, v1, f] =>
    some { tag := t, kind := k, group := g, hasSub := ps, sub := sb, hasDir := pd, dir := d, hasValue := pv
           value := num16 v0 v1, flags := f }
  | _ => none

/-- The kind belongs to the group (R9). -/
def OpKind.fits (k : OpKind) : Group → Bool
  | .jacks =>
    match k with
    | .level | .ground | .jacksStow | .jackJog => true
    | _ => false
  | .room _ =>
    match k with
    | .roomOut | .roomIn | .roomJog => true
    | _ => false
  | .awning =>
    match k with
    | .awningSet | .awningJog | .awningStow => true
    | _ => false

/-- A field with its presence byte: absent, present, or a byte outside its set (R173). -/
def presentField {α : Type} (p : Byte) (v : Option α) : Except Refuse (Option α) :=
  match two? p, v with
  | none, _ => .error .badRange
  | some false, _ => .ok none
  | some true, none => .error .badRange
  | some true, some x => .ok (some x)

/-- A field its kind needs: absent is refused BAD_KIND (R9). -/
def neededField {α : Type} (p : Byte) (v : Option α) : Except Refuse (Option α) :=
  match presentField p v with
  | .ok none => .error .badKind
  | r => r

/-- A jack by its code (R173). -/
def jackOfCode (b : Byte) : Option Jack := finFrom1? 6 b.toNat

/-- A direction by its code (R173). -/
def dirOfCode (b : Byte) : Option Dir := (two? b).map (fun x => if x then .inward else .outward)

/-- The sub field of a kind: needed by JACK_JOG, dropped by the others (R2, R9). -/
def Submit.subField (q : Submit) : OpKind → Except Refuse (Option Jack)
  | .jackJog => neededField q.hasSub (jackOfCode q.sub)
  | _ => .ok none

/-- The direction field of a kind: needed by the JOG kinds. -/
def Submit.dirField (q : Submit) : OpKind → Except Refuse (Option Dir)
  | .jackJog | .roomJog | .awningJog => neededField q.hasDir (dirOfCode q.dir)
  | _ => .ok none

/-- The value field of a kind with R12's clamp: needed by ROOM_JOG, AWNING_JOG and AWNING_SET, given or
not for LEVEL; a JACK_JOG without one takes the shortest time (log entry 14). -/
def Submit.valueField (q : Submit) : OpKind → Except Refuse (Option Nat)
  | .level => (presentField q.hasValue (some q.value)).map (fun o => o.map (fun v => max 5 (min 100 v)))
  | .jackJog => (presentField q.hasValue (some q.value)).map (fun o => some (max 50 (min 5000 (o.getD 0))))
  | .roomJog | .awningJog => (neededField q.hasValue (some q.value)).map (fun o => o.map (fun v => max 50 (min 3000 v)))
  | .awningSet => (neededField q.hasValue (some q.value)).map (fun o => o.map (min 1000))
  | _ => .ok none

/-- The origin of a link (R2). -/
def linkOrigin : Link → Origin
  | .coach => .link
  | .service => .service

/-- The configured test of step 2 (R9): the group, and the jack of a JACK_JOG. -/
def State.groupOk (s : State) (g : Group) (sub : Option Jack) : Bool :=
  s.items.configured g &&
    match sub with
    | some j => s.items.jacks.contains j
    | none => true

/-- Step 2 (R9, R12): the job a SUBMIT asks for, its values clamped. -/
def State.readJob (s : State) (l : Link) (q : Submit) : Except Refuse Job :=
  match OpKind.submitted q.kind with
  | none => .error .badKind
  | some k =>
    match Group.ofCode q.group with
    | none => .error .badGroup
    | some g =>
      if !k.fits g then .error .badKind
      else
        match q.subField k, q.dirField k, q.valueField k with
        | .error r, _, _ => .error r
        | _, .error r, _ => .error r
        | _, _, .error r => .error r
        | .ok sub, .ok dir, .ok value =>
          if !s.groupOk g sub then .error .badGroup
          else if q.tag.toNat = 0 ∨ 240 ≤ q.tag.toNat then .error .badRange
          else
            .ok { kind := k, group := g, sub := sub, dir := dir, value := value, origin := linkOrigin l
                  bestEffort := k == .level && q.flags.getLsbD 0
                  override := l == .service && q.flags.getLsbD 1 }

/-! ### The other steps (R8, R10, R11) -/

/-- A refusal where a condition holds. -/
def refuseIf (b : Bool) (r : Refuse) : Option Refuse := if b then some r else none

/-- The first refusal of a list of tests. -/
def firstRefusal (l : List (Option Refuse)) : Option Refuse := l.findSome? (fun x => x)

/-- Step 1. -/
def State.step1 (s : State) : Option Refuse := refuseIf s.inm.notReady .notReady

/-- Step 3 (R139, R197). -/
def State.step3 (s : State) : Option Refuse :=
  refuseIf (s.ist.source == .defaulted || !s.unassigned.isEmpty) .notConfigured

/-- Step 4 (R185), on behalf of a requester. -/
def State.step4 (s : State) (who : Origin) (g : Group) : Option Refuse :=
  match who with
  | .service => refuseIf (!s.claimed g) .notOwner
  | _ => refuseIf (s.claimed g) .notOwner

/-- Step 5 (R10). -/
def State.step5 (s : State) (tag : Nat) : Option Refuse := refuseIf (s.slotOfTag tag).isSome .dupTag

/-- Step 6 (R10). -/
def State.step6 (s : State) (g : Group) : Option Refuse := refuseIf (s.busySlot g).isSome .groupBusy

/-- The non-ended NORMAL records (R10). -/
def State.normalCount (s : State) : Nat :=
  (s.slotsWhere (fun o => o.opClass == .normal && !o.state.isEnded)).length

/-- Step 7 (R10). -/
def State.step7 (s : State) (j : Job) : Option Refuse :=
  refuseIf (j.kind.opClass == .normal && decide (3 ≤ s.normalCount)) .noSlot

/-- Step 8 (R11, R24): the coach condition record. -/
def State.step8 (s : State) (j : Job) : Option Refuse :=
  refuseIf (s.inm.coach.eStop == .stop
    || (s.inm.coach.brake == .released && s.deploying j)
    || (s.inm.coach.ignition && j.kind == .roomOut && !s.items.room.withIgnition)) .interlock

/-- JACK_SENSOR is present for a configured jack. -/
def State.anyJackSensor (s : State) : Bool := s.items.jacks.any (fun j => (s.jack j).sensorFault)

/-- The SLIDES_OUT test of LEVEL and GROUND (R65, R81). -/
def State.slidesBar (s : State) (j : Job) : Bool := s.someRoomOut && !s.jacksDown && !j.exempt

/-- The JACKS_UP test (R94). -/
def State.jacksUpBar (s : State) : Bool :=
  s.items.room.needGround && s.items.configured .jacks && !s.jacksDown

/-- The reported attitude lies outside max_solve_tilt (R65). -/
def State.steep (s : State) : Bool := s.reported.any (fun t => !t.within s.items.jack.maxSolveTilt)

/-- An awning job runs outward at admission step 9 (R120): an AWNING_SET whose target count lies above
the present count, an outward jog. DESIGN CHOICE (log entry 67): an AWNING_SET whose target count lies above the count counts
as outward here also where it needs no motion, for which R121 fixes no direction. -/
def State.awningOutward (s : State) (j : Job) : Bool :=
  match j.kind with
  | .awningSet => s.setDirNow j == .outward
  | .awningJog => j.dir == some Dir.outward
  | _ => false

/-- Step 9 (R65, R81, R82, R84, R94, R120). -/
def State.step9 (s : State) (j : Job) : Option Refuse :=
  match j.kind, j.group with
  | .level, _ =>
    firstRefusal
      [refuseIf (!s.attitudeValid) .attitude, refuseIf s.anyJackSensor .jackSensor,
       refuseIf (s.slidesBar j) .slidesOut, refuseIf s.steep .tooSteep]
  | .ground, _ => firstRefusal [refuseIf s.anyJackSensor .jackSensor, refuseIf (s.slidesBar j) .slidesOut]
  | .jacksStow, _ => refuseIf (s.someRoomOut && !j.exempt) .slidesOut
  | .jackJog, _ =>
    match j.dir with
    | some .outward => refuseIf (j.sub.any (fun k => (s.jack k).sensorFault)) .jackSensor
    | _ => refuseIf (s.someRoomOut && !j.exempt) .slidesOut
  | .roomOut, .room n =>
    firstRefusal [refuseIf (s.roomCondition n == .unknown) .unreferenced, refuseIf s.jacksUpBar .jacksUp]
  | .roomJog, .room n =>
    match j.roomDir with
    | .outward =>
      firstRefusal
        [refuseIf (s.roomCondition n == .unknown && !j.exempt) .unreferenced, refuseIf s.jacksUpBar .jacksUp]
    | .inward => none
  | .awningSet, _ =>
    firstRefusal
      [refuseIf (decide (0 < j.value.getD 0) && s.awningCondition == .unknown) .unreferenced,
       refuseIf (s.awningOutward j && s.windBars) .windLockout]
  | .awningJog, _ =>
    firstRefusal
      [refuseIf (s.awningOutward j && s.awningCondition == .unknown && !j.exempt) .unreferenced,
       refuseIf (s.awningOutward j && s.windBars) .windLockout]
  | _, _ => none

/-- Step 10 (R159). -/
def State.step10 (s : State) (j : Job) : Option Refuse := refuseIf (s.targetBarred j) .clearance

/-- The reservation of a job (R26). -/
def Items.reservation (t : Items) (j : Job) : Nat :=
  match j.kind, j.group with
  | .level, _ | .ground, _ => t.supply.sharePump
  | .jackJog, _ => if j.dir == some Dir.outward then t.supply.sharePump else 0
  | .jacksStow, _ => 0
  | .roomOut, .room n | .roomIn, .room n | .roomJog, .room n => t.supply.shareRoomMotor * t.room.motors.get n
  | .awningSet, _ | .awningJog, _ | .awningStow, _ => t.supply.shareAwning
  | _, _ => 0

/-- Step 11 (R11, R28). -/
def State.step11 (s : State) (j : Job) : Option Refuse :=
  refuseIf (decide (s.items.normalBudget < s.items.reservation j)) .budget

/-- Steps 3 to 11 for a job under a tag (R8); the internal LEVEL passes step 5 by its choice of tag. -/
def State.admissionRefusal (s : State) (who : Origin) (tag : Option Nat) (j : Job) : Option Refuse :=
  firstRefusal
    [s.step3, s.step4 who j.group, tag.bind s.step5, s.step6 j.group, s.step7 j, s.step8 j, s.step9 j, s.step10 j,
     s.step11 j]

/-- Steps 4, 8, 9 and 10 of a RESUME (R21). -/
def State.resumeRefusal (s : State) (who : Origin) (j : Job) : Option Refuse :=
  firstRefusal [s.step4 who j.group, s.step8 j, s.step9 j, s.step10 j]

/-! ### Admission (R6, R13, R14) -/

/-- The slot an admission takes (R6): the lowest free one, else that of the oldest ENDED record. -/
def State.placeSlot (s : State) : Option Slot :=
  match slots.find? (fun sl => (s.opAt sl).isNone) with
  | some sl => some sl
  | none => s.opt.endedList.head?.bind s.slotOfTag

/-- A job needs no motion (R14). -/
def State.idleJob (s : State) (j : Job) : Bool :=
  match j.group with
  | .jacks => s.jacksIdleJob j
  | .room n => s.roomIdleJob n j
  | .awning => s.awningIdleJob j

/-- The remaining field of an operation that needed no motion (R14). -/
def State.idleRemaining (s : State) (o : Op) : Option Remaining :=
  match o.job.group with
  | .jacks => s.remainingOf o
  | _ => some (.permille 0)

/-- The record of an admission (R13). -/
def State.newRecord (s : State) (tag : Nat) (j : Job) : Op :=
  { tag := tag, job := j, state := .admitted .queue, pass := 0, admission := s.opt.admissions + 1
    reservation := s.items.reservation j, resumed := false }

/-- The record is placed, the reclaimed one gone, and the admission counter advanced (R5, R6, R13). -/
def State.placeRecord (s : State) (sl : Slot) (o : Op) : State :=
  let t := s.clearSlot sl
  { t with opt := { t.opt with admissions := o.admission } }.setOp sl o

/-- Admission of a job (R13, R14): placed, then ended COMPLETE at once where no motion is needed, else
joined to the waiting queue. -/
def State.admitJob (s : State) (tag : Nat) (j : Job) : State :=
  match s.placeSlot with
  | none => s
  | some sl =>
    let o := s.newRecord tag j
    let t := (s.placeRecord sl o).fixAwning j
    if s.idleJob j then t.writeEnd sl .complete (t.idleRemaining o)
    else
      let t := if j.kind == .level then { t with lvc := { t.lvc with groundDone := false } } else t
      t.enqueue sl j.kind.opClass

/-- A held operation that passed its checks returns to the queue (R21). -/
def State.readmit (s : State) (sl : Slot) (o : Op) : State :=
  let n := s.opt.admissions + 1
  let s := { s with opt := { s.opt with admissions := n } }
  let s := s.setOp sl { o with state := .admitted .queue, admission := n, resumed := true }
  s.enqueue sl o.opClass

/-! ### Internal operations (R4, R22, R53, R131) -/

/-- The tag after an internal tag (R4). -/
def nextTag (t : Nat) : Nat := if 255 ≤ t then 240 else t + 1

/-- The first tag not in use from the counter on (R4). -/
def State.freeTag (s : State) : Nat → Nat → Nat
  | 0, t => t
  | n + 1, t => if (s.slotOfTag t).isSome then s.freeTag n (nextTag t) else t

/-- The internal tag an admission gives. -/
def State.internalTag (s : State) : Nat := s.freeTag 16 s.opt.internalTag

/-- An internal operation is admitted under its tag, and the counter moves past it (R4). DESIGN CHOICE (log entry 41):
the tag is chosen before the admission reclaims a record (R6), whose tag therefore counts as in use. -/
def State.admitInternal (s : State) (j : Job) : State :=
  let tag := s.internalTag
  let t := s.admitJob tag j
  { t with opt := { t.opt with internalTag := nextTag tag } }

/-- The LEVEL of a relevel (R53). -/
def relevelJob : Job :=
  { kind := .level, group := .jacks, sub := none, dir := none, value := none, origin := .internal
    bestEffort := false, override := false }

/-- What an internal submission is refused with (R53): every step, step 2 of it being the group's
configuration. -/
def State.relevelRefusal (s : State) : Option Refuse :=
  firstRefusal
    [s.step1, refuseIf (!s.groupOk .jacks none) .badGroup, s.admissionRefusal .internal none relevelJob]

/-- The relevel step of a drift expiry (R53). -/
def State.relevel (s : State) : State :=
  if !s.items.att.autoRelevel then s
  else if s.someRoomOut then s.raiseAttitude 0x04#8
  else
    match s.relevelRefusal with
    | some _ => s.raiseAttitude 0x04#8
    | none => s.admitInternal relevelJob

/-- The AWNING_STOW of R22. -/
def stowJob : Job :=
  { kind := .awningStow, group := .awning, sub := none, dir := none, value := none, origin := .internal
    bestEffort := false, override := false }

/-- Some AWNING_STOW is non-ended. -/
def State.stowRunning (s : State) : Bool :=
  (s.findSlot (fun o => o.job.kind == .awningStow && !o.state.isEnded)).isSome

/-- The conditions of a stow's creation (R131). -/
def State.stowDue (s : State) : Bool :=
  s.items.awn.present && s.step3.isNone && !(s.awningCondition == .inside) && !s.stowRunning
    && s.coachNow.eStop == .normal

/-- The non-ended NORMAL awning operation is superseded (R22). -/
def State.supersede (s : State) : State :=
  match s.busySlot .awning with
  | some sl => s.endNow sl (.cancelled .superseded)
  | none => s

/-- A stow is created where its conditions hold (R22, R131). -/
def State.createStow (s : State) : State :=
  if s.stowDue then s.supersede.admitInternal stowJob else s

/-- A trigger gate acts on an outward awning operation that no stow superseded (R130). -/
def State.barOutward (s : State) : State :=
  match s.activeOp .awning with
  | some (sl, o) => if s.awningDir o == .outward then s.endNow sl (.cancelled .interlock) else s
  | none => s

/-- A trigger gate (R130, R131). -/
def State.triggerGate (s : State) : State := s.createStow.barOutward

end Sys2Proof.Machine
end

