-- ==== Sys2Proof/Machine/Inputs.lean ====
section
/-! DEFINITION. The Input Monitor awake (sections 7.1 to 7.3): samples, debounce and fault timers, first
debounces, the hand-over of a debounced change, and the end of start-up. -/

namespace Sys2Proof.Machine

/-! ### One input at one sample -/

/-- The fault timer at a reading (R137): it runs while the reading disagrees with the flag. -/
def InputUnit.sampleFault (now debounce : Nat) (r : Reading) (u : InputUnit) : InputUnit :=
  if (r == .short) == u.fault then { u with faultTimer := none }
  else
    match u.faultTimer with
    | some _ => u
    | none => { u with faultTimer := some (now + debounce) }

/-- The first debounce at a reading (R136). -/
def InputUnit.sampleFirst (now debounce : Nat) (c : Contact) (u : InputUnit) : InputUnit :=
  match u.debounce with
  | some _ =>
    if u.firstReading = some c then u else { u with debounce := some (now + debounce), firstReading := some c }
  | none => { u with debounce := some (now + debounce), firstReading := some c }

/-- The debounce timer at a reading (R135). -/
def InputUnit.sampleDebounced (now debounce : Nat) (c : Contact) (u : InputUnit) : InputUnit :=
  if u.debounced = some c then { u with debounce := none }
  else
    match u.debounce with
    | some _ => u
    | none => { u with debounce := some (now + debounce) }

/-- One reading of an input in use (R135 to R137). While the fault flag is set the debounce timer is
stopped; a short reading leaves it as it is. -/
def InputUnit.sample (now debounce : Nat) (r : Reading) (u : InputUnit) : InputUnit :=
  let u := u.sampleFault now debounce r
  if u.fault then u
  else
    match r.contact with
    | none => u
    | some c => if u.firstDone then u.sampleDebounced now debounce c else u.sampleFirst now debounce c

/-! ### Interlock events -/

/-- The park-brake release (R23, R143): the cancels first, then the stow. -/
def State.brakeReleased (s : State) : State :=
  (s.cancelAll (fun s o => o.opClass == .normal && s.deployingOp o) (.cancelled .interlock)).createStow

/-- The E-stop event (R24, R144). -/
def State.eStopped (s : State) : State := s.endAll (fun _ => true) (.cancelled .eStop)

/-! ### Handing a state on (R136, R141) -/

/-- The hand-over of a debounced change by function (R141). A ROOM_IN or JACK_UP whose room or jack is not configured
reaches no controller (R138); AWNING_IN references the awning whether it is present or not (R118). -/
def State.handChange (s : State) (f : Func) (c : Contact) : State :=
  match f, c with
  | .parkBrake, .opened => s.brakeReleased
  | .eStop, .opened => s.eStopped
  | .roomIn n, .closed => if s.items.configured (.room n) then s.roomHome n true else s
  | .jackUp j, .closed => if s.items.jacks.contains j then s.jackStowed j else s
  | .awningIn, .closed => s.awningHome true
  | _, _ => s

/-- The hand-over of a first debounce, and of a change of configuration (R136, R140); an unconfigured room is left
without a reference as by a debounced change (R92, log entry 23). -/
def State.handFirst (s : State) (f : Func) : State :=
  match f with
  | .roomIn n => if s.items.configured (.room n) && s.shut f then s.roomHome n false else s
  | .awningIn => if s.shut f then s.awningHome false else s
  | _ => s

/-- An input's debounced state becomes a new one (R135, R141, R146): notice, then the hand-over. -/
def State.debouncedChange (s : State) (i : Input) (c : Contact) : State :=
  let s := s.modInput i (fun u => { u with debounced := some c, debounce := none })
  let s := if s.items.inp.notice.get i then s.raiseInput i else s
  s.handChange (s.funcOf i) c

/-! ### Start-up (R136, R198) -/

/-- The inputs that are sampled (R134). -/
def State.usedInputs (s : State) : List Input := inputNumbers.filter (fun i => !(s.funcOf i == .none))

/-- NOT_READY ends once every sampled input has completed its first debounce. -/
def State.endStartUp (s : State) : State :=
  if s.inm.notReady && s.usedInputs.all (fun i => (s.input i).firstDone)
  then { s with inm := { s.inm with notReady := false } } else s

/-! ### The events of an input -/

/-- One 2 ms sample of the switch inputs (R134 to R137): every pin's level, and the timers of each input
in use. DESIGN CHOICE (log entry 63): with no input in use it is the first sample that ends start-up. -/
def State.sampleInputs (s : State) (levels : Bank Level 24) : State :=
  if s.inm.parked then s
  else
    let s := inputNumbers.foldl (fun s i => s.modInput i (fun u => { u with level := levels.get i })) s
    let s := s.usedInputs.foldl (fun s i =>
      s.modInput i (fun u => u.sample s.now s.items.inp.debounce (s.reading i))) s
    s.endStartUp

/-- The debounce timer of an input expires (R135). -/
def State.debounceExpired (s : State) (i : Input) : State :=
  let u := s.input i
  if u.debounce.isSome && u.firstDone && !s.inm.parked then s.debouncedChange i ((u.debounced.getD .opened).flip) else s

/-- The first debounce timer of an input expires (R136): the first debounce completes, unless the input reads
short; then the timer is stopped and the next reading that is not short starts it afresh (log entry 39). -/
def State.firstDebounceExpired (s : State) (i : Input) : State :=
  let u := s.input i
  if u.debounce.isSome && !u.firstDone then
    if s.reading i == .short then s.modInput i (fun u => { u with debounce := none })
    else
    let s := s.modInput i (fun u => { u with debounced := u.firstReading, firstDone := true, debounce := none })
    (s.handFirst (s.funcOf i)).endStartUp
  else s

/-- The fault timer of an input expires (R137): the flag turns over. An input set faulty before its first
debounce takes open as its held value. -/
def State.faultExpired (s : State) (i : Input) : State :=
  let u := s.input i
  if u.faultTimer.isSome then
    let s := s.modInput i (fun u =>
      if u.fault then { u with fault := false, faultTimer := none }
      else { u with fault := true, faultTimer := none, debounce := none, firstDone := true
                    debounced := some (u.debounced.getD .opened) })
    s.endStartUp
  else s

/-- A change of input_function or input_invert (R140), the item having been written already. DESIGN CHOICE (log entry 59): an
input whose fault flag is set takes the present reading too, and keeps its flag. -/
def State.inputReassigned (s : State) (i : Input) : State :=
  if s.funcOf i = .none then
    (s.modInput i (fun u => { InputUnit.reset with level := u.level })).endStartUp
  else
    let r := s.reading i
    let s := s.modInput i (fun u =>
      { u.sampleFault s.now s.items.inp.debounce r with
          debounced := some (r.contact.getD .opened), firstDone := true, debounce := none })
    (s.handFirst (s.funcOf i)).endStartUp

end Sys2Proof.Machine
end

