-- ==== Sys2Proof/Machine/Parking.lean ====
section
/-! DEFINITION. Parking (sections 7.4 and 7.5): the entry to parked, the polls, and the wake. -/

namespace Sys2Proof.Machine

/-! ### Entry (R149) -/

/-- An input at the entry to parked: timers stopped, polled values cleared, state and flag kept. -/
def InputUnit.park (u : InputUnit) : InputUnit :=
  { u with debounce := none, faultTimer := none, lastPoll := none, pending := none }

/-- A motor at the entry to parked: its coast window closes (R114, R126). -/
def Motor.park (m : Motor) : Motor := { m with coast := none }

/-- The entry to parked, in one event (R54, R87, R114, R149, R179). -/
def State.enterParked (s : State) : State :=
  { s with
    inm := { s.inm with parked := true, idle := false, idleTimer := none, inputs := s.inm.inputs.map InputUnit.park
                        pollTimer := some (s.now + s.items.inp.pollTime), pollCount := 0 }
    atu := s.atu.clear
    lvc := { s.lvc with jacks := s.lvc.jacks.map (fun j => { j with contactTimer := none }) }
    sdc := s.sdc.map (fun r => { r with a := r.a.park, b := r.b.park })
    awu := { s.awu with motor := s.awu.motor.park }
    liu := { s.liu with watchdog := none, watchdogNoted := s.liu.watchdog.isSome, parkWait := false } }

/-! ### Polls (R150, R151) -/

/-- The poll counter after a poll: 1 to 4 and back to 1 (R150). -/
def nextPoll (n : Nat) : Nat := if 4 ≤ n then 1 else n + 1

/-- The inputs read at a poll with this counter (R150). -/
def State.polledInputs (s : State) (counter : Nat) : List Input :=
  s.usedInputs.filter (fun i => counter == 4 || !s.items.inp.slow.get i)

/-- One read of an input at a poll (R150, R151): a short read counts as equal to the debounced state. -/
def InputUnit.poll (r : Reading) (u : InputUnit) : InputUnit :=
  let held := u.debounced.getD .opened
  let c := r.contact.getD held
  if c = held then { u with lastPoll := some c, pending := none }
  else if u.lastPoll = some c then { u with lastPoll := some c, pending := some c }
  else { u with lastPoll := some c }

/-- An input whose polled change at this poll wakes the part (R151). -/
def State.polledWake (before s : State) (i : Input) : Bool :=
  s.items.inp.wake.get i && (s.input i).pending.isSome
    && (before.input i).lastPoll == (s.input i).lastPoll

/-! ### Wake (R153) -/

/-- The pending polled value of an input is applied as a debounced change; an input that is set faulty
holds its value (R137, log entry 26). -/
def State.applyPolled (s : State) (i : Input) : State :=
  match (s.input i).pending with
  | some c => if (s.input i).fault then s else s.debouncedChange i c
  | none => s

/-- A reading seen at one poll only starts the debounce timer as a sample would (R153). -/
def InputUnit.unconfirmed (now debounce : Nat) (u : InputUnit) : InputUnit :=
  match u.pending, u.lastPoll with
  | none, some c => if u.fault || u.debounced == some c then u else { u with debounce := some (now + debounce) }
  | _, _ => u

/-- A wake (R153, R179). DESIGN CHOICE (log entry 51): several pending polled changes act in ascending input number, each
handed on before the next. -/
def State.wake (s : State) (cause : WakeCause) : State :=
  let s := { s with
    inm := { s.inm with parked := false, wakeCause := some cause, pollTimer := none }
    liu := { s.liu with watchdog := if s.liu.watchdogNoted && s.items.linkWatchdog != 0
                                    then some (s.now + s.items.linkWatchdog * 1000) else s.liu.watchdog
                        watchdogNoted := false } }
  let s := s.raise .power
  let s := inputNumbers.foldl (fun s i =>
    s.modInput i (InputUnit.unconfirmed s.now s.items.inp.debounce)) s
  let s := inputNumbers.foldl State.applyPolled s
  inputNumbers.foldl (fun s i => s.modInput i (fun u => { u with lastPoll := none, pending := none })) s

/-- One poll (R150, R151): the inputs whose turn it is are read, and the first polled change of an input with wake_enable
wakes the part. DESIGN CHOICE (log entry 58): the first is the lowest-numbered. -/
def State.pollInputs (s : State) (levels : Bank Level 24) : State :=
  if s.inm.parked && s.inm.pollTimer.isSome then
    let counter := nextPoll s.inm.pollCount
    let s := { s with inm := { s.inm with pollCount := counter, pollTimer := some (s.now + s.items.inp.pollTime) } }
    let before := s
    let read := s.polledInputs counter
    let s := read.foldl (fun s i =>
      s.modInput i (fun u => { u with level := levels.get i }.poll
        (readLevel (s.items.inp.invert.get i) (levels.get i)))) s
    match read.find? (State.polledWake before s) with
    | some i => s.wake (.input i)
    | none => s
  else s

/-- The link's cause of a wake (R152). -/
def linkCause : Link → WakeCause
  | .coach => .link
  | .service => .service

/-- A frame starts on a link: a parked part wakes (R152). -/
def State.wakeOnFrame (s : State) (l : Link) : State :=
  if s.inm.parked then (s.wake (linkCause l)).settle else s

/-- A gate end (R127 to R131): a trigger gate wakes a parked part with cause WIND and then acts. -/
def State.endGate (s : State) : State :=
  let s := s.measureWind
  if s.wind.trigger then (if s.inm.parked then s.wake .wind else s).triggerGate else s

end Sys2Proof.Machine
end

