-- ==== Sys2Proof/Machine/Records.lean ====
section
/-! DEFINITION. The record layouts of the read requests (section 9.5). Where R177 leaves the bytes of a
record to R173's conventions, the layout taken is log entry 20. -/

namespace Sys2Proof.Machine

/-! ### Operations (R175) -/

/-- The reason code of a result, 0 for COMPLETE. -/
def Result.reasonCode (r : Result) : Nat := (r.reason.map Reason.code).getD 0

/-- A destination (R173, R175): result, then reason or hold reason; HELD is 4. -/
def Dest.write : Dest → List Byte
  | .ended r => out8 r.code ++ out8 r.reasonCode
  | .held h => out8 4 ++ out8 h.code

/-- The four remaining bytes (R175). -/
def Remaining.write : Remaining → List Byte
  | .permille n => padTo 4 (out16 n)
  | .attitude p r => outInt16 p ++ outInt16 r
  | .jacks l => padTo 4 [jackSet l]
  | .stroke n => padTo 4 (out16 n)

/-- The wait reason of a state. -/
def OpState.wait : OpState → Option WaitReason
  | .admitted w => some w
  | _ => none

/-- The hold reason of a state: in HELD, and in STOPPING bound for HELD (R2). -/
def OpState.hold : OpState → Option HoldReason
  | .held h => some h
  | .stopping (.held h) _ => some h
  | _ => none

/-- The destination of a state. -/
def OpState.dest : OpState → Option Dest
  | .stopping d _ => some d
  | _ => none

/-- The result of a state. -/
def OpState.result : OpState → Option Result
  | .ended r _ _ => some r
  | _ => none

/-- The remaining field of a state. -/
def OpState.remaining : OpState → Option Remaining
  | .ended _ r _ => r
  | _ => none

/-- The end number of a state. -/
def OpState.endNumber : OpState → Option Word
  | .ended _ _ n => some n
  | _ => none

/-- The flags byte, as in SUBMIT. -/
def Job.flagsByte (j : Job) : Nat := (if j.bestEffort then 1 else 0) + (if j.override then 2 else 0)

/-- The operation record of READ_OP: 38 bytes (R175). -/
def Op.write (o : Op) : List Byte :=
  List.flatten
    [out8 o.tag, out8 o.job.kind.code, out8 o.job.group.code,
     outOpt 1 (o.job.sub.map (fun j => out8 (jackCode j))),
     outOpt 1 (o.job.dir.map (fun d => out8 d.code)),
     outOpt 2 (o.job.value.map out16),
     out8 o.job.origin.code, out8 o.opClass.code, out8 o.job.flagsByte, out8 o.state.code,
     outOpt 1 (o.state.wait.map (fun w => out8 w.code)),
     outOpt 1 (o.state.hold.map (fun h => out8 h.code)),
     outOpt 2 (o.state.dest.map Dest.write),
     outOpt 1 (o.state.phase.map (fun p => out8 p.code)),
     out8 (if o.job.kind == .level then o.pass else 0),
     out16 o.admission.toNat,
     outOpt 1 (o.state.result.map (fun r => out8 r.code)),
     outOpt 1 ((o.state.result.bind Result.reason).map (fun r => out8 r.code)),
     outOpt 4 (o.state.remaining.map Remaining.write),
     outOpt 2 (o.state.endNumber.map (fun n => out16 n.toNat))]

/-- One entry of LIST_OPS: ten bytes (R175). -/
def Op.listEntry (sl : Slot) (o : Op) : List Byte :=
  List.flatten
    [out8 (sl.val + 1), out8 o.tag, out8 o.job.kind.code, out8 o.job.group.code, out8 o.job.origin.code,
     out8 o.opClass.code, out8 o.state.code, out8 ((o.state.result.map Result.code).getD 0),
     out16 ((o.state.endNumber.map BitVec.toNat).getD 0)]

/-- The data of LIST_OPS (R175). -/
def State.listOps (s : State) : List Byte :=
  let occupied := slots.filterMap (fun sl => (s.opAt sl).map (fun o => o.listEntry sl))
  out8 occupied.length ++ occupied.flatten ++ out8 s.opt.endedList.length ++ padTo 4 (s.opt.endedList.flatMap out8)

/-! ### STATUS, changes and faults (R176) -/

/-- The coach condition record, one byte per field. -/
def Coach.write (c : Coach) : List Byte :=
  List.flatten
    [out8 (match c.brake with
      | .set => 0
      | .released => 1
      | .notAssigned => 2),
     outBool c.ignition,
     out8 (match c.door with
      | .closed => 0
      | .opened => 1
      | .notFitted => 2),
     out8 (match c.eStop with
      | .normal => 0
      | .stop => 1
      | .notAssigned => 2),
     outBool c.allStowed, outBool c.travelUnstowed]

/-- The condition byte of the jacks; FF where the group is not configured (R173). -/
def State.jacksByte (s : State) : Nat := if s.items.configured .jacks then s.jacksCondition.code else absentCode

/-- The condition byte of a room. -/
def State.roomByte (s : State) (n : Room) : Nat :=
  if s.items.configured (.room n) then (s.roomCondition n).code else absentCode

/-- The condition byte of the awning. -/
def State.awningByte (s : State) : Nat := if s.items.awn.present then s.awningCondition.code else absentCode

/-- The awning position as the links see it. -/
def State.awningShown (s : State) : Option Nat := if s.items.awn.present then s.awningPosition else none

/-- The STATUS record: 26 bytes (R176). -/
def State.statusRecord (s : State) : List Byte :=
  List.flatten
    [outBool s.inm.parked,
     outOpt 2 (s.inm.wakeCause.map (fun c => out8 c.code ++ out8 c.inputNumber)),
     out8 s.sta.supply.code, out16 (s.sta.filtered.getD 0), out16 s.sta.resSum, out16 s.sta.normalSum,
     s.inm.coach.write,
     out8 s.jacksByte, roomNumbers.flatMap (fun n => out8 (s.roomByte n)), out8 s.awningByte,
     outOpt 2 (s.awningShown.map out16)]

/-- The change set of READ_CHANGES: 17 bytes (R176). -/
def ChangeSet.write (c : ChangeSet) : List Byte :=
  List.flatten
    [[c.cats], out8 c.tags.length, outBool c.truncated, padTo 8 (c.tags.flatMap out8), out24 c.inputs,
     [c.entries], [c.attitude], [c.wind]]

/-- The fault record of READ_FAULTS: 13 bytes (R176). -/
def FaultRecord.write (f : FaultRecord) : List Byte :=
  List.flatten
    [out16 f.latched.toNat, out16 f.present.toNat, [f.since.links], out24 f.since.inputs, [f.since.jacks],
     [f.since.stray], out16 f.since.channels.toNat, out8 f.cause.code]

/-! ### Attitude and wind (R55, R133, R177) -/

/-- An optional signed angle. -/
def outAngle (x : Option Int) : List Byte := outOpt 2 (x.map outInt16)

/-- The state of the drift monitor, in the order R55 lists it. -/
def State.driftCode (s : State) : Nat := if s.watching then (if s.atu.drift.isSome then 2 else 1) else 0

/-- The data of READ_ATTITUDE (R55). -/
def State.attitudeRecord (s : State) : List Byte :=
  List.flatten
    [outBool s.attitudeValid,
     outAngle (s.atu.filtered.map Tilt.pitch), outAngle (s.atu.filtered.map Tilt.roll),
     outAngle (s.reported.map Tilt.pitch), outAngle (s.reported.map Tilt.roll),
     outInt16 s.items.att.refPitch, outInt16 s.items.att.refRoll, out16 s.items.att.rotation,
     out8 s.atu.validRun, out8 s.atu.invalidRun,
     out8 s.driftCode, outOpt 2 (s.atu.drift.map (fun e => out16 (s.secondsLeft e))),
     outBool s.atu.sensorFault]

/-- The data of READ_WIND (R133). -/
def State.windRecord (s : State) : List Byte :=
  List.flatten
    [out16 s.wind.lastCount, out32 s.wind.lastSpeed, out8 s.wind.window.length,
     padTo 40 (s.wind.window.flatMap out32), outOpt 4 ((averageSpeed s.wind.window).map out32),
     outBool s.wind.trigger, outBool s.wind.lockout.isSome,
     outOpt 2 (s.wind.lockout.map (fun e => out16 (s.secondsLeft e)))]

/-! ### Inputs (R154, R177) -/

/-- The latest reading as READ_INPUTS shows it: absent while parked or for an input of function NONE. -/
def State.shownReading (s : State) (i : Input) : Nat :=
  if s.inm.parked || s.funcOf i == .none then absentCode else (s.reading i).code

/-- A contact or its absence. -/
def contactCode (c : Option Contact) : Nat := (c.map Contact.code).getD absentCode

/-- The six bytes of an input (R177). -/
def State.inputRecord (s : State) (i : Input) : List Byte :=
  let u := s.input i
  let t := s.items.inp
  let flags := [t.invert.get i, u.firstDone, u.fault, u.debounce.isSome, t.notice.get i, t.wake.get i, t.slow.get i]
  List.flatten
    [out8 (s.funcOf i).code, out8 (s.funcOf i).arg, out8 (s.shownReading i), out8 (contactCode u.debounced),
     out8 (contactCode u.pending), [bitsOf 8 flags]]

/-- The inputs of a block of READ_INPUTS. -/
def inputBlock (b : Nat) : List Input := inputNumbers.filter (fun i => i.val / 8 == b)

/-- Block 3 of READ_INPUTS: the coach condition record, the unassigned functions, the idle state. -/
def State.coachBlock (s : State) : List Byte :=
  List.flatten
    [s.inm.coach.write, out8 s.unassigned.length, s.unassigned.flatMap (fun f => out8 f.code ++ out8 f.arg),
     outBool s.inm.idle, outOpt 2 (s.inm.idleTimer.map (fun e => out16 (s.secondsLeft e)))]

/-- A block of READ_INPUTS (R177). -/
def State.inputsRecord (s : State) (b : Nat) : List Byte :=
  if b = 3 then s.coachBlock else (inputBlock b).flatMap s.inputRecord

/-! ### Motion (R63, R115, R133, R166, R177) -/

/-- One jack of section 0: nine bytes, zeros for a jack that is not configured. The JACK_UP input is coded closed 0,
open 1 (R61, R173); a valve open 1, closed 0 (DESIGN CHOICE, log entry 20). -/
def State.jackRecord (s : State) (j : Jack) : List Byte :=
  if s.items.jacks.contains j then
    let u := s.jack j
    List.flatten
      [out8 1, out16 u.stroke, out8 u.pressure, outBool u.contact, out8 (s.reads (.jackUp j)).code,
       outBool u.sensorFault, outBool u.extending, outBool u.retracting]
  else List.replicate 9 0

/-- Section 0 of READ_MOTION: 58 bytes (R177). -/
def State.jacksSection (s : State) : List Byte :=
  jackPositions.flatMap s.jackRecord ++ out16 s.lvc.pump ++ out16 s.lvc.extension

/-- The state of a motor, in the order R115 lists it: driven 0, coasting 1, idle 2. -/
def Motor.stateCode (m : Motor) : Nat := if m.driven then 0 else if m.coast.isSome then 1 else 2

/-- One motor of a room section; `none` where the room has no such motor. -/
def State.motorRecord (s : State) (n : Room) (id : MotorId) : List Byte :=
  let m := (s.roomUnit n).motor id
  outOpt 12 (if (s.items.motors n).contains id then
    some (List.flatten
      [out16 m.count, out16 (s.motorPosition (.room n id)), out8 (dirCode m.dir), out8 m.stateCode, out16 m.applied,
       out8 m.amps, out8 m.run, out16 m.tally])
  else none)

/-- The difference, signed by the operation's direction, and the trim of a two-motor room while both motors
are driven (R106, R115). DESIGN CHOICE (log entry 20): the trim is worked out from the counts at the read, in BREAKAWAY
as well. -/
def State.syncFields (s : State) (n : Room) : List Byte :=
  let r := s.roomUnit n
  let both := s.items.room.motors.get n == 2 && r.a.driven && r.b.driven
  let d : Int := match r.a.dir.getD .inward with
    | .outward => (r.a.count : Int) - r.b.count
    | .inward => (r.b.count : Int) - r.a.count
  outOpt 4 (if both then some (outInt32 d) else none)
    ++ outOpt 2 (if both then some (out16 (min s.items.room.syncTrimMax (d.natAbs * s.items.room.syncGain))) else none)

/-- The duties and the phase of a group's RUNNING or STOPPING operation (R115, R133). -/
def State.drivePhase (s : State) (g : Group) (demanded ramped : Nat) : List Byte :=
  let o := s.activeOp g
  List.flatten
    [outOpt 2 (o.map (fun _ => out16 demanded)), outOpt 2 (o.map (fun _ => out16 ramped)),
     outOpt 1 (o.bind (fun p => p.2.state.phase.map (fun f => out8 f.code)))]

/-- Sections 1 to 4 of READ_MOTION (R115). -/
def State.roomSection (s : State) (n : Room) : List Byte :=
  let r := s.roomUnit n
  List.flatten
    [outBool r.referenced, out8 (s.roomByte n), outOpt 2 ((s.roomPosition n).map out16), outBool r.stray,
     s.motorRecord n .a, s.motorRecord n .b, s.syncFields n, s.drivePhase (.room n) r.demanded r.ramped]

/-- Section 5 of READ_MOTION (R133). DESIGN CHOICE (log entry 20): the target count of an awning jog or a stow is present
with value 0. -/
def State.awningSection (s : State) : List Byte :=
  let a := s.awu
  let m := a.motor
  List.flatten
    [outBool a.referenced, out8 s.awningByte, outOpt 2 (s.awningPosition.map out16), outBool a.stray,
     out16 m.count, out8 (dirCode m.dir), out8 m.stateCode, out16 m.applied, out8 m.amps, out8 m.run, out16 m.tally,
     s.drivePhase .awning a.demanded a.ramped,
     outOpt 2 ((s.activeOp .awning).map (fun p => out16 (if p.2.job.kind == .awningSet then a.target else 0)))]

/-- One entry of section 6 (R166). -/
def State.entryRecord (s : State) (k : Entry) : List Byte :=
  let e := s.items.clearance.get k
  let u := s.clm.entries.get k
  List.flatten
    [outBool e.enabled, outBool u.active, outBool u.inside,
     outOpt 1 ((s.activeOp e.subject).map (fun _ => outBool (s.clm.ordered.get e.subject.idx)))]

/-- Section 6 of READ_MOTION (R166). -/
def State.clearanceSection (s : State) : List Byte := entryNumbers.flatMap s.entryRecord

/-- The six lifts of section 7, by jack position. -/
def liftFields (l : List (Jack × Nat)) : List Byte :=
  jackPositions.flatMap (fun j => out16 (((l.find? (fun p => p.1 == j)).map Prod.snd).getD 0))

/-- Section 7 of READ_MOTION: the latest solver result (R80, R177). DESIGN CHOICE (log entry 20): the six lifts have no count
before them. -/
def State.solverSection (s : State) : List Byte :=
  match s.lvc.solver with
  | none => List.replicate 20 0
  | some r =>
    let tail := outInt16 r.pitch ++ outInt16 r.roll ++ out8 r.pass
    match r.solution with
    | .lifts l limited => out8 1 ++ out8 0 ++ outBool limited ++ tail ++ liftFields l
    | .short jacks => out8 1 ++ out8 1 ++ outBool false ++ tail ++ padTo 12 [jackSet jacks]

/-- A section of READ_MOTION with the group it belongs to (R177): none for the clearance entries. -/
def sectionGroup (n : Nat) : Option Group :=
  match n with
  | 0 => some .jacks
  | 1 => some (.room 0)
  | 2 => some (.room 1)
  | 3 => some (.room 2)
  | 4 => some (.room 3)
  | 5 => some .awning
  | 7 => some .jacks
  | _ => none

/-- The data of a section of READ_MOTION (R177). -/
def State.motionSection (s : State) (n : Nat) : List Byte :=
  match n with
  | 0 => s.jacksSection
  | 1 => s.roomSection 0
  | 2 => s.roomSection 1
  | 3 => s.roomSection 2
  | 4 => s.roomSection 3
  | 5 => s.awningSection
  | 6 => s.clearanceSection
  | _ => s.solverSection

/-! ### Items (R178) -/

/-- The value of an item in its form. -/
def Items.valueBytes (t : Items) (k : ItemKey) : List Byte := t.itemBytes k

end Sys2Proof.Machine
end

