-- ==== Sys2Proof/Machine/Requests.lean ====
section
/-! DEFINITION. The requests (section 9.4): for each, its tests in their order, its effects, and the data of
its reply. A handler answers the state after the request's effects and the answer; the reply itself is
built by the Link Interface Unit (Machine/Links.lean). -/

namespace Sys2Proof.Machine

/-- The answer to a taken request (R170). -/
inductive Answer where
  | accepted (data : List Byte) (after : After)
  | refused (r : Refuse)
  /-- STORE_ITEMS in progress: the reply is built when the store ends (R169). -/
  | later
deriving DecidableEq, Repr

/-- ACCEPTED with no consequence of the reply's last byte. -/
def Answer.ok (data : List Byte) : Answer := .accepted data .nothing

/-- A request without a payload: BAD_LENGTH otherwise (R170). -/
def noPayload (p : List Byte) (s : State) (k : State × Answer) : State × Answer :=
  if p.isEmpty then k else (s, .refused .badLength)

/-- A request with a one-byte payload. -/
def oneByte (p : List Byte) (s : State) (k : Byte → State × Answer) : State × Answer :=
  match p with
  | [b] => k b
  | _ => (s, .refused .badLength)

/-! ### Identity and reads -/

/-- IDENT (R174). -/
def handleIdent (s : State) (_l : Link) (p : List Byte) : State × Answer :=
  noPayload p s
    (s, Answer.ok (List.flatten
      [out16 640, out8 (65 + Config.revisionLetter.val), out8 s.ntu.faults.cause.code, out8 s.ist.source.code]))

/-- STATUS (R176). -/
def handleStatus (s : State) (_l : Link) (p : List Byte) : State × Answer :=
  noPayload p s (s, Answer.ok s.statusRecord)

/-- READ_OP (R25). -/
def handleReadOp (s : State) (_l : Link) (p : List Byte) : State × Answer :=
  oneByte p s (fun tag =>
    match (s.slotOfTag tag.toNat).bind s.opAt with
    | some o => (s, Answer.ok o.write)
    | none => (s, .refused .noSuchTag))

/-- LIST_OPS (R25). -/
def handleListOps (s : State) (_l : Link) (p : List Byte) : State × Answer :=
  noPayload p s (s, Answer.ok s.listOps)

/-- An empty change set. -/
def ChangeSet.empty : ChangeSet :=
  { cats := 0, tags := [], truncated := false, inputs := 0, entries := 0, attitude := 0, wind := 0 }

/-- The state with one link's change set cleared (R189). -/
def State.clearChanges (s : State) : Link → State
  | .coach => { s with ntu := { s.ntu with coach := ChangeSet.empty } }
  | .service => { s with ntu := { s.ntu with service := ChangeSet.empty } }

/-- READ_CHANGES (R189). -/
def handleReadChanges (s : State) (l : Link) (p : List Byte) : State × Answer :=
  noPayload p s ((s.clearChanges l).pins, Answer.ok (s.changes l).write)

/-- The clearing a coach-link READ_FAULTS makes (R191). -/
def FaultRecord.clearAbsent (f : FaultRecord) : FaultRecord :=
  { f with latched := f.latched &&& f.present, since := f.now }

/-- READ_FAULTS (R187, R191). -/
def handleReadFaults (s : State) (l : Link) (p : List Byte) : State × Answer :=
  noPayload p s
    (match l with
    | .coach =>
      ({ s with ntu := { s.ntu with faults := s.ntu.faults.clearAbsent } }.pins, Answer.ok s.ntu.faults.write)
    | .service => (s, Answer.ok s.ntu.faults.write))

/-- READ_ATTITUDE (R55). -/
def handleReadAttitude (s : State) (_l : Link) (p : List Byte) : State × Answer :=
  noPayload p s (s, Answer.ok s.attitudeRecord)

/-- READ_INPUTS (R154). -/
def handleReadInputs (s : State) (_l : Link) (p : List Byte) : State × Answer :=
  oneByte p s (fun b => if 3 < b.toNat then (s, .refused .badRange) else (s, Answer.ok (s.inputsRecord b.toNat)))

/-- READ_MOTION (R177). -/
def handleReadMotion (s : State) (_l : Link) (p : List Byte) : State × Answer :=
  oneByte p s (fun b =>
    if 7 < b.toNat then (s, .refused .badRange)
    else if (sectionGroup b.toNat).any (fun g => !s.items.configured g) then (s, .refused .badGroup)
    else (s, Answer.ok (s.motionSection b.toNat)))

/-- READ_WIND (R133). -/
def handleReadWind (s : State) (_l : Link) (p : List Byte) : State × Answer :=
  noPayload p s (s, Answer.ok s.windRecord)

/-! ### Operations -/

/-- SUBMIT (R8): the eleven steps in their order. -/
def handleSubmit (s : State) (l : Link) (p : List Byte) : State × Answer :=
  match Submit.read p with
  | none => (s, .refused .badLength)
  | some q =>
    match s.step1 with
    | some r => (s, .refused r)
    | none =>
      match s.readJob l q with
      | .error r => (s, .refused r)
      | .ok j =>
        match s.admissionRefusal (linkOrigin l) (some q.tag.toNat) j with
        | some r => (s, .refused r)
        | none =>
          if s.placeSlot.isNone then (s, .refused .noSlot)
          else ((s.admitJob q.tag.toNat j).settle, Answer.ok (out8 q.tag.toNat))

/-- The operation a STOP names (R18): by tag, or the non-ended operation of a group. -/
def State.stopTarget (s : State) (byGroup : Bool) (b : Byte) : Except Refuse Slot :=
  if byGroup then
    match Group.ofCode b with
    | none => .error .badRange
    | some g =>
      if !s.items.configured g then .error .badGroup
      else
        match s.busySlot g with
        | some sl => .ok sl
        | none => .error .wrongState
  else
    match s.slotOfTag b.toNat with
    | some sl => .ok sl
    | none => .error .noSuchTag

/-- The tests of a STOP once its operation is found (R18): claims, class, state. -/
def State.stopRefusal (s : State) (l : Link) (o : Op) : Option Refuse :=
  firstRefusal
    [refuseIf (match l with
      | .coach => s.claimed o.job.group
      | .service => !(o.job.origin == .service) && !s.claimed o.job.group) .notOwner,
     refuseIf (o.opClass == .safety) .safetyOp,
     refuseIf o.state.isEnded .wrongState]

/-- STOP (R18). -/
def handleStop (s : State) (l : Link) (p : List Byte) : State × Answer :=
  match p with
  | [selector, b] =>
    match two? selector with
    | none => (s, .refused .badRange)
    | some byGroup =>
      match s.stopTarget byGroup b with
      | .error r => (s, .refused r)
      | .ok sl =>
        match (s.opAt sl).map (s.stopRefusal l) with
        | some none => ((s.cancelOp sl (.cancelled .stop)).settle, Answer.ok [])
        | some (some r) => (s, .refused r)
        | none => (s, .refused .noSuchTag)
  | _ => (s, .refused .badLength)

/-- HALT_ALL (R19). -/
def handleHaltAll (s : State) (_l : Link) (p : List Byte) : State × Answer :=
  noPayload p s ((s.endAll (fun _ => true) (.cancelled .halt)).settle, Answer.ok [])

/-- RESUME (R21). -/
def handleResume (s : State) (l : Link) (p : List Byte) : State × Answer :=
  oneByte p s (fun tag =>
    match s.slotOfTag tag.toNat with
    | none => (s, .refused .noSuchTag)
    | some sl =>
      match s.opAt sl with
      | none => (s, .refused .noSuchTag)
      | some o =>
        if !o.state.isHeld then (s, .refused .wrongState)
        else
          match s.resumeRefusal (linkOrigin l) o.job with
          | some r => (s, .refused r)
          | none => ((s.readmit sl o).settle, Answer.ok []))

/-- DISMISS (R7): tag 0 names every ENDED record. -/
def handleDismiss (s : State) (_l : Link) (p : List Byte) : State × Answer :=
  oneByte p s (fun tag =>
    if tag.toNat = 0 then
      ((s.eachOp (fun _ o => o.state.isEnded) State.clearSlot).settle, Answer.ok [])
    else
      match s.slotOfTag tag.toNat with
      | none => (s, .refused .noSuchTag)
      | some sl =>
        if (s.opAt sl).any (fun o => o.state.isEnded) then ((s.clearSlot sl).settle, Answer.ok [])
        else (s, .refused .wrongState))

/-! ### Items (R178, R195, R196) -/

/-- An operation is non-ended in an item's group (R195). -/
def State.itemGroupActive (s : State) : ItemGroup → Bool
  | .all => s.anyNonEnded
  | .jacks => (s.busySlot .jacks).isSome
  | .rooms => (s.findSlot (fun o => o.job.group.isRoom && !o.state.isEnded)).isSome
  | .room n => (s.busySlot (.room n)).isSome
  | .awning => (s.busySlot .awning).isSome
  | .none => false

/-- A function is held by another input already (R138). -/
def State.functionHeld (s : State) (i : Input) (f : Func) : Bool :=
  !(f == .none) && !(f == .generic) && inputNumbers.any (fun k => k != i && s.funcOf k == f)

/-- The item's own refusals for a number (R195): an enumeration value outside its set, a function held. -/
def State.itemRefusal (s : State) (k : ItemKey) (x : Int) : Option Refuse :=
  match k with
  | .faultAction => refuseIf (!k.domain.holds x) .badRange
  | .function i =>
    match Func.ofNumber x with
    | none => some .badRange
    | some f => refuseIf (s.functionHeld i f) .itemConflict
  | _ => none

/-- The state with the item table written. -/
def State.setItems (s : State) (t : Items) : State := { s with ist := { s.ist with items := t } }

/-- A jack taken out of the configured set (R56). -/
def JackUnit.remove (u : JackUnit) : JackUnit :=
  { u with stroke := 0, pressure := 0, sensorFault := false, contact := false, contactTimer := none }

/-- A change of jack_count (R56, R62). -/
def State.jackCountChanged (s : State) : State :=
  let s := jackPositions.foldl (fun s j =>
    if s.items.jacks.contains j then s else s.modJack j JackUnit.remove) s
  { s with lvc := { s.lvc with levelled := false } }

/-- A motor of a room taken out of the configured set (R88). -/
def Motor.remove (m : Motor) : Motor := { m with count := 0, tally := 0 }

/-- The last judged positions of the entries of a subject that leaves the configured set are gone. DEDUCED (log entry 29):
such a subject has no positions (R165), and the first count after a new reference has none to compare with (R158). -/
def State.forgetLast (s : State) (g : Group) : State :=
  entryNumbers.foldl (fun s k =>
    if (s.entryItem k).subject = g then s.modEntry k (fun u => { u with lastA := none, lastB := none }) else s) s

/-- A change of room_count (R88). -/
def State.roomCountChanged (s : State) : State :=
  roomNumbers.foldl (fun s n =>
    if s.items.configured (.room n) then s
    else
      (s.modRoom n (fun r =>
        { r with referenced := false, stray := false, a := r.a.remove, b := r.b.remove })).forgetLast (.room n)) s

/-- A count above the new travel + 200 is lowered to that bound (R92, R118). -/
def Motor.lower (travel : Nat) (m : Motor) : Motor := { m with count := min m.count (travel + 200) }

/-- The present position of one motor of a subject, while the subject is referenced. -/
def State.subjectPosition (s : State) (g : Group) (m : MotorId) : Option Nat :=
  if s.items.configured g && s.subjectReferenced g then
    ((s.subjectMotors g).find? (fun p => p.1 == m)).map (fun p => s.motorPosition p.2)
  else none

/-- A clearance entry is replaced (R156): flags and last judged positions derived afresh. -/
def State.entryReplaced (s : State) (k : Entry) : State :=
  let e := s.entryItem k
  s.modEntry k (fun _ =>
    { active := !s.inm.notReady && s.activeNow e, inside := !s.inm.notReady && s.insideNow e
      lastA := s.subjectPosition e.subject .a, lastB := s.subjectPosition e.subject .b })

/-- A change of link_watchdog acts on the running timer (R179). -/
def State.watchdogChanged (s : State) : State :=
  { s with liu := { s.liu with watchdog :=
      match s.liu.watchdog with
      | none => none
      | some _ => if s.items.linkWatchdog = 0 then none else some (s.now + s.items.linkWatchdog * 1000) } }

/-- What a new value of an item does beside being kept (R195). A count that a new travel lowers (R92, R118) is a count
change like any other, so the Clearance Monitor judges it (R158). -/
def State.itemTaken (s : State) : ItemKey → State
  | .rotation => s.rotationChanged
  | .refPitch => s.referenceChanged
  | .refRoll => s.referenceChanged
  | .jackCount => s.jackCountChanged
  | .roomCount => s.roomCountChanged
  | .roomTravel n =>
    (s.modRoom n (fun r => { r with
      a := r.a.lower (s.items.room.travel.get n), b := r.b.lower (s.items.room.travel.get n) })).judgeChanged s (.room n)
  | .awningTravel => (s.modAwningMotor (Motor.lower s.items.awn.travel)).judgeChanged s .awning
  | .function i => s.inputReassigned i
  | .invert i => s.inputReassigned i
  | .autoPark => if s.items.inp.autoPark = 0 then { s with inm := { s.inm with idleTimer := none } } else s
  | .clearance k => s.entryReplaced k
  | .linkWatchdog => s.watchdogChanged
  | _ => s

/-- The number, index and value bytes of a reply to SET_ITEM and GET_ITEM (R178). -/
def State.itemReply (s : State) (num idx : Nat) (k : ItemKey) : List Byte :=
  out16 num ++ out8 idx ++ s.items.valueBytes k

/-- An item takes a value that passed its tests; the same value changes nothing (R195). DESIGN CHOICE (log entry 69): nor
does a link_watchdog of the value it holds restart a running watchdog timer, which R179 would have it do. -/
def State.takeItem (s : State) (k : ItemKey) (t : Items) : State :=
  if t = s.items then s else ((s.setItems t).itemTaken k).settle

/-- The tests of R195 in their order, and the taking of the new table. -/
def State.setItemTo (s : State) (num idx : Nat) (k : ItemKey) (own : Option Refuse) (t : Items) : State × Answer :=
  match firstRefusal
      [refuseIf s.ist.storing.isSome .storing, own, refuseIf (s.itemGroupActive k.group) .groupActive] with
  | some r => (s, .refused r)
  | none =>
    let s := s.takeItem k t
    (s, Answer.ok (s.itemReply num idx k))

/-- SET_ITEM of a known item, its value bytes following (R178, R195). -/
def State.setItemValue (s : State) (num idx : Nat) (k : ItemKey) (value : List Byte) : State × Answer :=
  match k with
  | .clearance e =>
    if value.length ≠ 16 then (s, .refused .badLength)
    else
      match RawEntry.read value with
      | none => (s, .refused .badRange)
      | some raw =>
        match raw.take with
        | some c => s.setItemTo num idx k none { s.items with clearance := s.items.clearance.set e c }
        | none => s.setItemTo num idx k (some .badRange) s.items
  | _ =>
    match value with
    | [a, b, c, d] =>
      let x := int32 a b c d
      s.setItemTo num idx k (s.itemRefusal k x) (s.items.put k (k.domain.fit x))
    | _ => (s, .refused .badLength)

/-- SET_ITEM (R178, R195). -/
def handleSetItem (s : State) (_l : Link) (p : List Byte) : State × Answer :=
  match p with
  | n0 :: n1 :: idx :: value =>
    match ItemKey.ofNumber (num16 n0 n1) idx.toNat with
    | none => (s, .refused .unknownItem)
    | some k => s.setItemValue (num16 n0 n1) idx.toNat k value
  | _ => (s, .refused .badLength)

/-- GET_ITEM (R178, R195). -/
def handleGetItem (s : State) (_l : Link) (p : List Byte) : State × Answer :=
  match p with
  | [n0, n1, idx] =>
    match ItemKey.ofNumber (num16 n0 n1) idx.toNat with
    | none => (s, .refused .unknownItem)
    | some k => (s, Answer.ok (s.itemReply (num16 n0 n1) idx.toNat k))
  | _ => (s, .refused .badLength)

/-- STORE_ITEMS (R196): the store begins. -/
def handleStoreItems (s : State) (l : Link) (p : List Byte) : State × Answer :=
  noPayload p s
    (if s.ist.storing.isSome then (s, .refused .storing)
     else ({ s with ist := { s.ist with storing := some l } }.settle, .later))

/-! ### Reference -/

/-- A JACKS or room operation is RUNNING or STOPPING (R49). -/
def State.frameMoving (s : State) : Bool := s.jacksMoving || s.roomMoving

/-- SET_REFERENCE (R49). -/
def handleSetReference (s : State) (_l : Link) (p : List Byte) : State × Answer :=
  noPayload p s
    (if s.ist.storing.isSome then (s, .refused .storing)
     else
       match s.atu.filtered with
       | none => (s, .refused .attitude)
       | some f =>
         if s.frameMoving then (s, .refused .groupActive)
         else if !f.within 500 then (s, .refused .tooSteep)
         else
           let t := { s.items with att := { s.items.att with refPitch := f.pitch, refRoll := f.roll } }
           let u := ((s.setItems t).referenceChanged).settle
           (u, Answer.ok (outInt16 f.pitch ++ outInt16 f.roll ++ out8 u.jacksByte)))

/-! ### Notices -/

/-- SET_NOTICE_MASK (R192). -/
def handleSetNoticeMask (s : State) (_l : Link) (p : List Byte) : State × Answer :=
  oneByte p s (fun m => ({ s with ntu := { s.ntu with mask := m } }.pins, Answer.ok [m]))

/-- The category of a POST_NOTICE code (R174). -/
def categoryOf (n : Nat) : Option Category :=
  [Category.ops, .inputs, .attitude, .wind, .supply, .claims, .fault, .power][n]?

/-- POST_NOTICE (R189): the coach link's change set, from either link. -/
def handlePostNotice (s : State) (_l : Link) (p : List Byte) : State × Answer :=
  oneByte p s (fun c =>
    match categoryOf c.toNat with
    | none => (s, .refused .badRange)
    | some k => ({ s with ntu := { s.ntu with coach := s.ntu.coach.raise k } }.pins, Answer.ok []))

/-! ### Power -/

/-- The tests of PARK in their order (R148); one from the service link that passes the first two is refused
INTERLOCK. -/
def State.parkRefusal (s : State) (l : Link) : Option Refuse :=
  firstRefusal
    [refuseIf s.inm.notReady .notReady, refuseIf s.anyNonEnded .busy,
     refuseIf (s.shut .ignition || s.liu.connected || l == .service) .interlock, refuseIf s.ist.storing.isSome .storing]

/-- PARK (R148): its entry comes with the last byte of its reply. -/
def handlePark (s : State) (l : Link) (p : List Byte) : State × Answer :=
  noPayload p s
    (match s.parkRefusal l with
    | some r => (s, .refused r)
    | none => ({ s with liu := { s.liu with parkWait := true } }, .accepted [] .park))

/-- RESTART (R199): the reset comes with the last byte of its reply. -/
def handleRestart (s : State) (_l : Link) (p : List Byte) : State × Answer :=
  noPayload p s (if s.ist.storing.isSome then (s, .refused .storing) else (s, .accepted [] .restart))

/-! ### Claims (R183, R184) -/

/-- The groups that are claimed or pending, as a group bit set. -/
def State.claimsByte (s : State) : Byte :=
  groups.foldl (fun acc g => if s.claimed g then acc ||| bitAt 8 g.idx.val else acc) 0

/-- A group bit set that CLAIM and RELEASE take (R174): no bit of an unconfigured group, nor bit 6 or 7. -/
def State.claimSetOk (s : State) (set : Byte) : Bool :=
  !set.getLsbD 6 && !set.getLsbD 7 && (groupsOf set).all s.items.configured

/-- A group's entry after the cancels of a CLAIM (R183): claimed where it holds no operation of the host any more,
pending while one is ramping down. -/
def State.claimGroup (s : State) (g : Group) : State :=
  s.setClaim g (if s.hostBusy g then .pending else .claimed)

/-- A CLAIM of a set of groups (R183): the operations that it cancels in those of them that are free, in ascending
slot order (R5), then the entry of each. -/
def State.takeClaims (s : State) (set : List Group) : State :=
  let free := set.filter (fun g => s.claimOf g == .free)
  let t := s.cancelAll (fun _ o => free.contains o.job.group && o.claimable) (.cancelled .claimed)
  free.foldl State.claimGroup t

/-- CLAIM (R183). -/
def handleClaim (s : State) (l : Link) (p : List Byte) : State × Answer :=
  match l with
  | .coach => (s, .refused .wrongLink)
  | .service =>
    oneByte p s (fun set =>
      if !s.claimSetOk set then (s, .refused .badGroup)
      else
        let t := s.takeClaims (groupsOf set)
        let t := if t.liu.claims = s.liu.claims then t else t.raise .claims
        let t := t.settle
        (t, Answer.ok [t.claimsByte]))

/-- RELEASE (R184). -/
def handleRelease (s : State) (l : Link) (p : List Byte) : State × Answer :=
  match l with
  | .coach => (s, .refused .wrongLink)
  | .service =>
    oneByte p s (fun set =>
      if !s.claimSetOk set then (s, .refused .badGroup)
      else
        let t := (groupsOf set).foldl (fun t g => t.setClaim g .free) s
        let t := if t.liu.claims = s.liu.claims then t else t.raise .claims
        let t := t.settle
        (t, Answer.ok [t.claimsByte]))

/-- A taken frame whose KIND is no request code (R170). -/
def handleUnknown (s : State) (_l : Link) (_p : List Byte) : State × Answer := (s, .refused .unknownKind)

end Sys2Proof.Machine
end

