-- ==== Sys2Proof/Machine/Links.lean ====
section
/-! DEFINITION. The Link Interface Unit (chapters 9 and 10): the receive assemblers, the pending-frame
buffers, the taking of frames and the building of replies, the end of a reply, the watchdog and the
service-silence timer, and the resets. -/

namespace Sys2Proof.Machine

/-! ### Taking and replying (R169 to R172) -/

/-- The bytes of a frame on the wire (R167): SYNC, LEN, KIND, payload, check word low byte first. -/
def frameBytes (kind : Byte) (payload : List Byte) : List Byte :=
  let len : Byte := BitVec.ofNat 8 payload.length
  [0xC3#8, len, kind] ++ payload ++ out16 (frameCheck len kind payload).toNat

/-- The bytes of a reply on the wire (R167, R170): LEN counts the summary, the outcome and the data. -/
def Reply.bytes (r : Reply) : List Byte := frameBytes r.kind (r.summary :: r.outcome :: r.data)

/-- The bytes that a link sends: those of the oldest reply not yet wholly sent (R171). -/
def State.sentBytes (s : State) (l : Link) : List Byte := ((s.link l).replies.head?.map Reply.bytes).getD []

/-- A reply is built and joins those of its link (R170 to R172). -/
def State.pushReply (s : State) (l : Link) (kind outcome : Byte) (data : List Byte) (k : After) : State :=
  s.modLink l (fun u =>
    { u with replies := u.replies ++
        [{ kind := kind ||| 0x80#8, summary := s.summary l, outcome := outcome, data := data, after := k }] })

/-- The reply of an answer (R170); none yet for a store in progress. -/
def State.reply (s : State) (l : Link) (kind : Byte) : Answer → State
  | .accepted data k => s.pushReply l kind 0 data k
  | .refused r => s.pushReply l kind (BitVec.ofNat 8 r.code) [] .nothing
  | .later => s

/-- A request handler: the state, the link, the payload; the state after the effects and the answer. -/
abbrev Handler := State → Link → List Byte → State × Answer

/-- A frame is taken: its handler acts and its reply is built. -/
def State.serve (s : State) (l : Link) (kind : Byte) (p : List Byte) (h : Handler) : State :=
  (h s l p).1.reply l kind (h s l p).2

/-- The LIU may take a frame of a link (R169): no request of it in progress, no accepted PARK waiting. -/
def State.mayTake (s : State) (l : Link) : Bool := !(s.ist.storing == some l) && !s.liu.parkWait

/-- A frame joins its link's buffer, or is discarded with LINK_ERROR when two wait there (R169). -/
def State.bufferFrame (s : State) (l : Link) (f : Frame) : State :=
  if (s.link l).buffer.length < 2 then s.modLink l (fun u => { u with buffer := u.buffer ++ [f] })
  else (s.linkError l).sync

/-- The codes of the requests (R174), each with its handler; `handleUnknown` for every other KIND. -/
def handlerOf (kind : Byte) : Handler :=
  match kind.toNat with
  | 0x01 => handleIdent
  | 0x02 => handleStatus
  | 0x03 => handleSubmit
  | 0x04 => handleStop
  | 0x05 => handleHaltAll
  | 0x06 => handleResume
  | 0x07 => handleDismiss
  | 0x08 => handleReadOp
  | 0x09 => handleListOps
  | 0x0A => handleReadChanges
  | 0x0B => handleReadFaults
  | 0x0C => handleReadAttitude
  | 0x0D => handleReadInputs
  | 0x0E => handleReadMotion
  | 0x0F => handleReadWind
  | 0x10 => handleSetItem
  | 0x11 => handleGetItem
  | 0x12 => handleStoreItems
  | 0x13 => handleSetReference
  | 0x14 => handleSetNoticeMask
  | 0x15 => handlePostNotice
  | 0x16 => handlePark
  | 0x17 => handleRestart
  | 0x18 => handleClaim
  | 0x19 => handleRelease
  | _ => handleUnknown

/-- The head frame of a link is taken (R169). -/
def State.takeHead (s : State) (l : Link) : State :=
  match (s.link l).buffer with
  | [] => s
  | f :: rest => (s.modLink l (fun u => { u with buffer := rest })).serve l f.kind f.payload (handlerOf f.kind)

/-- The link whose head frame can be taken, the coach link first (R169, log entry 16). -/
def State.nextLink (s : State) : Option Link :=
  [Link.coach, .service].find? (fun l => s.mayTake l && !(s.link l).buffer.isEmpty)

/-- Waiting frames are taken while any can be; `n` bounds their number. -/
def State.drain : Nat → State → State
  | 0, s => s
  | n + 1, s =>
    match s.nextLink with
    | some l => (s.takeHead l).drain n
    | none => s

/-- The waiting frames of both links are taken: two buffers of two. -/
def State.drainAll (s : State) : State := s.drain 4

/-- A request frame is presented on a link: its start wakes a parked part (R152), and it is taken at once
where the LIU may take it, or waits in the buffer (R169). -/
def State.request (s : State) (l : Link) (kind : Byte) (p : List Byte) (h : Handler) : State :=
  let s := s.wakeOnFrame l
  if s.mayTake l then s.serve l kind p h else s.bufferFrame l { kind := kind, payload := p }

/-! ### Receiving (R168, R179, R181) -/

/-- What one byte makes of the assembler (R168). -/
inductive Assembly where
  | going (a : Assembler)
  | discarded
  | good (f : Frame)
deriving DecidableEq, Repr

/-- The assembler after one byte. -/
def Assembler.step (b : Byte) : Assembler → Assembly
  | .hunt => .going (if b = 0xC3#8 then .len else .hunt)
  | .len => if 64 < b.toNat then .discarded else .going (.kind b)
  | .kind n => .going (if n = 0 then .crc n b [] none else .payload n b [])
  | .payload n k got =>
    let got := got ++ [b]
    .going (if n.toNat ≤ got.length then .crc n k got none else .payload n k got)
  | .crc n k p none => .going (.crc n k p (some b))
  | .crc n k p (some low) =>
    if BitVec.ofNat 16 (num16 low b) = frameCheck n k p then .good { kind := k, payload := p } else .discarded

/-- What a valid frame does in the event of its last byte (R179 to R181). -/
def State.validFrame (s : State) : Link → State
  | .coach =>
    { s with liu := { s.liu with
        silent := false
        watchdog := if s.items.linkWatchdog = 0 then s.liu.watchdog else some (s.now + s.items.linkWatchdog * 1000) } }
  | .service =>
    let was := s.liu.connected
    let s := { s with liu := { s.liu with connected := true, silence := some (s.now + 10000) } }
    if was then s else s.raise .claims

/-- The gap timer after a byte taken in a state (R168): started by a byte of LEN to CRC that leaves the
frame in progress. -/
def gapAfter (now : Nat) (before after : Assembler) : Option Nat :=
  if before = .hunt then none else if after = .hunt then none else some (now + 20)

/-- One byte is received on a link (R168, R169). -/
def State.receiveByte (s : State) (l : Link) (b : Byte) : State :=
  let s := s.wakeOnFrame l
  let before := (s.link l).assembler
  match before.step b with
  | .going a => s.modLink l (fun u => { u with assembler := a, gap := gapAfter s.now before a })
  | .discarded => ((s.modLink l (fun u => { u with assembler := .hunt, gap := none })).linkError l).sync
  | .good f =>
    let s := s.modLink l (fun u => { u with assembler := .hunt, gap := none })
    (((s.validFrame l).settle).bufferFrame l f).drainAll

/-- The gap timer expires (R168). -/
def State.gapExpired (s : State) (l : Link) : State :=
  if (s.link l).gap.isSome then
    ((s.modLink l (fun u => { u with assembler := .hunt, gap := none })).linkError l).sync
  else s

/-! ### Resets (R197) -/

/-- What the nonvolatile cells hold when a reset ends a store (R196): the first bytes of the new image,
as many as were written, and the old image beyond them. -/
def State.cutStore (s : State) : Image :=
  let new := s.items.image
  let flat := fun (m : Image) => m.bytes ++ out16 m.check.toNat
  let n := Config.storedBytes s.draws
  let mixed := (flat new).take n ++ (flat s.ist.image).drop n
  let body := mixed.take (mixed.length - 2)
  match mixed.drop (mixed.length - 2) with
  | [lo, hi] => { bytes := body, check := BitVec.ofNat 16 (num16 lo hi) }
  | _ => { bytes := body, check := 0 }

/-- A reset of a cause (R197): the image is loaded and every block begins as its chapter gives. -/
def State.restart (s : State) (cause : RestartCause) : State :=
  let image := if s.ist.storing.isSome then s.cutStore else s.ist.image
  let draws := if s.ist.storing.isSome then s.draws + 1 else s.draws
  let loaded := loadImage image
  State.boot s.pending s.now draws cause loaded.1 loaded.2 image

/-- The cause of a supply reset. -/
def supplyCause : SupplyReset → RestartCause
  | .powerOn => .powerOn
  | .brownout => .brownout

/-! ### The end of a reply (R148, R169, R171) -/

/-- A frame waits in a buffer: the coach link's is found first. -/
def State.waitingLink (s : State) : Option Link :=
  [Link.coach, .service].find? (fun l => !(s.link l).buffer.isEmpty)

/-- The entry to parked, by PARK or by the idle timer (R149): a frame found waiting in a buffer wakes the
part at once with the cause of its link, and is taken (R169). -/
def State.goParked (s : State) : State :=
  let s := s.enterParked.settle
  match s.waitingLink with
  | some l => (s.wakeOnFrame l).drainAll
  | none => s

/-- The entry attempt of an accepted PARK (R148): the part stays awake while an operation is non-ended or
the service link is connected, and takes frames again; a part that the idle timer parked before stays as
it is. -/
def State.parkEntry (s : State) : State :=
  if s.inm.parked then s
  else if s.anyNonEnded || s.liu.connected then { s with liu := { s.liu with parkWait := false } }.drainAll
  else s.goParked

/-- The last byte of a link's reply has been sent (R171). -/
def State.replyEnded (s : State) (l : Link) : State :=
  match (s.link l).replies with
  | [] => s
  | r :: rest =>
    let s := s.modLink l (fun u => { u with replies := rest })
    match r.after with
    | .nothing => s
    | .park => s.parkEntry
    | .restart => s.restart .request

/-! ### The end of a store (R196) -/

/-- The read-back of a store. `none` is the match; an image that equals what was written is one too. -/
def State.storeEnded (s : State) (readBack : Option Image) : State :=
  match s.ist.storing with
  | none => s
  | some l =>
    let written := s.items.image
    let found := readBack.getD written
    let s := { s with ist := { s.ist with storing := none, image := found } }
    if found = written then
      let s := { s with ist := { s.ist with source := .image } }.settle
      (s.pushReply l 0x12#8 0 [] .nothing).drainAll
    else
      let s := (s.latch .storeFail).settle
      (s.pushReply l 0x12#8 (BitVec.ofNat 8 Refuse.storeFail.code) [] .nothing).drainAll

/-! ### Silence (R180, R182) -/

/-- The coach-link watchdog expires (R180). -/
def State.watchdogExpired (s : State) : State :=
  if s.liu.watchdog.isSome then
    let s := { s with liu := { s.liu with watchdog := none, silent := true } }
    let s := s.holdAll (fun o => o.job.origin == .link) .linkSilent
    if s.items.awn.stowOnLinkLoss then s.createStow.settle else s.settle
  else s

/-- The service-silence timer expires (R182). -/
def State.silenceExpired (s : State) : State :=
  if s.liu.silence.isSome then
    let s := { s with liu := { s.liu with silence := none, connected := false, claims := Bank.fill 6 .free } }
    let s := s.cancelAll (fun _ o => o.job.origin == .service) (.cancelled .serviceLost)
    (s.raise .claims).settle
  else s

end Sys2Proof.Machine
end

