-- ==== Sys2Proof/Machine/Clock.lean ====
section
/-! DEFINITION. The model's clock: which timers are running, with the command each one's expiry is, and the
first that is due. -/

namespace Sys2Proof.Machine

/-- The timers of the jacks operation. -/
def State.jackTimers (s : State) : List (Option Nat × Instr) :=
  let t := s.lvc.timers
  [(t.ground, .groundTimerExpiry), (t.settle, .settleTimerExpiry), (t.lift, .liftTimerExpiry),
   (t.touchdown, .touchdownTimerExpiry), (t.stow, .stowTimerExpiry), (t.jog, .jackJogTimerExpiry)]

/-- The timers of a room, its coast windows aside. -/
def State.roomTimers (s : State) (n : Room) : List (Option Nat × Instr) :=
  let r := s.roomUnit n
  [(r.breakTimer, .roomBreakawayExpiry n false), (r.lateTimer, .roomBreakawayExpiry n true),
   (r.stallTimer, .roomStallWindowExpiry n), (r.jogTimer, .roomJogTimerExpiry n)]

/-- The room channels, in order. -/
def channelNumbers : List Channel := [0, 1, 2, 3, 4, 5, 6, 7]

/-- The coast window of a channel. -/
def State.coastTimer (s : State) (c : Channel) : Option Nat × Instr :=
  ((s.motor (.room (channelRoom c) (channelMotor c))).coast, .roomCoastExpiry c)

/-- The timers of the awning and the wind. -/
def State.awningTimers (s : State) : List (Option Nat × Instr) :=
  [(s.awu.breakTimer, .awningBreakawayExpiry), (s.awu.stallTimer, .awningStallWindowExpiry),
   (s.awu.jogTimer, .awningJogTimerExpiry), (s.awu.motor.coast, .awningCoastExpiry),
   (s.wind.gateTimer, .windGateEnd), (s.wind.lockout, .lockoutExpiry)]

/-- The timers of an input. -/
def State.inputTimers (s : State) (i : Input) : List (Option Nat × Instr) :=
  let u := s.input i
  [(u.debounce, if u.firstDone then .debounceExpiry i else .firstDebounceExpiry i),
   (u.faultTimer, .faultTimerExpiry i)]

/-- The pin levels as they were last read. -/
def State.levels (s : State) : Bank Level 24 := s.inm.inputs.map (fun u => u.level)

/-- Every timer of the part with the command of its expiry, in the order in which timers due together are
taken (log entry 10). -/
def State.timers (s : State) : List (Option Nat × Instr) :=
  List.flatten
    [[(s.sta.stagger, .staggerExpiry), (s.sta.holdTimer, .holdTimerExpiry), (s.atu.drift, .driftTimerExpiry)],
     jackPositions.map (fun j => ((s.jack j).contactTimer, .contactTimerExpiry j)),
     s.jackTimers,
     roomNumbers.flatMap s.roomTimers,
     channelNumbers.map s.coastTimer,
     s.awningTimers,
     inputNumbers.flatMap s.inputTimers,
     [(s.inm.idleTimer, .idleTimerExpiry), (s.inm.pollTimer, .parkPoll s.levels), (s.liu.watchdog, .watchdogExpiry),
      (s.liu.silence, .serviceSilenceExpiry), (s.liu.coach.gap, .gapTimerExpiry .coach),
      (s.liu.service.gap, .gapTimerExpiry .service)]]

/-- A timer is due. -/
def State.isDue (s : State) (p : Option Nat × Instr) : Bool := p.1.any (fun e => decide (e ≤ s.now))

/-- The expiry that is taken next: the first timer due. -/
def State.dueCommand (s : State) : Option Instr := (s.timers.find? s.isDue).map Prod.snd

/-- The clock moves on by one millisecond. -/
def State.tick (s : State) : State := { s with now := s.now + 1 }

end Sys2Proof.Machine
end

