-- ==== Sys2Proof/Machine/AttitudeCommands.lean ====
section
/-! DEFINITION. The commands of the Attitude Unit: its sample and its drift timer. -/

namespace Sys2Proof.Machine

open Host (Outcome)

/-- ATTITUDE_SAMPLE (R43 to R47), while awake. -/
def execAttitudeSample (ready : Byte) (a b : Word) (s : State) : Outcome State Fault Refusal :=
  .next (if s.inm.parked then s else (s.sampleAttitude ready a b).settle)

/-- DRIFT_TIMER_EXPIRY (R52, R53). -/
def execDriftTimerExpiry (s : State) : Outcome State Fault Refusal :=
  .next (if s.atu.drift.isSome then s.declareDrift.relevel.settle else s)

end Sys2Proof.Machine
end

