-- ==== Sys2Proof/Machine/AwningCommands.lean ====
section
/-! DEFINITION. The commands of the Awning and Wind Unit: hall pulses, ticks and timers of the awning, wind
pulses, gate ends and the lockout. -/

namespace Sys2Proof.Machine

open Host (Outcome)

/-- AWNING_HALL_PULSE (R117). -/
def execAwningHallPulse (s : State) : Outcome State Fault Refusal := .next s.awningPulse.settle

/-- AWNING_TICK (R119). -/
def execAwningTick (amps : Nat) (s : State) : Outcome State Fault Refusal := .next (s.tickAwning amps).settle

/-- AWNING_BREAKAWAY_EXPIRY (R123). -/
def execAwningBreakawayExpiry (s : State) : Outcome State Fault Refusal :=
  .next (if s.awu.breakTimer.isSome then s.awningBreakawayExpired.settle else s)

/-- AWNING_STALL_WINDOW_EXPIRY (R123). -/
def execAwningStallWindowExpiry (s : State) : Outcome State Fault Refusal :=
  .next (if s.awu.stallTimer.isSome then s.awningStallExpired.settle else s)

/-- AWNING_JOG_TIMER_EXPIRY (R125). -/
def execAwningJogTimerExpiry (s : State) : Outcome State Fault Refusal :=
  .next (if s.awu.jogTimer.isSome then s.awningJogExpired.settle else s)

/-- AWNING_COAST_EXPIRY (R124). -/
def execAwningCoastExpiry (s : State) : Outcome State Fault Refusal :=
  .next (if s.awu.motor.coast.isSome then s.awningCoastExpired.settle else s)

/-- WIND_PULSE (R127), awake or parked. -/
def execWindPulse (s : State) : Outcome State Fault Refusal := .next { s with wind := s.wind.pulse }

/-- WIND_GATE_END (R127), awake or parked. -/
def execWindGateEnd (s : State) : Outcome State Fault Refusal :=
  .next (if s.wind.gateTimer.isSome then s.endGate.settle else s)

/-- LOCKOUT_EXPIRY (R129). -/
def execLockoutExpiry (s : State) : Outcome State Fault Refusal :=
  .next (if s.wind.lockout.isSome then s.endLockout.settle else s)

end Sys2Proof.Machine
end

