-- ==== Sys2Proof/Machine/InputCommands.lean ====
section
/-! DEFINITION. The commands of the Input Monitor: samples, debounce and fault timers, the idle timer and
the polls. -/

namespace Sys2Proof.Machine

open Host (Outcome)

/-- INPUT_SAMPLE (R135), while awake. -/
def execInputSample (levels : Bank Level 24) (s : State) : Outcome State Fault Refusal :=
  .next (if s.inm.parked then s else (s.sampleInputs levels).settle)

/-- DEBOUNCE_EXPIRY (R135): the debounced state of the input changes. -/
def execDebounceExpiry (input : Input) (s : State) : Outcome State Fault Refusal :=
  .next (if (s.input input).debounce.isSome && (s.input input).firstDone then (s.debounceExpired input).settle else s)

/-- FIRST_DEBOUNCE_EXPIRY (R136). -/
def execFirstDebounceExpiry (input : Input) (s : State) : Outcome State Fault Refusal :=
  .next (if (s.input input).debounce.isSome && !(s.input input).firstDone
    then (s.firstDebounceExpired input).settle else s)

/-- FAULT_TIMER_EXPIRY (R137). -/
def execFaultTimerExpiry (input : Input) (s : State) : Outcome State Fault Refusal :=
  .next (if (s.input input).faultTimer.isSome then (s.faultExpired input).settle else s)

/-- IDLE_TIMER_EXPIRY (R147): the part enters parked. -/
def execIdleTimerExpiry (s : State) : Outcome State Fault Refusal :=
  .next (if s.inm.idleTimer.isSome then s.goParked else s)

/-- PARK_POLL (R150). -/
def execParkPoll (levels : Bank Level 24) (s : State) : Outcome State Fault Refusal :=
  .next (if s.inm.parked && s.inm.pollTimer.isSome then (s.pollInputs levels).settle else s)

end Sys2Proof.Machine
end

