-- ==== Sys2Proof/Machine/JackCommands.lean ====
section
/-! DEFINITION. The commands of the Levelling Controller: its samples, the pump's tick and its timers. -/

namespace Sys2Proof.Machine

open Host (Outcome)

/-- JACK_SAMPLE (R57), while awake. -/
def execJackSample (readings : Bank JackReading 6) (s : State) : Outcome State Fault Refusal :=
  .next (if s.inm.parked then s else (s.sampleJacks readings).settle)

/-- CONTACT_TIMER_EXPIRY (R58): the jack comes into contact. -/
def execContactTimerExpiry (jack : Jack) (s : State) : Outcome State Fault Refusal :=
  .next (if (s.jack jack).contactTimer.isSome then
    ((s.modJack jack (fun u => { u with contact := true, contactTimer := none })).jackContact jack).settle
  else s)

/-- PUMP_RAMP_TICK (R59). -/
def execPumpRampTick (s : State) : Outcome State Fault Refusal := .next s.pumpTick.settle

/-- GROUND_TIMER_EXPIRY (R67). -/
def execGroundTimerExpiry (s : State) : Outcome State Fault Refusal :=
  .next (if s.lvc.timers.ground.isSome then
    { s with lvc := { s.lvc with timers := { s.lvc.timers with ground := none } } }.jacksTimeout (.failed .groundTimeout) |>.settle
  else s)

/-- SETTLE_TIMER_EXPIRY (R68). -/
def execSettleTimerExpiry (s : State) : Outcome State Fault Refusal :=
  .next (if s.lvc.timers.settle.isSome then s.settleExpired.settle else s)

/-- LIFT_TIMER_EXPIRY (R70). -/
def execLiftTimerExpiry (s : State) : Outcome State Fault Refusal :=
  .next (if s.lvc.timers.lift.isSome then
    { s with lvc := { s.lvc with timers := { s.lvc.timers with lift := none } } }.jacksTimeout (.failed .liftTimeout) |>.settle
  else s)

/-- TOUCHDOWN_TIMER_EXPIRY (R71). -/
def execTouchdownTimerExpiry (s : State) : Outcome State Fault Refusal :=
  .next (if s.lvc.timers.touchdown.isSome then
    { s with lvc := { s.lvc with timers := { s.lvc.timers with touchdown := none } } }.jacksTimeout (.failed .liftTimeout) |>.settle
  else s)

/-- STOW_TIMER_EXPIRY (R82). -/
def execStowTimerExpiry (s : State) : Outcome State Fault Refusal :=
  .next (if s.lvc.timers.stow.isSome then
    { s with lvc := { s.lvc with timers := { s.lvc.timers with stow := none } } }.jacksTimeout (.failed .stowTimeout) |>.settle
  else s)

/-- JACK_JOG_TIMER_EXPIRY (R85, R86). -/
def execJackJogTimerExpiry (s : State) : Outcome State Fault Refusal :=
  .next (if s.lvc.timers.jog.isSome then
    { s with lvc := { s.lvc with timers := { s.lvc.timers with jog := none } } }.jacksTimeout (.complete) |>.settle
  else s)

end Sys2Proof.Machine
end

