-- ==== Sys2Proof/Machine/LinkCommands.lean ====
section
/-! DEFINITION. The commands of the Link Interface Unit and the Item Store: bytes, gap timers, frame
starts, the ends of replies and of stores, resets, and the two silences. -/

namespace Sys2Proof.Machine

open Host (Outcome)

/-- RECEIVE_BYTE (R168). -/
def execReceiveByte (link : Link) (byte : Byte) (s : State) : Outcome State Fault Refusal :=
  .next (s.receiveByte link byte)

/-- GAP_TIMER_EXPIRY (R168). -/
def execGapTimerExpiry (link : Link) (s : State) : Outcome State Fault Refusal := .next (s.gapExpired link)

/-- WAKE_ON_FRAME_START (R152). -/
def execWakeOnFrameStart (link : Link) (s : State) : Outcome State Fault Refusal := .next (s.wakeOnFrame link)

/-- REPLY_SENT (R171). -/
def execReplySent (link : Link) (s : State) : Outcome State Fault Refusal := .next (s.replyEnded link)

/-- RESET (R197): power-on or brownout. -/
def execReset (cause : SupplyReset) (s : State) : Outcome State Fault Refusal := .next (s.restart (supplyCause cause))

/-- STORE_END (R196). -/
def execStoreEnd (readBack : Option Image) (s : State) : Outcome State Fault Refusal := .next (s.storeEnded readBack)

/-- WATCHDOG_EXPIRY (R180). -/
def execWatchdogExpiry (s : State) : Outcome State Fault Refusal := .next s.watchdogExpired

/-- SERVICE_SILENCE_EXPIRY (R182). -/
def execServiceSilenceExpiry (s : State) : Outcome State Fault Refusal := .next s.silenceExpired

end Sys2Proof.Machine
end

