-- ==== Sys2Proof/Machine/RequestCommands.lean ====
section
/-! DEFINITION. The request commands, one for each request code of R174, and the frame of no known code:
each presents its frame on its link, with its own handler. -/

namespace Sys2Proof.Machine

open Host (Outcome)

/-- IDENT (R174). -/
def execIdent (link : Link) (payload : List Byte) (s : State) : Outcome State Fault Refusal :=
  .next (s.request link 0x01#8 payload handleIdent)

/-- STATUS (R176). -/
def execStatus (link : Link) (payload : List Byte) (s : State) : Outcome State Fault Refusal :=
  .next (s.request link 0x02#8 payload handleStatus)

/-- SUBMIT (R8). -/
def execSubmit (link : Link) (payload : List Byte) (s : State) : Outcome State Fault Refusal :=
  .next (s.request link 0x03#8 payload handleSubmit)

/-- STOP (R18). -/
def execStop (link : Link) (payload : List Byte) (s : State) : Outcome State Fault Refusal :=
  .next (s.request link 0x04#8 payload handleStop)

/-- HALT_ALL (R19). -/
def execHaltAll (link : Link) (payload : List Byte) (s : State) : Outcome State Fault Refusal :=
  .next (s.request link 0x05#8 payload handleHaltAll)

/-- RESUME (R21). -/
def execResume (link : Link) (payload : List Byte) (s : State) : Outcome State Fault Refusal :=
  .next (s.request link 0x06#8 payload handleResume)

/-- DISMISS (R7). -/
def execDismiss (link : Link) (payload : List Byte) (s : State) : Outcome State Fault Refusal :=
  .next (s.request link 0x07#8 payload handleDismiss)

/-- READ_OP (R25). -/
def execReadOp (link : Link) (payload : List Byte) (s : State) : Outcome State Fault Refusal :=
  .next (s.request link 0x08#8 payload handleReadOp)

/-- LIST_OPS (R25). -/
def execListOps (link : Link) (payload : List Byte) (s : State) : Outcome State Fault Refusal :=
  .next (s.request link 0x09#8 payload handleListOps)

/-- READ_CHANGES (R189). -/
def execReadChanges (link : Link) (payload : List Byte) (s : State) : Outcome State Fault Refusal :=
  .next (s.request link 0x0A#8 payload handleReadChanges)

/-- READ_FAULTS (R191). -/
def execReadFaults (link : Link) (payload : List Byte) (s : State) : Outcome State Fault Refusal :=
  .next (s.request link 0x0B#8 payload handleReadFaults)

/-- READ_ATTITUDE (R55). -/
def execReadAttitude (link : Link) (payload : List Byte) (s : State) : Outcome State Fault Refusal :=
  .next (s.request link 0x0C#8 payload handleReadAttitude)

/-- READ_INPUTS (R154). -/
def execReadInputs (link : Link) (payload : List Byte) (s : State) : Outcome State Fault Refusal :=
  .next (s.request link 0x0D#8 payload handleReadInputs)

/-- READ_MOTION (R177). -/
def execReadMotion (link : Link) (payload : List Byte) (s : State) : Outcome State Fault Refusal :=
  .next (s.request link 0x0E#8 payload handleReadMotion)

/-- READ_WIND (R133). -/
def execReadWind (link : Link) (payload : List Byte) (s : State) : Outcome State Fault Refusal :=
  .next (s.request link 0x0F#8 payload handleReadWind)

/-- SET_ITEM (R195). -/
def execSetItem (link : Link) (payload : List Byte) (s : State) : Outcome State Fault Refusal :=
  .next (s.request link 0x10#8 payload handleSetItem)

/-- GET_ITEM (R178). -/
def execGetItem (link : Link) (payload : List Byte) (s : State) : Outcome State Fault Refusal :=
  .next (s.request link 0x11#8 payload handleGetItem)

/-- STORE_ITEMS (R196). -/
def execStoreItems (link : Link) (payload : List Byte) (s : State) : Outcome State Fault Refusal :=
  .next (s.request link 0x12#8 payload handleStoreItems)

/-- SET_REFERENCE (R49). -/
def execSetReference (link : Link) (payload : List Byte) (s : State) : Outcome State Fault Refusal :=
  .next (s.request link 0x13#8 payload handleSetReference)

/-- SET_NOTICE_MASK (R192). -/
def execSetNoticeMask (link : Link) (payload : List Byte) (s : State) : Outcome State Fault Refusal :=
  .next (s.request link 0x14#8 payload handleSetNoticeMask)

/-- POST_NOTICE (R189). -/
def execPostNotice (link : Link) (payload : List Byte) (s : State) : Outcome State Fault Refusal :=
  .next (s.request link 0x15#8 payload handlePostNotice)

/-- PARK (R148). -/
def execPark (link : Link) (payload : List Byte) (s : State) : Outcome State Fault Refusal :=
  .next (s.request link 0x16#8 payload handlePark)

/-- RESTART (R199). -/
def execRestart (link : Link) (payload : List Byte) (s : State) : Outcome State Fault Refusal :=
  .next (s.request link 0x17#8 payload handleRestart)

/-- CLAIM (R183). -/
def execClaim (link : Link) (payload : List Byte) (s : State) : Outcome State Fault Refusal :=
  .next (s.request link 0x18#8 payload handleClaim)

/-- RELEASE (R184). -/
def execRelease (link : Link) (payload : List Byte) (s : State) : Outcome State Fault Refusal :=
  .next (s.request link 0x19#8 payload handleRelease)

/-- UNKNOWN_KIND (R170): a frame whose KIND is no request code; its reply carries the same KIND with bit 7
set. -/
def execUnknownKind (link : Link) (kind : Byte) (payload : List Byte) (s : State) : Outcome State Fault Refusal :=
  .next (s.request link kind payload handleUnknown)

end Sys2Proof.Machine
end

