-- ==== Sys2Proof/Machine/RoomCommands.lean ====
section
/-! DEFINITION. The commands of the Slide Drive Controller: hall pulses, ticks and timers of the rooms. -/

namespace Sys2Proof.Machine

open Host (Outcome)

/-- ROOM_HALL_PULSE (R89). -/
def execRoomHallPulse (channel : Channel) (s : State) : Outcome State Fault Refusal :=
  .next (s.roomPulse (channelRoom channel) (channelMotor channel)).settle

/-- ROOM_TICK (R97). -/
def execRoomTick (room : Room) (ampsA ampsB : Nat) (s : State) : Outcome State Fault Refusal :=
  .next (s.tickRoom room ampsA ampsB).settle

/-- ROOM_BREAKAWAY_EXPIRY (R98): the operation's timer, or that of a motor started later. -/
def execRoomBreakawayExpiry (room : Room) (late : Bool) (s : State) : Outcome State Fault Refusal :=
  .next
    (if late then (if (s.roomUnit room).lateTimer.isSome then (s.lateBreakawayExpired room).settle else s)
     else if (s.roomUnit room).breakTimer.isSome then (s.breakawayExpired room).settle
     else s)

/-- ROOM_STALL_WINDOW_EXPIRY (R100). -/
def execRoomStallWindowExpiry (room : Room) (s : State) : Outcome State Fault Refusal :=
  .next (if (s.roomUnit room).stallTimer.isSome then (s.stallExpired room).settle else s)

/-- ROOM_JOG_TIMER_EXPIRY (R109). -/
def execRoomJogTimerExpiry (room : Room) (s : State) : Outcome State Fault Refusal :=
  .next (if (s.roomUnit room).jogTimer.isSome then (s.roomJogExpired room).settle else s)

/-- ROOM_COAST_EXPIRY (R104). -/
def execRoomCoastExpiry (channel : Channel) (s : State) : Outcome State Fault Refusal :=
  .next
    (if (s.motor (.room (channelRoom channel) (channelMotor channel))).coast.isSome
     then (s.roomCoastExpired (channelRoom channel) (channelMotor channel)).settle else s)

end Sys2Proof.Machine
end

