-- ==== Sys2Proof/Machine/SupplyCommands.lean ====
section
/-! DEFINITION. The commands of the Start Arbiter's timers and supply monitor, and the two measurements the
Notice Unit keeps (die temperature, bridge faults). -/

namespace Sys2Proof.Machine

open Host (Outcome)

/-- STAGGER_EXPIRY (R34): the timer stops and the head is examined. -/
def execStaggerExpiry (s : State) : Outcome State Fault Refusal :=
  .next (if s.sta.stagger.isSome then { s with sta := { s.sta with stagger := none } }.settle else s)

/-- SUPPLY_SAMPLE (R35), awake or parked. -/
def execSupplySample (tenths : Nat) (s : State) : Outcome State Fault Refusal := .next (s.sampleSupply tenths).settle

/-- HOLD_TIMER_EXPIRY (R36). -/
def execHoldTimerExpiry (s : State) : Outcome State Fault Refusal :=
  .next (if s.sta.holdTimer.isSome then s.holdTimerExpired.settle else s)

/-- The THERMAL mark after a temperature (R190): set above 125, cleared below 115. -/
def thermalMark (old : Bool) (celsius : Int) : Bool := holdFlag old (decide (125 < celsius)) (decide (celsius < 115))

/-- THERMAL_SAMPLE (R190), awake or parked. -/
def execThermalSample (celsius : Int) (s : State) : Outcome State Fault Refusal :=
  .next { s with ntu := { s.ntu with thermal := thermalMark s.ntu.thermal celsius } }.sync

/-- A bridge fault input that is watched (R88, R116, R190): a configured motor channel, or the pump driver. -/
def State.bridgeWatched (s : State) (c : Fin 10) : Bool :=
  if h : c.val < 8 then
    s.items.configured (.room (channelRoom ⟨c.val, h⟩))
      && (s.items.motors (channelRoom ⟨c.val, h⟩)).contains (channelMotor ⟨c.val, h⟩)
  else if c.val = 8 then s.items.awn.present
  else true

/-- The ten bridge fault inputs, in order. -/
def bridgeNumbers : List (Fin 10) := [0, 1, 2, 3, 4, 5, 6, 7, 8, 9]

/-- BRIDGE_FAULT_SAMPLE (R190), while awake. -/
def execBridgeFaultSample (asserted : Bank Bool 10) (s : State) : Outcome State Fault Refusal :=
  .next
    (if s.inm.parked then s
     else
       { s with ntu := { s.ntu with
           bridges := bitsOf 16 (bridgeNumbers.map (fun c => asserted.get c && s.bridgeWatched c)) } }.sync)

end Sys2Proof.Machine
end

