-- ==== Sys2Proof/Machine/Dispatch.lean ====
section
/-! DEFINITION. One arm for each command of the table: its meaning. -/

namespace Sys2Proof.Machine

/-- The effect of a command on everything but the queue. -/
def exec (i : Instr) (s : State) : Host.Outcome State Fault Refusal :=
  match i with
  | .ident link payload => Sys2Proof.Machine.execIdent link payload s
  | .status link payload => Sys2Proof.Machine.execStatus link payload s
  | .submit link payload => Sys2Proof.Machine.execSubmit link payload s
  | .stop link payload => Sys2Proof.Machine.execStop link payload s
  | .haltAll link payload => Sys2Proof.Machine.execHaltAll link payload s
  | .resume link payload => Sys2Proof.Machine.execResume link payload s
  | .dismiss link payload => Sys2Proof.Machine.execDismiss link payload s
  | .readOp link payload => Sys2Proof.Machine.execReadOp link payload s
  | .listOps link payload => Sys2Proof.Machine.execListOps link payload s
  | .readChanges link payload => Sys2Proof.Machine.execReadChanges link payload s
  | .readFaults link payload => Sys2Proof.Machine.execReadFaults link payload s
  | .readAttitude link payload => Sys2Proof.Machine.execReadAttitude link payload s
  | .readInputs link payload => Sys2Proof.Machine.execReadInputs link payload s
  | .readMotion link payload => Sys2Proof.Machine.execReadMotion link payload s
  | .readWind link payload => Sys2Proof.Machine.execReadWind link payload s
  | .setItem link payload => Sys2Proof.Machine.execSetItem link payload s
  | .getItem link payload => Sys2Proof.Machine.execGetItem link payload s
  | .storeItems link payload => Sys2Proof.Machine.execStoreItems link payload s
  | .setReference link payload => Sys2Proof.Machine.execSetReference link payload s
  | .setNoticeMask link payload => Sys2Proof.Machine.execSetNoticeMask link payload s
  | .postNotice link payload => Sys2Proof.Machine.execPostNotice link payload s
  | .park link payload => Sys2Proof.Machine.execPark link payload s
  | .restart link payload => Sys2Proof.Machine.execRestart link payload s
  | .claim link payload => Sys2Proof.Machine.execClaim link payload s
  | .release link payload => Sys2Proof.Machine.execRelease link payload s
  | .receiveByte link byte => Sys2Proof.Machine.execReceiveByte link byte s
  | .gapTimerExpiry link => Sys2Proof.Machine.execGapTimerExpiry link s
  | .wakeOnFrameStart link => Sys2Proof.Machine.execWakeOnFrameStart link s
  | .replySent link => Sys2Proof.Machine.execReplySent link s
  | .reset cause => Sys2Proof.Machine.execReset cause s
  | .storeEnd readBack => Sys2Proof.Machine.execStoreEnd readBack s
  | .watchdogExpiry => Sys2Proof.Machine.execWatchdogExpiry s
  | .serviceSilenceExpiry => Sys2Proof.Machine.execServiceSilenceExpiry s
  | .staggerExpiry => Sys2Proof.Machine.execStaggerExpiry s
  | .supplySample tenths => Sys2Proof.Machine.execSupplySample tenths s
  | .holdTimerExpiry => Sys2Proof.Machine.execHoldTimerExpiry s
  | .attitudeSample ready a b => Sys2Proof.Machine.execAttitudeSample ready a b s
  | .driftTimerExpiry => Sys2Proof.Machine.execDriftTimerExpiry s
  | .jackSample readings => Sys2Proof.Machine.execJackSample readings s
  | .contactTimerExpiry jack => Sys2Proof.Machine.execContactTimerExpiry jack s
  | .pumpRampTick => Sys2Proof.Machine.execPumpRampTick s
  | .groundTimerExpiry => Sys2Proof.Machine.execGroundTimerExpiry s
  | .settleTimerExpiry => Sys2Proof.Machine.execSettleTimerExpiry s
  | .liftTimerExpiry => Sys2Proof.Machine.execLiftTimerExpiry s
  | .touchdownTimerExpiry => Sys2Proof.Machine.execTouchdownTimerExpiry s
  | .stowTimerExpiry => Sys2Proof.Machine.execStowTimerExpiry s
  | .jackJogTimerExpiry => Sys2Proof.Machine.execJackJogTimerExpiry s
  | .roomHallPulse channel => Sys2Proof.Machine.execRoomHallPulse channel s
  | .roomTick room ampsA ampsB => Sys2Proof.Machine.execRoomTick room ampsA ampsB s
  | .roomBreakawayExpiry room late => Sys2Proof.Machine.execRoomBreakawayExpiry room late s
  | .roomStallWindowExpiry room => Sys2Proof.Machine.execRoomStallWindowExpiry room s
  | .roomJogTimerExpiry room => Sys2Proof.Machine.execRoomJogTimerExpiry room s
  | .roomCoastExpiry channel => Sys2Proof.Machine.execRoomCoastExpiry channel s
  | .awningHallPulse => Sys2Proof.Machine.execAwningHallPulse s
  | .awningTick amps => Sys2Proof.Machine.execAwningTick amps s
  | .awningBreakawayExpiry => Sys2Proof.Machine.execAwningBreakawayExpiry s
  | .awningStallWindowExpiry => Sys2Proof.Machine.execAwningStallWindowExpiry s
  | .awningJogTimerExpiry => Sys2Proof.Machine.execAwningJogTimerExpiry s
  | .awningCoastExpiry => Sys2Proof.Machine.execAwningCoastExpiry s
  | .windPulse => Sys2Proof.Machine.execWindPulse s
  | .windGateEnd => Sys2Proof.Machine.execWindGateEnd s
  | .lockoutExpiry => Sys2Proof.Machine.execLockoutExpiry s
  | .inputSample levels => Sys2Proof.Machine.execInputSample levels s
  | .debounceExpiry input => Sys2Proof.Machine.execDebounceExpiry input s
  | .firstDebounceExpiry input => Sys2Proof.Machine.execFirstDebounceExpiry input s
  | .faultTimerExpiry input => Sys2Proof.Machine.execFaultTimerExpiry input s
  | .idleTimerExpiry => Sys2Proof.Machine.execIdleTimerExpiry s
  | .parkPoll levels => Sys2Proof.Machine.execParkPoll levels s
  | .thermalSample celsius => Sys2Proof.Machine.execThermalSample celsius s
  | .bridgeFaultSample asserted => Sys2Proof.Machine.execBridgeFaultSample asserted s
  | .unknownKind link kind payload => Sys2Proof.Machine.execUnknownKind link kind payload s

end Sys2Proof.Machine
end

