-- ==== Sys2Proof/Machine/Step.lean ====
section
/-! DEFINITION. One step: the command at the front of the queue, and on an empty queue the clock. -/

namespace Sys2Proof.Machine

/-- One step of the block: the command at the front of the queue acts with the queue's rest waiting. On an
empty queue the first timer that is due expires, and where none is due the clock moves on by 1 ms (log
entry 10). -/
def step (s : State) : Host.Outcome State Fault Refusal :=
  match s.pending with
  | c :: rest => exec c { s with pending := rest }
  | [] =>
    match s.dueCommand with
    | some c => exec c s
    | none => .next s.tick

/-- The state with the command a word spells put at the front of its queue, unchanged where it spells
none. -/
def State.withFetchWord (s : State) (nbits w : Nat) : State :=
  match decodeTableWord nbits w with
  | some c => { s with pending := c :: s.pending }
  | none => s

end Sys2Proof.Machine
end

