-- ==== Sys2Proof/Safety.lean ====
section
/-! DEFINITION. The terms in which statements about the FG640 are put: the attention pins in step, states in
which an event's end moves nothing, what the end of an event brings up to date, what an examination of the
queue and a grant leave, and a link that takes frames. -/

namespace Sys2Proof.Machine

/-! ### The two attention outputs -/

/-- NOTE_N and ALARM stand as R192 and R193 give them for the present state. -/
abbrev State.pinsExact (s : State) : Prop := s.ntu.noteN = s.noteDue ∧ s.ntu.alarm = s.alarmDue

/-! ### Records by state -/

/-- No operation waits in ADMITTED. -/
abbrev State.noneWaiting (s : State) : Prop := ∀ sl, ∀ o ∈ s.opAt sl, o.state.isAdmitted = false

/-- Every RUNNING operation is of a group that satisfies `p`. -/
abbrev State.runsOnly (s : State) (p : Group → Bool) : Prop :=
  ∀ sl, ∀ o ∈ s.opAt sl, o.state.isRunning = true → p o.job.group = true

/-- Every record in the table has ended. -/
abbrev State.allEnded (s : State) : Prop := ∀ sl, ∀ o ∈ s.opAt sl, o.state.isEnded = true

/-- No two non-ended operations are of one group (R10). -/
abbrev State.onePerGroup (s : State) : Prop :=
  ∀ sl k, ∀ o ∈ s.opAt sl, ∀ p ∈ s.opAt k,
    o.state.isEnded = false → p.state.isEnded = false → o.job.group = p.job.group → sl = k

/-! ### The waiting queue -/

/-- The queue is as an examination leaves it (R30, R31): its head is ADMITTED under the first test it fails, and every
entry behind it waits with QUEUE. -/
def State.headWaits (s : State) : Prop :=
  ∀ sl behind, s.sta.queue = sl :: behind →
    (∃ o w, s.opAt sl = some o ∧ o.state = .admitted w ∧ s.blockedBy o = some w)
    ∧ ∀ k ∈ behind, ∃ o, s.opAt k = some o ∧ o.state = .admitted .queue

/-! ### Invariants -/

/-- The reservations of the RUNNING and STOPPING operations that satisfy `p`, added up (R27). -/
def State.reserved (s : State) (p : Op → Bool) : Nat :=
  (slots.map (fun sl =>
    match s.opAt sl with
    | some o => if o.state.active && p o then o.reservation else 0
    | none => 0)).sum

/-- The claims law for one group (R183): a claimed group holds no non-ended operation of the host; a pending one
holds such operations, all of them in STOPPING toward an end. -/
def State.claimLaw (s : State) (g : Group) : Prop :=
  (s.claimOf g = .claimed → s.hostBusy g = false)
  ∧ (s.claimOf g = .pending → s.hostBusy g = true
    ∧ ∀ sl, ∀ o ∈ s.opAt sl, o.job.group = g → o.claimable = true → o.state.isEnded = false →
      ∃ r ph, o.state = .stopping (.ended r) ph)

/-- The books of the part agree with each other: the Operation Table with its ended list and tags, the Arbiter's
sums and queue with the table, the claims map with the table, and the frame buffers with what the LIU may take. -/
structure State.Books (s : State) : Prop where
  /-- R4: a tag in use names one record. -/
  tags : ∀ sl k, ∀ o ∈ s.opAt sl, ∀ p ∈ s.opAt k, o.tag = p.tag → sl = k
  /-- R4: the internal tag counter lies within 240..255. -/
  counter : 240 ≤ s.opt.internalTag ∧ s.opt.internalTag ≤ 255
  /-- R1, R5, R7: the ended list holds the tag of every ENDED record, each once, and no other. -/
  ended : s.opt.endedList.Nodup
    ∧ ∀ x, x ∈ s.opt.endedList ↔ ∃ sl o, s.opAt sl = some o ∧ o.state.isEnded = true ∧ o.tag = x
  /-- R10: at most one non-ended operation of each group, at most three of class NORMAL. -/
  groups : s.onePerGroup
  normal : s.normalCount ≤ 3
  /-- R9: a record's kind belongs to its group. -/
  kinds : ∀ sl, ∀ o ∈ s.opAt sl, o.job.kind.fits o.job.group = true
  /-- R27: the two sums are those of the RUNNING and STOPPING operations, and stay within the budget. -/
  sums : s.sta.resSum = s.reserved (fun _ => true) ∧ s.sta.normalSum = s.reserved (fun o => o.opClass == .normal)
  budget : s.sta.resSum ≤ s.items.supply.budgetLimit ∧ s.sta.normalSum ≤ s.items.normalBudget
  /-- R29: the waiting queue holds every ADMITTED operation, each once, and no other; SAFETY stands ahead of NORMAL. -/
  queue : s.sta.queue.Nodup ∧ ∀ sl, sl ∈ s.sta.queue ↔ ∃ o, s.opAt sl = some o ∧ o.state.isAdmitted = true
  order : s.sta.queue.Pairwise (fun x y =>
    ∀ o p, s.opAt x = some o → s.opAt y = some p → p.opClass = .safety → o.opClass = .safety)
  /-- R30: the head waits under the first test it fails, and every entry behind it with QUEUE. -/
  examined : s.headWaits
  /-- R33: no JACKS and room operation move at once. -/
  frame : (s.jacksMoving && s.roomMoving) = false
  /-- R183. -/
  claims : ∀ g, s.claimLaw g
  /-- R169: two frames at most wait in a buffer, and none while the LIU may take one of its link. -/
  buffers : ∀ l, (s.link l).buffer.length ≤ 2 ∧ (s.mayTake l = true → (s.link l).buffer = [])

/-- No output of the part is energised: no motor is driven, no valve is open, the pump is off. -/
def State.deEnergised (s : State) : Prop :=
  (∀ n m, ((s.roomUnit n).motor m).driven = false) ∧ s.awu.motor.driven = false
  ∧ s.lvc.pump = 0 ∧ ∀ j, (s.jack j).extending = false ∧ (s.jack j).retracting = false

/-- The outputs are energised only as the interlocks allow. -/
structure State.Guarded (s : State) : Prop where
  /-- R88: a room's motor is driven only while an operation of the room is RUNNING or STOPPING. -/
  rooms : ∀ n m, ((s.roomUnit n).motor m).driven = true → (s.activeOp (.room n)).isSome = true
  /-- R116, R121: the awning's motor is driven only while an operation of AWNING is RUNNING or STOPPING, and in its
  direction. -/
  awning : s.awu.motor.driven = true → ∃ sl o, s.activeOp .awning = some (sl, o) ∧ s.awu.motor.dir = some (s.awningDir o)
  /-- R119: the awning's ramped duty is 0 while its motor is not driven. -/
  duty : s.awu.motor.driven = false → s.awu.ramped = 0
  /-- R59, R144: a valve is open or the pump on only while a JACKS operation is RUNNING or STOPPING. -/
  jacks : (s.lvc.pump ≠ 0 ∨ ∃ j, (s.jack j).extending = true ∨ (s.jack j).retracting = true) →
    (s.activeOp .jacks).isSome = true
  /-- R60: a pending end of JACKS waits for the pump only while its operation is RUNNING. -/
  pend : s.lvc.pend.isSome = true → (s.runningOp .jacks).isSome = true
  /-- R83: a retract valve is open only for a RUNNING operation that retracts, and only while every configured room is
  IN, but for SERVICE origin with OVERRIDE. -/
  retract : ∀ j, (s.jack j).retracting = true → ∃ sl o, s.runningOp .jacks = some (sl, o) ∧ s.lvc.pend = none
    ∧ o.retracts = true ∧ (o.job.exempt = true ∨ s.someRoomOut = false)
  /-- R130: the awning's motor is never driven outward while the lockout runs or the trigger is present. -/
  wind : s.awu.motor.driven = true → s.awu.motor.dir = some .outward → s.windBars = false
  /-- R160: a stop-at-edge order is recorded only against a RUNNING or STOPPING operation of class NORMAL. -/
  orders : ∀ g, s.clm.ordered.get g.idx = true → ∃ sl o, s.activeOp g = some (sl, o) ∧ o.opClass = .normal
  /-- R142, R145: awake, the coach condition record is that of the present inputs and conditions. -/
  coach : s.inm.parked = false → s.inm.coach = s.coachNow
  /-- R144: while the E-stop reads stop every operation has ended and no output is energised. -/
  eStop : s.inm.coach.eStop = .stop ∨ s.eStopNow = .stop → s.allEnded ∧ s.deEnergised
  /-- R8: before start-up has ended no operation is non-ended. -/
  startUp : s.inm.notReady = true → s.allEnded
  /-- R136: start-up ends only once every sampled input has completed its first debounce. -/
  ready : s.inm.notReady = false → ∀ i, s.funcOf i ≠ .none → (s.input i).firstDone = true
  /-- R147, R149, R179: no operation is non-ended while the idle timer runs or the part is parked; parked, the drift
  timer and the watchdog are stopped and no frame waits. -/
  idle : s.inm.idleTimer.isSome = true → s.allEnded
  parked : s.inm.parked = true → s.allEnded ∧ s.atu.drift = none ∧ s.liu.watchdog = none ∧ ∀ l, (s.link l).buffer = []

/-! ### The end of an event -/

/-- A state whose motions the end of an event leaves alone: no clearance entry is enabled, or no room and no
awning operation runs; every room is home, or no JACKS operation runs. -/
structure State.Undisturbed (s : State) : Prop where
  edges : (∀ k, (s.entryItem k).enabled = false) ∨ s.runsOnly (fun g => g == .jacks)
  retract : s.someRoomOut = false ∨ s.runsOnly (fun g => !(g == .jacks))

/-- A state in which the end of an event starts, stops and orders nothing: undisturbed, and no operation
waits. -/
structure State.Calm (s : State) : Prop extends s.Undisturbed where
  waiting : s.noneWaiting

/-- The head of the queue fails a test, with this wait reason as its first (R31). -/
abbrev State.headBlocked (s : State) (sl : Slot) (o : Op) (w : WaitReason) : Prop :=
  s.sta.queue = [sl] ∧ s.opAt sl = some o ∧ o.state.isAdmitted = true ∧ s.blockedBy o = some w

/-- What the fault record and the two pins hold at the end of an event that left `u` (R190, R192, R193): marks
are only added, a new mark raises FAULT on both links and nothing else in the change sets moves. -/
structure NoticesFollow (u t : State) : Prop where
  mask : t.ntu.mask = u.ntu.mask
  measured : t.ntu.thermal = u.ntu.thermal ∧ t.ntu.bridges = u.ntu.bridges
  cause : t.ntu.faults.cause = u.ntu.faults.cause
  latched : t.ntu.faults.latched ||| u.ntu.faults.latched = t.ntu.faults.latched
  present : t.ntu.faults.present = t.presentNow
  members : t.ntu.faults.now = t.detailsNow
  details : t.ntu.faults.since = u.ntu.faults.since.join t.detailsNow
  sets : (t.ntu.coach = u.ntu.coach ∧ t.ntu.service = u.ntu.service ∧ t.ntu.faults.latched = u.ntu.faults.latched)
    ∨ (t.ntu.coach = u.ntu.coach.raise .fault ∧ t.ntu.service = u.ntu.service.raise .fault)
  pins : t.pinsExact

/-- `t` is `u` with its fault record and pins brought up to date, everything else as it stood. -/
structure FaultsFollow (u t : State) : Prop where
  frame : t = { u with ntu := t.ntu }
  notices : NoticesFollow u t

/-- `t` is `u` with what follows from an event brought up to date, and everything else as it stood: the drift
timer (R51), the coach condition record (R142), idle and its timer (R147), the two flags of each clearance
entry (R157, R158, and where these leave a choice log entries 55 and 56), the fault record and the pins. -/
structure Follows (u t : State) : Prop where
  queue : t.pending = u.pending ∧ t.now = u.now ∧ t.draws = u.draws
  table : t.opt = u.opt
  arbiter : t.sta = u.sta
  attitude : t.atu = { u.atu with drift := if u.watching then u.atu.drift else none }
  jacks : t.lvc = u.lvc
  rooms : t.sdc = u.sdc
  awning : t.awu = u.awu
  wind : t.wind = u.wind
  links : t.liu = u.liu
  items : t.ist = u.ist
  inputs : t.inm = { u.inm with coach := t.inm.coach, idle := t.inm.idle, idleTimer := t.inm.idleTimer }
  coach : t.inm.coach = if u.inm.parked then u.inm.coach else u.coachNow
  idle : t.inm.idle = u.idleNow
  orders : t.clm.ordered = u.clm.ordered
  judged : ∀ k, (t.entryUnit k).lastA = (u.entryUnit k).lastA ∧ (t.entryUnit k).lastB = (u.entryUnit k).lastB
  flags : u.inm.notReady = false →
    ∀ k, (t.entryUnit k).active = u.activeNow (u.entryItem k) ∧ (t.entryUnit k).inside = u.insideNow (u.entryItem k)
  notices : NoticesFollow u t

/-- A state whose examination reaches the operations in its queue alone: no clearance entry is enabled, and a room that
fails at its grant cancels nothing else (R113). -/
structure State.Plain (s : State) : Prop extends s.Undisturbed where
  entries : ∀ k, (s.entryItem k).enabled = false
  peers : s.items.room.faultAction = .room

/-! ### Blocks left as they are -/

/-- The kinds of state a frame speaks of: the blocks of the manual, the claims map apart from the links and the order
records (R160) apart from the last judged positions of the clearance entries. -/
inductive Block where
  | table
  | arbiter
  | attitude
  | jacks
  | rooms
  | awning
  | wind
  | inputs
  | clearance
  | orders
  | links
  | claims
  | items
deriving DecidableEq, Repr

/-- A block stands in `t` as it stood in `s`. What the end of any event may bring up to date is left aside: the
drift timer, the coach condition record, idle and its timer, and the two flags of each clearance entry (`Follows`). -/
def State.keeps (s t : State) : Block → Prop
  | .table => t.opt = s.opt
  | .arbiter => t.sta = s.sta
  | .attitude => t.atu = { s.atu with drift := t.atu.drift }
  | .jacks => t.lvc = s.lvc
  | .rooms => t.sdc = s.sdc
  | .awning => t.awu = s.awu
  | .wind => t.wind = s.wind
  | .inputs => t.inm = { s.inm with coach := t.inm.coach, idle := t.inm.idle, idleTimer := t.inm.idleTimer }
  | .orders => t.clm.ordered = s.clm.ordered
  | .clearance => ∀ k, (t.entryUnit k).lastA = (s.entryUnit k).lastA ∧ (t.entryUnit k).lastB = (s.entryUnit k).lastB
  | .links => t.liu = { s.liu with claims := t.liu.claims }
  | .claims => t.liu.claims = s.liu.claims
  | .items => t.ist = s.ist

/-- Every block but those listed stands as it stood, and so do the queue of commands and the clock. -/
def State.keepsBut (s t : State) (l : List Block) : Prop :=
  (∀ b, b ∉ l → s.keeps t b) ∧ t.pending = s.pending ∧ t.now = s.now

/-! ### Grants -/

/-- What the examination of the queue of `u` leaves (R30 to R34). Heads are granted from the front as long as they pass:
none where the first fails, one alone where the stagger time is not 0; each runs or has ended, and each starts the stagger
timer. The rest wait, the head with its reason and those behind it with QUEUE; no other record moves. -/
structure Examined (u t : State) : Prop where
  grants : ∃ granted, u.sta.queue = granted ++ t.sta.queue
    ∧ (granted ≠ [] ↔ ∃ sl o, u.sta.queue.head? = some sl ∧ u.opAt sl = some o ∧ u.blockedBy o = none)
    ∧ (u.items.supply.staggerTime ≠ 0 → granted.length ≤ 1)
    ∧ (∀ sl ∈ granted, ∃ o st, u.opAt sl = some o ∧ t.opAt sl = some { o with state := st, resumed := false }
        ∧ (st.isRunning = true ∨ st.isEnded = true))
    ∧ t.sta.stagger = if granted = [] ∨ u.items.supply.staggerTime = 0 then u.sta.stagger
        else some (u.now + u.items.supply.staggerTime)
  head : t.headWaits
  waiting : ∀ sl ∈ t.sta.queue, ∃ o w, u.opAt sl = some o ∧ t.opAt sl = some { o with state := .admitted w }
  others : ∀ sl, sl ∉ u.sta.queue → t.opAt sl = u.opAt sl

/-- The granted operation `o`, at the head of the queue of `u`, runs in a phase (R27, R32, R34): its reservation is added,
the stagger timer started, and beside the table and the Arbiter only the blocks listed may have changed. -/
structure GrantRuns (u t : State) (sl : Slot) (o : Op) (ph : Phase) (held : List Block) : Prop where
  record : t.opAt sl = some { o with state := .running (some ph), resumed := false }
  others : ∀ k, k ∉ u.sta.queue → t.opAt k = u.opAt k
  arbiter : t.sta = { u.sta with
    queue := u.sta.queue.tail, resSum := u.sta.resSum + o.reservation
    normalSum := if o.opClass = OpClass.normal then u.sta.normalSum + o.reservation else u.sta.normalSum
    stagger := if u.items.supply.staggerTime = 0 then u.sta.stagger else some (u.now + u.items.supply.staggerTime) }
  rest : u.keepsBut t ([.table, .arbiter] ++ held)

/-- The granted operation `o` ends in its grant's event (R32): its reservation is given back, the stagger timer runs on,
and no output is energised. -/
structure GrantEnds (u t : State) (sl : Slot) (o : Op) (r : Result) : Prop where
  record : ∃ rem, t.opAt sl = some { o with state := .ended r rem (u.opt.ends + 1), resumed := false }
  others : ∀ k, k ∉ u.sta.queue → t.opAt k = u.opAt k
  ends : t.opt.ends = u.opt.ends + 1
  arbiter : t.sta = { u.sta with
    queue := u.sta.queue.tail
    stagger := if u.items.supply.staggerTime = 0 then u.sta.stagger else some (u.now + u.items.supply.staggerTime) }
  motors : ∀ n m, ((t.roomUnit n).motor m).driven = ((u.roomUnit n).motor m).driven
  awning : t.awu.motor.driven = u.awu.motor.driven
  pump : t.lvc.pump = u.lvc.pump
  valves : ∀ j, ((t.jack j).extending = true → (u.jack j).extending = true)
    ∧ ((t.jack j).retracting = true → (u.jack j).retracting = true)

/-- A motor as a start leaves it (R98, R122). -/
def Motor.startedAs (d : Dir) (duty : Nat) (y : Motor) : Motor :=
  { y with dir := some d, driven := true, coast := none, applied := duty, run := 0, tally := 0, pulsed := false
           started := true, late := false, atEnd := false }

/-- What the grant of a room operation leaves (R95, R98, R99, R108, R109, R113): its motors started at the breakaway duty,
both or, out of step inward, the one further out, CREEP and the RUN of an unreferenced room kept through a hold; out of step
outward FAILED(SYNC), said for a slide_fault_action of ROOM; COMPLETE for a resumed operation that needs no motion. -/
def State.GrantsRoom (u t : State) (n : Room) (sl : Slot) (o : Op) : Prop :=
  let r := u.roomUnit n
  let p := u.roomProfile
  let d := o.job.roomDir
  let two := u.items.room.motors.get n = 2
  let apart := two ∧ u.items.room.syncLimit < r.spread
  let moves := fun (a b : Motor) =>
    GrantRuns u t sl o (if o.job.kind = .roomJog then .move else .breakaway) [.rooms]
    ∧ (∀ k, k ≠ n → t.roomUnit k = u.roomUnit k)
    ∧ t.roomUnit n = { r with
        a := a, b := b, ramped := p.breakawayDuty, breaking := true, lateTimer := none
        breakTimer := some (u.now + p.breakawayTime), stallTimer := some (u.now + p.stallWindow)
        jogTimer := if o.job.kind = OpKind.roomJog then some (u.now + o.job.value.getD 0) else none, pend := none
        creeping := o.resumed && r.creeping, blind := !r.referenced || o.resumed && r.blind }
  let started := Motor.startedAs d p.breakawayDuty
  let idle := o.resumed = true ∧ u.roomIdleJob n o.job = true
  (idle → GrantEnds u t sl o .complete)
  ∧ (¬ idle → ¬ apart → (two → moves (started r.a) (started r.b)) ∧ (¬ two → moves (started r.a) r.b))
  ∧ (¬ idle → apart → d = .inward →
      (r.b.count < r.a.count → moves (started r.a) r.b) ∧ (r.a.count ≤ r.b.count → moves r.a (started r.b)))
  ∧ (¬ idle → apart → d = .outward → u.items.room.faultAction = .room → GrantEnds u t sl o (.failed .sync))

/-- What the grant of a JACKS operation leaves (R62, R65, R66, R81 to R86): LEVELLED clear and the pump's duty as it is. A
retracting kind with a room not IN ends CANCELLED(INTERLOCK), but for SERVICE origin with OVERRIDE; a resumed operation that
needs no motion ends COMPLETE (of a GROUND or a JACK_JOG the model's choice, log entry 44). Otherwise a LEVEL or GROUND opens
the extend valves of the jacks not in contact, so that the pump's demand is 1000, or begins SETTLE with every jack in contact
or where it resumes after GROUND; a JACKS_STOW opens the retract valves of the jacks not up, a JACK_JOG its jack's valve. -/
def State.GrantsJacks (u t : State) (sl : Slot) (o : Op) : Prop :=
  let out := ∃ n ∈ u.items.rooms, u.roomCondition n ≠ .inside
  let retracts := o.job.kind = .jacksStow ∨ o.job.kind = .jackJog ∧ o.job.dir = some .inward
  let barred := retracts ∧ ¬ (o.job.origin = .service ∧ o.job.override = true) ∧ out
  let idle := o.resumed = true ∧ u.jacksIdleJob o.job = true
  let settles := o.job.kind = .level ∧ o.resumed = true ∧ u.lvc.groundDone = true
  let runs := fun (ph : Phase) => GrantRuns u t sl o ph [.jacks]
  let settled := runs .settle
    ∧ t.lvc.timers = { JackTimers.stopped with
        settle := if u.lvc.pump = 0 then some (u.now + u.items.jack.settleTime * 1000) else none }
    ∧ (∀ j, (t.jack j).extending = false ∧ (t.jack j).retracting = false)
  t.lvc.levelled = false ∧ t.lvc.pump = u.lvc.pump
  ∧ (barred → GrantEnds u t sl o (.cancelled .interlock))
  ∧ (¬ barred → idle → GrantEnds u t sl o .complete)
  ∧ (¬ barred → ¬ idle →
    (settles → settled)
    ∧ (o.job.kind = .ground ∨ o.job.kind = .level ∧ ¬ settles →
      ((∃ j ∈ u.items.jacks, (u.jack j).contact = false) →
        runs .ground ∧ t.pumpDemand = 1000 ∧ t.lvc.groundDone = false
        ∧ t.lvc.timers = { JackTimers.stopped with ground := some (u.now + u.items.jack.groundTimeout * 1000) }
        ∧ ∀ j ∈ u.items.jacks, (t.jack j).goal = (u.jack j).contact ∧ (t.jack j).extending = !(u.jack j).contact)
      ∧ ((∀ j ∈ u.items.jacks, (u.jack j).contact = true) → settled))
    ∧ (o.job.kind = .jacksStow → (∃ j ∈ u.items.jacks, u.shut (.jackUp j) = false) →
      runs .move
      ∧ t.lvc.timers = { JackTimers.stopped with stow := some (u.now + u.items.jack.stowTimeout * 1000) }
      ∧ ∀ j, ((t.jack j).retracting = true
        ↔ (u.jack j).retracting = true ∨ j ∈ u.items.jacks ∧ u.shut (.jackUp j) = false))
    ∧ (∀ j, o.job.kind = .jackJog → o.job.sub = some j →
      runs .move
      ∧ t.lvc.timers = { JackTimers.stopped with jog := some (u.now + o.job.value.getD 0) }
      ∧ (o.job.dir = some .outward → (t.jack j).extending = true ∧ (t.jack j).retracting = (u.jack j).retracting)
      ∧ (o.job.dir ≠ some .outward → (t.jack j).retracting = true ∧ (t.jack j).extending = (u.jack j).extending)
      ∧ ∀ k, k ≠ j → t.jack k = u.jack k))

/-- What the grant of an awning operation leaves (R121, R122, R130): its motor started in its direction, inward for a stow,
that of an AWNING_SET fixed again after a RESUME, an entered creep window kept through a hold; CANCELLED(INTERLOCK) outward
while the lockout runs or a trigger is present; COMPLETE for a resumed operation that needs no motion. -/
def State.GrantsAwning (u t : State) (sl : Slot) (o : Op) : Prop :=
  let p := u.awningProfile
  let set := o.job.kind = .awningSet
  let target := o.job.value.getD 0 * u.items.awn.travel / 1000
  let idle := o.resumed = true ∧ u.awningIdleJob o.job = true
  let again := set ∧ o.resumed = true
  let fixed := if o.resumed = true then (if u.awu.motor.count < target then Dir.outward else .inward)
    else u.awu.setDir.getD .inward
  let d := if set then fixed else if o.job.kind = .awningJog then o.job.dir.getD .inward else .inward
  let windy := u.wind.lockout.isSome = true ∨ u.wind.trigger = true
  (idle → GrantEnds u t sl o .complete)
  ∧ (¬ idle → d = .outward → windy → GrantEnds u t sl o (.cancelled .interlock))
  ∧ (¬ idle → (d = .outward → ¬ windy) →
    GrantRuns u t sl o (if set then .breakaway else .move) [.awning]
    ∧ t.awu = { u.awu with
        motor := u.awu.motor.startedAs d p.breakawayDuty
        setDir := if again then some d else u.awu.setDir, target := if again then target else u.awu.target
        ramped := p.breakawayDuty, breaking := true, creeping := o.resumed && u.awu.creeping
        breakTimer := some (u.now + p.breakawayTime), stallTimer := some (u.now + p.stallWindow)
        jogTimer := if o.job.kind = OpKind.awningJog then some (u.now + o.job.value.getD 0) else none, pend := none })

/-- What the grant of the operation `o`, at the head of the queue of `u` and the only one granted in its event, leaves, by
its group (R32). -/
def State.GrantLeaves (u t : State) (sl : Slot) (o : Op) : Prop :=
  match o.job.group with
  | .jacks => u.GrantsJacks t sl o
  | .room n => u.GrantsRoom t n sl o
  | .awning => u.GrantsAwning t sl o

/-! ### Ends -/

/-- A tag has been told to both links (R15, R188): it stands in the ended/held tag lists as a tag joining them
does, and OPS is raised. -/
structure TagTold (s t : State) (tag : Nat) : Prop where
  coach : t.ntu.coach.tags = (s.ntu.coach.noteTag tag).tags
  service : t.ntu.service.tags = (s.ntu.service.noteTag tag).tags
  raised : t.ntu.coach.cats &&& Category.ops.bit = Category.ops.bit
    ∧ t.ntu.service.cats &&& Category.ops.bit = Category.ops.bit

/-- The operation `o` of a slot has ended, and it alone (R15, R27, R29): the record with its result, remaining
field and end number, the end counter, the ended list, the sums, the queue, and the tag told to both links. -/
structure EndsOp (s t : State) (sl : Slot) (o : Op) (r : Result) (remaining : Option Remaining) : Prop where
  record : t.opAt sl = some { o with state := .ended r remaining (s.opt.ends + 1), resumed := false }
  others : ∀ k, k ≠ sl → t.opAt k = s.opAt k
  counters : t.opt.ends = s.opt.ends + 1 ∧ t.opt.admissions = s.opt.admissions
    ∧ t.opt.internalTag = s.opt.internalTag
  list : t.opt.endedList = s.opt.endedList ++ [o.tag]
  arbiter : t.sta = { s.sta with
    queue := s.sta.queue.filter (fun q => q != sl)
    resSum := if o.state.active then s.sta.resSum - o.reservation else s.sta.resSum
    normalSum := if o.state.active && o.opClass == .normal then s.sta.normalSum - o.reservation else s.sta.normalSum }
  told : TagTold s t o.tag

/-- `s` with its RUNNING or STOPPING operation `o` moved to a state that holds no reservation (R27). -/
def State.released (s : State) (sl : Slot) (o : Op) (st : OpState) : State :=
  { s with sta := { s.sta with
      resSum := s.sta.resSum - o.reservation
      normalSum := if o.opClass == OpClass.normal then s.sta.normalSum - o.reservation else s.sta.normalSum } }.setOp sl
    { o with state := st, resumed := false }

/-- What a stepped cancel leaves of a record (R16): ADMITTED and HELD end at once; RUNNING goes to STOPPING, or ends
where its outputs rest already; STOPPING takes the result in place of HELD and keeps an end; ENDED stays. -/
def State.CancelLeaves (s : State) (o : Op) (r : Result) (after : Op) : Prop :=
  let ends := ∃ remaining number, after = { o with state := .ended r remaining number, resumed := false }
  match o.state with
  | .admitted _ => ends
  | .held _ => ends
  | .running ph =>
    if s.groupAtRest o.job.group then ends else after = { o with state := .stopping (.ended r) ph }
  | .stopping (.held _) ph => after = { o with state := .stopping (.ended r) ph }
  | .stopping (.ended _) _ => after = o
  | .ended _ _ _ => after = o

/-- What a hold leaves of a record (R20): ADMITTED becomes HELD; RUNNING goes to STOPPING toward HELD, or becomes HELD
where its outputs rest already; any other state, and the SAFETY class, stay. -/
def State.HoldLeaves (s : State) (o : Op) (h : HoldReason) (after : Op) : Prop :=
  if o.opClass = .safety then after = o
  else
    match o.state with
    | .admitted _ => after = { o with state := .held h, resumed := false }
    | .running ph =>
      if s.groupAtRest o.job.group then after = { o with state := .held h, resumed := false }
      else after = { o with state := .stopping (.held h) ph }
    | _ => after = o

/-- Each record of the table that satisfies `p` is left as `f` gives, every other record and free slot as it was. -/
def State.eachRecord (s t : State) (p : Op → Bool) (f : Op → Op → Prop) : Prop :=
  ∀ sl,
    (s.opAt sl = none → t.opAt sl = none)
    ∧ ∀ o, s.opAt sl = some o →
      (p o = false → t.opAt sl = some o) ∧ (p o = true → ∃ after, t.opAt sl = some after ∧ f o after)

/-- The tags of the records that have ended on the way from `s` to `t`, in ascending slot order (R5). -/
def State.newlyEnded (s t : State) : List Nat :=
  slots.filterMap (fun sl =>
    match t.opAt sl with
    | some o => if o.state.isEnded && !(s.opAt sl).any (fun p => p.state.isEnded) then some o.tag else none
    | none => none)

/-! ### Parked -/

/-- `t` is `s` after the entry to parked (R54, R87, R114, R149, R179), with the fault record and the pins brought up
to date. -/
structure EntersParked (s t : State) : Prop where
  power : t.inm.parked = true ∧ t.inm.idle = false ∧ t.inm.idleTimer = none
    ∧ t.inm.pollTimer = some (s.now + s.items.inp.pollTime) ∧ t.inm.pollCount = 0
  kept : t.inm.wakeCause = s.inm.wakeCause ∧ t.inm.notReady = s.inm.notReady ∧ t.inm.coach = s.inm.coach
  inputs : ∀ i, t.input i = { s.input i with debounce := none, faultTimer := none, lastPoll := none, pending := none }
  attitude : t.atu = { s.atu with window := [], validRun := 0, invalidRun := 0, filtered := none, drift := none }
  jacks : (∀ j, t.jack j = { s.jack j with contactTimer := none })
    ∧ t.lvc.levelled = s.lvc.levelled ∧ t.lvc.pump = s.lvc.pump ∧ t.lvc.extension = s.lvc.extension
  rooms : ∀ n, t.roomUnit n = { s.roomUnit n with a := { (s.roomUnit n).a with coast := none }
                                                  b := { (s.roomUnit n).b with coast := none } }
  awning : t.awu = { s.awu with motor := { s.awu.motor with coast := none } }
  links : t.liu = { s.liu with watchdog := none, watchdogNoted := s.liu.watchdog.isSome, parkWait := false }
  rest : s.keepsBut t [.attitude, .jacks, .rooms, .awning, .inputs, .links]
  notices : NoticesFollow s t

/-! ### Items -/

/-- The items whose taking does nothing beside keeping the value (R195): all but sensor_rotation, the reference
offsets, jack_count, room_count, the two travels, input_function, input_invert, auto_park_time, the clearance
entries and link_watchdog. -/
def ItemKey.plain (k : ItemKey) : Bool :=
  match k with
  | .rotation | .refPitch | .refRoll | .jackCount | .roomCount | .roomTravel _ | .awningTravel => false
  | .function _ | .invert _ | .autoPark | .clearance _ | .linkWatchdog => false
  | _ => true

/-- Every value of a table lies within its item's range or set (R194, R197), and every clearance entry is one that R156
takes. -/
structure Items.InRange (t : Items) : Prop where
  values : ∀ k ∈ itemOrder, k.domain ≠ .record → k.domain.holds (t.get k) = true
  bounds : ∀ k, (t.clearance.get k).lo ≤ (t.clearance.get k).hi ∧ (t.clearance.get k).hi ≤ 1000
  subjects : ∀ k, (t.clearance.get k).subject ≠ .jacks
  groups : ∀ k g lo hi, (t.clearance.get k).cond = .group g lo hi →
    lo ≤ hi ∧ hi ≤ 1000 ∧ g ≠ (t.clearance.get k).subject
  inputs : ∀ k f st, (t.clearance.get k).cond = .input f st → f ≠ .none ∧ f ≠ .generic

/-! ### Links -/

/-- The part is awake and the LIU takes a frame of the link as it comes (R169). -/
abbrev State.takes (s : State) (l : Link) : Prop := s.inm.parked = false ∧ s.mayTake l = true

/-- The request commands of a link with a payload, each with its KIND (R174). -/
def requestRows (l : Link) (p : List Byte) : List (Byte × Instr) :=
  [(0x01#8, .ident l p), (0x02#8, .status l p), (0x03#8, .submit l p), (0x04#8, .stop l p), (0x05#8, .haltAll l p),
   (0x06#8, .resume l p), (0x07#8, .dismiss l p), (0x08#8, .readOp l p), (0x09#8, .listOps l p),
   (0x0A#8, .readChanges l p), (0x0B#8, .readFaults l p), (0x0C#8, .readAttitude l p), (0x0D#8, .readInputs l p),
   (0x0E#8, .readMotion l p), (0x0F#8, .readWind l p), (0x10#8, .setItem l p), (0x11#8, .getItem l p),
   (0x12#8, .storeItems l p), (0x13#8, .setReference l p), (0x14#8, .setNoticeMask l p), (0x15#8, .postNotice l p),
   (0x16#8, .park l p), (0x17#8, .restart l p), (0x18#8, .claim l p), (0x19#8, .release l p)]

/-- What the receive assembler makes of a list of bytes (R168), from a state of it; it stops at the byte that
ends a frame, good or discarded. -/
def Assembler.feed : List Byte → Assembler → Assembly
  | [], a => .going a
  | b :: rest, a =>
    match a.step b with
    | .going a' => feed rest a'
    | .discarded => .discarded
    | .good f => .good f

end Sys2Proof.Machine
end

