-- ==== Sys2Proof/Certificates/Slice0/Obligations.lean ====
section
/-! DEFINITION. The statements for the provers: what a step does, what each command of the table leaves, the
invariants that every step keeps, and the encodings of frames and items. A command's statement gives the state
it answers, on hypotheses about the state and the operands alone; `Follows` is what the end of an event brings
up to date (Safety.lean). -/

open Sys2Proof Sys2Proof.Machine

/-! ### Steps and the queue -/

/-- A step takes the command at the front of the queue and acts with the queue's rest waiting. -/
def Obligations.StepTakesFront : Prop :=
  ∀ (c : Instr) (rest : List Instr) (s : State), step { s with pending := c :: rest } = exec c { s with pending := rest }

/-- With no command waiting, the first timer due expires; with none due the clock moves on by 1 ms. The model's
own choice (log entry 10). -/
def Obligations.StepOnEmptyQueue : Prop :=
  ∀ s : State, s.pending = [] →
    (∀ c, s.dueCommand = some c →
      (∃ e, (some e, c) ∈ s.timers ∧ e ≤ s.now) ∧ step s = exec c s)
    ∧ (s.dueCommand = none →
      (∀ e c, (some e, c) ∈ s.timers → s.now < e) ∧ step s = .next { s with now := s.now + 1 })

/-- No command stops the machine: each has a next state, in every state and on every operand (log entry 1). -/
def Obligations.EveryCommandCompletes : Prop :=
  ∀ (c : Instr) (s : State), ∃ t, exec c s = .next t

/-- A command, RESET included, leaves the queue of waiting commands and the clock as they stand: the model's own choice,
the queue being log entry 38 and the clock log entry 11. -/
def Obligations.ExecKeepsQueueAndClock : Prop :=
  ∀ (c : Instr) (s t : State), exec c s = .next t → t.pending = s.pending ∧ t.now = s.now

/-! ### Invariants -/

/-- NOTE_N and ALARM follow in the event itself (R192, R193): every step from a state in which both stand as the
rules give them leads to such a state. -/
def Obligations.StepKeepsPinsExact : Prop :=
  ∀ s t : State, s.pinsExact → step s = .next t → t.pinsExact

/-- After a reset every invariant holds: both pins stand as R192 and R193 give them, NOTE_N asserted by POWER and RESTART
and ALARM deasserted; all slots are free (R1), so no two operations are of one group; the books agree with each other,
and every output is off. -/
def Obligations.ResetMeetsInvariants : Prop :=
  State.reset.pinsExact ∧ State.reset.ntu.noteN = true ∧ State.reset.ntu.alarm = false
  ∧ State.reset.onePerGroup ∧ (∀ sl, State.reset.opAt sl = none)
  ∧ State.reset.Books ∧ State.reset.Guarded ∧ State.reset.deEnergised

/-- The Operation Table never holds two non-ended operations of one group (R10): every step from a state in which
it holds none such leads to one in which it holds none. -/
def Obligations.StepKeepsOnePerGroup : Prop :=
  ∀ s t : State, s.onePerGroup → step s = .next t → t.onePerGroup

/-- Every step keeps the books of the part (`Books`): a tag names one record (R4), the ended list holds every ENDED record
once (R1, R5, R7), one operation of a group and three of class NORMAL at most are non-ended (R10), the two sums are those of
the RUNNING and STOPPING operations and stay within the budget (R27), the waiting queue holds every ADMITTED operation once,
SAFETY ahead (R29), its head waits under the first test it fails and every entry behind it with QUEUE (R30), jacks and rooms
never move at once (R33), the claims law (R183), and no frame waits that the LIU may take (R169). -/
def Obligations.StepKeepsBooks : Prop :=
  ∀ s t : State, s.Books → step s = .next t → t.Books

/-- Every step from a state whose books agree keeps the interlocks (`Guarded`): a motor is driven, a valve open or the pump
on only while an operation of its group is RUNNING or STOPPING (R59, R88, R116, R144); no retract valve is open while a room
is not IN, but for SERVICE origin with OVERRIDE (R83); the awning's motor is never driven outward while the lockout runs
or the trigger is present (R130), and its ramped duty is 0 while it is not driven; a stop-at-edge order is recorded only
against a RUNNING or STOPPING operation (R160); awake, the coach condition record is that of the present inputs and
conditions (R142); while the E-stop reads stop nothing is
energised and every operation has ended (R144); before start-up has ended, while the idle timer runs and while the part is
parked every operation has ended (R8, R147, R149). -/
def Obligations.StepKeepsInterlocks : Prop :=
  ∀ s t : State, s.Books → s.Guarded → step s = .next t → t.Guarded

/-! ### Frames on the wire (R167, R168) -/

/-- The receive assembler reads from the bytes of any frame the KIND and the payload it carries, and from those of a
reply its KIND, summary, outcome and data (R167, R168, R170). -/
def Obligations.FrameRoundTrip : Prop :=
  (∀ (kind : Byte) (p : List Byte), p.length ≤ 64 →
    Assembler.feed (frameBytes kind p) .hunt = .good { kind := kind, payload := p })
  ∧ ∀ r : Reply, r.data.length ≤ 62 →
    r.bytes.length = 7 + r.data.length
    ∧ r.bytes.take 5 = [0xC3#8, BitVec.ofNat 8 (2 + r.data.length), r.kind, r.summary, r.outcome]
    ∧ Assembler.feed r.bytes .hunt = .good { kind := r.kind, payload := [r.summary, r.outcome] ++ r.data }

/-- Broken frames (R168). A frame whose check word is not that of its LEN, KIND and payload is discarded, and so is one
whose LEN lies above 64. A byte that ends a frame so, and the expiry of a running gap timer, return the assembler to HUNT,
latch LINK_ERROR with its link and raise FAULT on both links; the other link and every other block stay. -/
def Obligations.BrokenFramesDiscarded : Prop :=
  ((∀ (kind lo hi : Byte) (p : List Byte), p.length ≤ 64 →
    BitVec.ofNat 16 (num16 lo hi) ≠ frameCheck (BitVec.ofNat 8 p.length) kind p →
    Assembler.feed ([0xC3#8, BitVec.ofNat 8 p.length, kind] ++ p ++ [lo, hi]) .hunt = .discarded)
  ∧ ∀ len : Byte, 64 < len.toNat → Assembler.feed [0xC3#8, len] .hunt = .discarded)
  ∧ ∀ (s : State) (l : Link) (c : Instr),
    (c = .gapTimerExpiry l ∧ (s.link l).gap.isSome = true
      ∨ ∃ b, c = .receiveByte l b ∧ s.inm.parked = false ∧ (s.link l).assembler.step b = .discarded) →
    ∃ t, exec c s = .next t
      ∧ FaultsFollow ((s.modLink l (fun u => { u with assembler := .hunt, gap := none })).linkError l) t
      ∧ t.ntu.faults.latched &&& FaultKind.linkError.bit = FaultKind.linkError.bit
      ∧ t.ntu.faults.since.links &&& linkBit l = linkBit l
      ∧ t.ntu.coach.cats &&& Category.fault.bit = Category.fault.bit
      ∧ t.ntu.service.cats &&& Category.fault.bit = Category.fault.bit

/-- RECEIVE_BYTE while awake, before a frame's end (R168): the assembler moves as its table gives, the gap timer is
started afresh by a byte of LEN, KIND or PAYLOAD and by the first check byte, and nothing else changes. -/
def Obligations.ReceiveByteCollects : Prop :=
  ∀ (s : State) (l : Link) (b : Byte), s.inm.parked = false →
    ((s.link l).assembler = .hunt → b = 0xC3#8 →
      exec (.receiveByte l b) s = .next (s.modLink l (fun u => { u with assembler := .len, gap := none })))
    ∧ ((s.link l).assembler = .hunt → b ≠ 0xC3#8 →
      exec (.receiveByte l b) s = .next (s.modLink l (fun u => { u with gap := none })))
    ∧ ((s.link l).assembler = .len → b.toNat ≤ 64 →
      exec (.receiveByte l b) s
        = .next (s.modLink l (fun u => { u with assembler := .kind b, gap := some (s.now + 20) })))
    ∧ (∀ n, (s.link l).assembler = .kind n →
      exec (.receiveByte l b) s = .next (s.modLink l (fun u =>
        { u with assembler := if n = 0 then .crc n b [] none else .payload n b [], gap := some (s.now + 20) })))
    ∧ (∀ n k got, (s.link l).assembler = .payload n k got →
      exec (.receiveByte l b) s = .next (s.modLink l (fun u =>
        { u with assembler := if n.toNat ≤ got.length + 1 then .crc n k (got ++ [b]) none else .payload n k (got ++ [b])
                 gap := some (s.now + 20) })))
    ∧ (∀ n k p, (s.link l).assembler = .crc n k p none →
      exec (.receiveByte l b) s
        = .next (s.modLink l (fun u => { u with assembler := .crc n k p (some b), gap := some (s.now + 20) })))

/-- RECEIVE_BYTE that ends a good frame (R168, R169, R179 to R181). The assembler returns to HUNT; on the coach link the
WATCHDOG presence ends and the watchdog starts, on the service link the connection begins with CLAIMS raised and the silence
timer starts. Where the LIU may take a frame of the link and none waits that it could take, the effect is then that of the
request command of the frame's KIND and payload, UNKNOWN_KIND where no request has that KIND. Where it may not, the frame
joins the tail of its link's buffer, here of a store in progress; with two waiting there it is discarded with LINK_ERROR. -/
def Obligations.GoodFrameTakenOrWaits : Prop :=
  (∀ (s : State) (n k low b : Byte) (p : List Byte), s.inm.parked = false → s.Calm →
    BitVec.ofNat 16 (num16 low b) = frameCheck n k p →
    ((s.link .coach).assembler = .crc n k p (some low) → s.ist.storing = some .coach →
      s.liu.coach.buffer.length < 2 → s.liu.service.buffer = [] → s.items.linkWatchdog ≠ 0 →
      ∃ t, exec (.receiveByte .coach b) s = .next t
        ∧ t.liu = { s.liu with
            coach := { s.liu.coach with assembler := .hunt, gap := none
                                        buffer := s.liu.coach.buffer ++ [{ kind := k, payload := p }] }
            silent := false, watchdog := some (s.now + s.items.linkWatchdog * 1000) }
        ∧ t.opt = s.opt ∧ t.sta = s.sta ∧ t.lvc = s.lvc ∧ t.sdc = s.sdc ∧ t.awu = s.awu ∧ t.wind = s.wind ∧ t.ist = s.ist
        ∧ t.inm.inputs = s.inm.inputs ∧ t.ntu.coach.tags = s.ntu.coach.tags)
    ∧ ((s.link .service).assembler = .crc n k p (some low) → s.ist.storing = some .service →
      s.liu.service.buffer.length < 2 → s.liu.coach.buffer = [] → s.liu.connected = false →
      ∃ t, exec (.receiveByte .service b) s = .next t
        ∧ t.liu = { s.liu with
            service := { s.liu.service with assembler := .hunt, gap := none
                                            buffer := s.liu.service.buffer ++ [{ kind := k, payload := p }] }
            connected := true, silence := some (s.now + 10000) }
        ∧ t.ntu.coach.cats &&& Category.claims.bit = Category.claims.bit
        ∧ t.ntu.service.cats &&& Category.claims.bit = Category.claims.bit
        ∧ t.opt = s.opt ∧ t.sta = s.sta ∧ t.lvc = s.lvc ∧ t.sdc = s.sdc ∧ t.awu = s.awu ∧ t.wind = s.wind ∧ t.ist = s.ist
        ∧ t.inm.inputs = s.inm.inputs ∧ t.ntu.coach.tags = s.ntu.coach.tags))
  ∧ ∀ (s : State) (l : Link) (n k low b : Byte) (p : List Byte), s.inm.parked = false → s.Calm →
    BitVec.ofNat 16 (num16 low b) = frameCheck n k p → (s.link l).assembler = .crc n k p (some low) →
    (∀ m, m ≠ l → s.mayTake m = true → (s.link m).buffer = []) →
    let hunting := s.modLink l (fun u => { u with assembler := .hunt, gap := none })
    let heard : State := match l with
      | .coach => { hunting with liu := { hunting.liu with
          silent := false
          watchdog := if s.items.linkWatchdog = 0 then s.liu.watchdog else some (s.now + s.items.linkWatchdog * 1000) } }
      | .service =>
        let u : State := { hunting with liu := { hunting.liu with connected := true, silence := some (s.now + 10000) } }
        if s.liu.connected = true then u else u.raise .claims
    (∀ c : Instr, s.mayTake l = true → (s.link l).buffer = [] →
      ((k, c) ∈ requestRows l p ∨ (∀ d, (k, d) ∉ requestRows l p) ∧ c = .unknownKind l k p) →
      ∃ u, Follows heard u ∧ exec (.receiveByte l b) s = exec c u)
    ∧ (s.mayTake l = false → 2 ≤ (s.link l).buffer.length →
      ∃ t, exec (.receiveByte l b) s = .next t ∧ t.liu = heard.liu
        ∧ t.ntu.faults.latched &&& FaultKind.linkError.bit = FaultKind.linkError.bit
        ∧ t.ntu.faults.since.links &&& linkBit l = linkBit l
        ∧ t.ntu.coach.cats &&& Category.fault.bit = Category.fault.bit
        ∧ t.ntu.service.cats &&& Category.fault.bit = Category.fault.bit
        ∧ s.keepsBut t [.links])

/-! ### Reads (R25, R55, R133, R154, R174 to R178) -/

/-- IDENT, STATUS, LIST_OPS, READ_ATTITUDE and READ_WIND without a payload, on a link that takes frames: each is
ACCEPTED with its data and changes nothing but the replies of its link. -/
def Obligations.PlainReadsAnswer : Prop :=
  ∀ (s : State) (l : Link), s.takes l →
    (∃ letter : Byte, 65 ≤ letter.toNat ∧ letter.toNat ≤ 90 ∧
      exec (.ident l []) s = .next (s.pushReply l 0x01#8 0
        [0x80#8, 0x02#8, letter, BitVec.ofNat 8 s.ntu.faults.cause.code, BitVec.ofNat 8 s.ist.source.code] .nothing))
    ∧ exec (.status l []) s = .next (s.pushReply l 0x02#8 0 s.statusRecord .nothing)
    ∧ exec (.listOps l []) s = .next (s.pushReply l 0x09#8 0 s.listOps .nothing)
    ∧ exec (.readAttitude l []) s = .next (s.pushReply l 0x0C#8 0 s.attitudeRecord .nothing)
    ∧ exec (.readWind l []) s = .next (s.pushReply l 0x0F#8 0 s.windRecord .nothing)

/-- The records that the reads return, field by field at their places (R175 to R177), with the codes of R173. STATUS, the
operation record and LIST_OPS with its entries and the ended list, the change set and the fault record with the bits of
their sets; READ_ATTITUDE (R55) and READ_WIND (R133); an input's six bytes and the coach block of READ_INPUTS (R154); of
READ_MOTION a jack, the pump and the extension, a room with its motors (R115), the awning, a clearance entry (R166), and the
solver result. The model's choices (log entry 20): the order and widths within READ_ATTITUDE, READ_WIND and READ_MOTION, the
codes of a drift state, a motor state and a valve, the trim as its counts give it at the read, the target count of a jog
and a stow, and the lifts without a count. The whole seconds left are rounded down (log entry 8). -/
def Obligations.RecordLayouts : Prop :=
  (∀ s : State,
    let part := fun (i n : Nat) => (s.statusRecord.drop i).take n
    let shown := fun (g : Group) (code : Nat) => out8 (if s.items.configured g = true then code else 255)
    s.statusRecord.length = 26
    ∧ part 0 1 = outBool s.inm.parked
    ∧ (s.inm.wakeCause = none → part 1 3 = [0, 0, 0]) ∧ (s.inm.wakeCause = some .link → part 1 3 = [1, 0, 0])
    ∧ (s.inm.wakeCause = some .service → part 1 3 = [1, 1, 0])
    ∧ (∀ i, s.inm.wakeCause = some (.input i) → part 1 3 = [1, 2, BitVec.ofNat 8 i.val])
    ∧ (s.inm.wakeCause = some .wind → part 1 3 = [1, 3, 0])
    ∧ part 4 7 = out8 s.sta.supply.code ++ out16 (s.sta.filtered.getD 0) ++ out16 s.sta.resSum ++ out16 s.sta.normalSum
    ∧ part 11 6 = s.inm.coach.write
    ∧ part 17 1 = shown .jacks s.jacksCondition.code
    ∧ (∀ n : Room, part (18 + n.val) 1 = shown (.room n) (s.roomCondition n).code)
    ∧ part 22 1 = shown .awning s.awningCondition.code
    ∧ (s.items.awn.present = false ∨ s.awningPosition = none → part 23 3 = [0, 0, 0])
    ∧ (∀ x, s.items.awn.present = true → s.awningPosition = some x → part 23 3 = 1 :: out16 x))
  ∧ (∀ c : Coach,
    c.write.length = 6
    ∧ c.write.take 1 = (match c.brake with
      | .set => [0]
      | .released => [1]
      | .notAssigned => [2])
    ∧ (c.write.drop 1).take 1 = outBool c.ignition
    ∧ (c.write.drop 2).take 1 = (match c.door with
      | .closed => [0]
      | .opened => [1]
      | .notFitted => [2])
    ∧ (c.write.drop 3).take 1 = (match c.eStop with
      | .normal => [0]
      | .stop => [1]
      | .notAssigned => [2])
    ∧ c.write.drop 4 = outBool c.allStowed ++ outBool c.travelUnstowed)
  ∧ (∀ o : Op,
    let part := fun (i n : Nat) => (o.write.drop i).take n
    o.write.length = 38
    ∧ part 0 3 = out8 o.tag ++ out8 o.job.kind.code ++ out8 o.job.group.code
    ∧ (o.job.sub = none → part 3 2 = [0, 0]) ∧ (∀ j, o.job.sub = some j → part 3 2 = 1 :: out8 (j.val + 1))
    ∧ (o.job.dir = none → part 5 2 = [0, 0]) ∧ (o.job.dir = some .outward → part 5 2 = [1, 0])
    ∧ (o.job.dir = some .inward → part 5 2 = [1, 1])
    ∧ (o.job.value = none → part 7 3 = [0, 0, 0]) ∧ (∀ v, o.job.value = some v → part 7 3 = 1 :: out16 v)
    ∧ part 10 2 = out8 o.job.origin.code ++ out8 o.opClass.code
    ∧ part 12 1 = [(if o.job.bestEffort = true then 1 else 0) ||| (if o.job.override = true then 2 else 0)]
    ∧ part 13 1 = out8 o.state.code
    ∧ (∀ w, o.state = .admitted w → part 14 2 = 1 :: out8 w.code)
    ∧ (o.state.isAdmitted = false → part 14 2 = [0, 0])
    ∧ (∀ h, (o.state = .held h ∨ ∃ ph, o.state = .stopping (.held h) ph) → part 16 2 = 1 :: out8 h.code)
    ∧ ((∀ h, o.state ≠ .held h) → (∀ h ph, o.state ≠ .stopping (.held h) ph) → part 16 2 = [0, 0])
    ∧ (∀ r ph, o.state = .stopping (.ended r) ph →
        part 18 3 = 1 :: out8 r.code ++ out8 ((r.reason.map Reason.code).getD 0))
    ∧ (∀ h ph, o.state = .stopping (.held h) ph → part 18 3 = [1, 4] ++ out8 h.code)
    ∧ ((∀ d ph, o.state ≠ .stopping d ph) → part 18 3 = [0, 0, 0])
    ∧ (o.state.phase = none → part 21 2 = [0, 0]) ∧ (∀ ph, o.state.phase = some ph → part 21 2 = 1 :: out8 ph.code)
    ∧ part 23 1 = (if o.job.kind = .level then out8 o.pass else [0])
    ∧ part 24 2 = out16 o.admission.toNat
    ∧ (o.state.isEnded = false → part 26 12 = List.replicate 12 0)
    ∧ ∀ r rem n, o.state = .ended r rem n →
      part 26 2 = 1 :: out8 r.code
      ∧ (r.reason = none → part 28 2 = [0, 0]) ∧ (∀ x, r.reason = some x → part 28 2 = 1 :: out8 x.code)
      ∧ (rem = none → part 30 5 = [0, 0, 0, 0, 0])
      ∧ (∀ x, rem = some (.permille x) ∨ rem = some (.stroke x) → part 30 5 = 1 :: out16 x ++ [0, 0])
      ∧ (∀ x y, rem = some (.attitude x y) → part 30 5 = 1 :: outInt16 x ++ outInt16 y)
      ∧ (∀ l, rem = some (.jacks l) → ∃ set : Byte, part 30 5 = [1, set, 0, 0, 0]
          ∧ ∀ j : Jack, set.getLsbD j.val = decide (j ∈ l))
      ∧ part 35 3 = 1 :: out16 n.toNat)
  ∧ (∀ s : State, s.opt.endedList.length ≤ 4 →
    let part := fun (i n : Nat) => (s.listOps.drop i).take n
    let occupied := slots.filter (fun sl => (s.opAt sl).isSome)
    let tail := 1 + 10 * occupied.length
    s.listOps.length = tail + 5
    ∧ part 0 1 = out8 occupied.length
    ∧ (∀ sl o, s.opAt sl = some o →
      let i := 1 + 10 * (occupied.filter (fun k => k < sl)).length
      part i 7 = out8 (sl.val + 1) ++ out8 o.tag ++ out8 o.job.kind.code ++ out8 o.job.group.code ++ out8 o.job.origin.code
        ++ out8 o.opClass.code ++ out8 o.state.code
      ∧ (o.state.isEnded = false → part (i + 7) 3 = [0, 0, 0])
      ∧ ∀ r rem n, o.state = .ended r rem n → part (i + 7) 3 = out8 r.code ++ out16 n.toNat)
    ∧ part tail 1 = out8 s.opt.endedList.length
    ∧ (∀ (k : Nat) (x : Nat), s.opt.endedList[k]? = some x → part (tail + 1 + k) 1 = out8 x)
    ∧ ∀ k, s.opt.endedList.length ≤ k → k < 4 → part (tail + 1 + k) 1 = [0])
  ∧ (∀ c : ChangeSet, c.tags.length ≤ 8 →
    let part := fun (i n : Nat) => (c.write.drop i).take n
    c.write.length = 17
    ∧ part 0 3 = [c.cats] ++ out8 c.tags.length ++ outBool c.truncated
    ∧ (∀ (k : Nat) (x : Nat), c.tags[k]? = some x → part (3 + k) 1 = out8 x)
    ∧ (∀ k, c.tags.length ≤ k → k < 8 → part (3 + k) 1 = [0])
    ∧ (∀ i : Input, ((c.write[11 + i.val / 8]?).getD 0).getLsbD (i.val % 8) = c.inputs.getLsbD i.val)
    ∧ part 14 3 = [c.entries, c.attitude, c.wind])
  ∧ (∀ f : FaultRecord,
    let part := fun (i n : Nat) => (f.write.drop i).take n
    f.write.length = 13
    ∧ part 0 4 = out16 f.latched.toNat ++ out16 f.present.toNat
    ∧ part 4 1 = [f.since.links]
    ∧ (∀ i : Input, ((f.write[5 + i.val / 8]?).getD 0).getLsbD (i.val % 8) = f.since.inputs.getLsbD i.val)
    ∧ part 8 2 = [f.since.jacks, f.since.stray]
    ∧ part 10 2 = out16 f.since.channels.toNat
    ∧ part 12 1 = out8 f.cause.code)
  ∧ (∀ s : State,
    let part := fun (i n : Nat) => (s.attitudeRecord.drop i).take n
    let report := fun (v ref : Int) => max (-3000) (min 3000 (v - ref))
    let watching := s.jacksCondition = .levelled ∧ s.inm.parked = false ∧ s.atu.filtered.isSome = true
    s.attitudeRecord.length = 26
    ∧ (s.atu.filtered = none → part 0 13 = List.replicate 13 0)
    ∧ (∀ f, s.atu.filtered = some f →
      part 0 1 = [1] ∧ part 1 3 = 1 :: outInt16 f.pitch ∧ part 4 3 = 1 :: outInt16 f.roll
      ∧ part 7 3 = 1 :: outInt16 (report f.pitch s.items.att.refPitch)
      ∧ part 10 3 = 1 :: outInt16 (report f.roll s.items.att.refRoll))
    ∧ part 13 4 = outInt16 s.items.att.refPitch ++ outInt16 s.items.att.refRoll
    ∧ part 17 4 = out16 s.items.att.rotation ++ out8 s.atu.validRun ++ out8 s.atu.invalidRun
    ∧ (¬ watching → part 21 1 = [0]) ∧ (watching → s.atu.drift = none → part 21 1 = [1])
    ∧ (watching → s.atu.drift ≠ none → part 21 1 = [2])
    ∧ (s.atu.drift = none → part 22 3 = [0, 0, 0])
    ∧ (∀ e, s.atu.drift = some e → part 22 3 = 1 :: out16 ((e - s.now) / 1000))
    ∧ part 25 1 = outBool s.atu.sensorFault)
  ∧ (∀ s : State, s.wind.window.length ≤ 10 →
    let part := fun (i n : Nat) => (s.windRecord.drop i).take n
    let k := s.wind.window.length
    s.windRecord.length = 57
    ∧ part 0 6 = out16 s.wind.lastCount ++ out32 s.wind.lastSpeed
    ∧ part 6 1 = out8 k
    ∧ (∀ (i : Nat) (v : Nat), s.wind.window[i]? = some v → part (7 + 4 * i) 4 = out32 v)
    ∧ (∀ i, k ≤ i → i < 10 → part (7 + 4 * i) 4 = [0, 0, 0, 0])
    ∧ (k = 0 → part 47 5 = [0, 0, 0, 0, 0])
    ∧ (k ≠ 0 → part 47 5 = 1 :: out32 ((s.wind.window.sum + k / 2) / k))
    ∧ part 52 2 = outBool s.wind.trigger ++ outBool s.wind.lockout.isSome
    ∧ (s.wind.lockout = none → part 54 3 = [0, 0, 0])
    ∧ (∀ e, s.wind.lockout = some e → part 54 3 = 1 :: out16 ((e - s.now) / 1000)))
  ∧ (∀ (s : State) (i : Input),
    let part := fun (k n : Nat) => ((s.inputsRecord (i.val / 8)).drop (6 * (i.val % 8) + k)).take n
    let u := s.input i
    let code := fun (c : Option Contact) => (match c with
      | none => [0xFF]
      | some .closed => [0]
      | some .opened => [1] : List Byte)
    let hidden := s.inm.parked = true ∨ s.funcOf i = .none
    (s.inputsRecord (i.val / 8)).length = 48
    ∧ part 0 2 = out8 (s.funcOf i).code ++ out8 (s.funcOf i).arg
    ∧ (hidden → part 2 1 = [0xFF])
    ∧ (¬ hidden → part 2 1 = (match s.reading i with
      | .closed => [0]
      | .opened => [1]
      | .short => [2]))
    ∧ part 3 1 = code u.debounced ∧ part 4 1 = code u.pending
    ∧ ∃ set : Byte, part 5 1 = [set]
      ∧ set.getLsbD 0 = s.items.inp.invert.get i ∧ set.getLsbD 1 = u.firstDone ∧ set.getLsbD 2 = u.fault
      ∧ set.getLsbD 3 = u.debounce.isSome ∧ set.getLsbD 4 = s.items.inp.notice.get i
      ∧ set.getLsbD 5 = s.items.inp.wake.get i ∧ set.getLsbD 6 = s.items.inp.slow.get i ∧ set.getLsbD 7 = false)
  ∧ (∀ s : State,
    let part := fun (i n : Nat) => ((s.inputsRecord 3).drop i).take n
    let k := s.unassigned.length
    part 0 6 = s.inm.coach.write ∧ part 6 1 = out8 k
    ∧ (∀ (i : Nat) (f : Func), s.unassigned[i]? = some f → part (7 + 2 * i) 2 = out8 f.code ++ out8 f.arg)
    ∧ part (7 + 2 * k) 1 = outBool s.inm.idle
    ∧ (s.inm.idleTimer = none → part (8 + 2 * k) 4 = [0, 0, 0])
    ∧ ∀ e, s.inm.idleTimer = some e → part (8 + 2 * k) 4 = 1 :: out16 ((e - s.now) / 1000))
  ∧ (∀ s : State,
    let part := fun (i n : Nat) => ((s.motionSection 0).drop i).take n
    (s.motionSection 0).length = 58
    ∧ (∀ j : Jack,
      let u := s.jack j
      (j ∉ s.items.jacks → part (9 * j.val) 9 = List.replicate 9 0)
      ∧ (j ∈ s.items.jacks →
        part (9 * j.val) 9 = 1 :: out16 u.stroke ++ out8 u.pressure ++ outBool u.contact ++ out8 (s.reads (.jackUp j)).code
          ++ outBool u.sensorFault ++ outBool u.extending ++ outBool u.retracting))
    ∧ part 54 4 = out16 s.lvc.pump ++ out16 s.lvc.extension)
  ∧ (∀ (s : State) (n : Room),
    let part := fun (i k : Nat) => ((s.motionSection (n.val + 1)).drop i).take k
    let r := s.roomUnit n
    let both := s.items.room.motors.get n = 2 ∧ r.a.driven = true ∧ r.b.driven = true
    let apart := if r.a.count < r.b.count then r.b.count - r.a.count else r.a.count - r.b.count
    (s.motionSection (n.val + 1)).length = 48
    ∧ part 0 2 = outBool r.referenced ++ out8 (if s.items.configured (.room n) = true then (s.roomCondition n).code else 255)
    ∧ (s.roomPosition n = none → part 2 3 = [0, 0, 0]) ∧ (∀ x, s.roomPosition n = some x → part 2 3 = 1 :: out16 x)
    ∧ part 5 1 = outBool r.stray
    ∧ (∀ (i : Nat) (m : MotorId), i = 6 ∧ m = .a ∨ i = 19 ∧ m = .b →
      let x := r.motor m
      (m ∉ s.items.motors n → part i 13 = List.replicate 13 0)
      ∧ (m ∈ s.items.motors n →
        part i 13 = 1 :: out16 x.count ++ out16 (s.motorPosition (.room n m)) ++ out8 (dirCode x.dir)
          ++ (if x.driven = true then [0] else if x.coast.isSome = true then [1] else [2]) ++ out16 x.applied
          ++ out8 x.amps ++ out8 x.run ++ out16 x.tally))
    ∧ (¬ both → part 32 8 = List.replicate 8 0)
    ∧ (both →
      part 32 5 = 1 :: outInt32 (if r.a.dir = some .outward then (r.a.count : Int) - r.b.count
        else (r.b.count : Int) - r.a.count)
      ∧ part 37 3 = 1 :: out16 (min s.items.room.syncTrimMax (apart * s.items.room.syncGain)))
    ∧ (s.activeOp (.room n) = none → part 40 8 = List.replicate 8 0)
    ∧ ∀ sl o, s.activeOp (.room n) = some (sl, o) →
      part 40 6 = 1 :: out16 r.demanded ++ 1 :: out16 r.ramped
      ∧ (o.state.phase = none → part 46 2 = [0, 0]) ∧ ∀ ph, o.state.phase = some ph → part 46 2 = 1 :: out8 ph.code)
  ∧ (∀ s : State,
    let part := fun (i n : Nat) => ((s.motionSection 5).drop i).take n
    let a := s.awu
    let m := a.motor
    (s.motionSection 5).length = 27
    ∧ part 0 2 = outBool a.referenced ++ out8 (if s.items.awn.present = true then s.awningCondition.code else 255)
    ∧ (s.awningPosition = none → part 2 3 = [0, 0, 0]) ∧ (∀ x, s.awningPosition = some x → part 2 3 = 1 :: out16 x)
    ∧ part 5 4 = outBool a.stray ++ out16 m.count ++ out8 (dirCode m.dir)
    ∧ part 9 1 = (if m.driven = true then [0] else if m.coast.isSome = true then [1] else [2])
    ∧ part 10 6 = out16 m.applied ++ out8 m.amps ++ out8 m.run ++ out16 m.tally
    ∧ (s.activeOp .awning = none → part 16 11 = List.replicate 11 0)
    ∧ ∀ sl o, s.activeOp .awning = some (sl, o) →
      part 16 6 = 1 :: out16 a.demanded ++ 1 :: out16 a.ramped
      ∧ (o.state.phase = none → part 22 2 = [0, 0]) ∧ (∀ ph, o.state.phase = some ph → part 22 2 = 1 :: out8 ph.code)
      ∧ part 24 3 = 1 :: out16 (if o.job.kind = .awningSet then a.target else 0))
  ∧ (∀ (s : State) (k : Entry),
    let part := fun (i n : Nat) => ((s.motionSection 6).drop (5 * k.val + i)).take n
    let e := s.entryItem k
    (s.motionSection 6).length = 40
    ∧ part 0 3 = outBool e.enabled ++ outBool (s.entryUnit k).active ++ outBool (s.entryUnit k).inside
    ∧ (s.activeOp e.subject = none → part 3 2 = [0, 0])
    ∧ (s.activeOp e.subject ≠ none → part 3 2 = 1 :: outBool (s.clm.ordered.get e.subject.idx)))
  ∧ (∀ s : State,
    let part := fun (i n : Nat) => ((s.motionSection 7).drop i).take n
    (s.motionSection 7).length = 20
    ∧ (s.lvc.solver = none → s.motionSection 7 = List.replicate 20 0)
    ∧ ∀ r, s.lvc.solver = some r →
      part 0 1 = [1] ∧ part 3 5 = outInt16 r.pitch ++ outInt16 r.roll ++ out8 r.pass
      ∧ (∀ l limited, r.solution = .lifts l limited →
        part 1 2 = 0 :: outBool limited
        ∧ ∀ j : Jack, (∀ x, (j, x) ∈ l → (∀ y, (j, y) ∈ l → y = x) → part (8 + 2 * j.val) 2 = out16 x)
            ∧ ((∀ x, (j, x) ∉ l) → part (8 + 2 * j.val) 2 = [0, 0]))
      ∧ ∀ l, r.solution = .short l →
        part 1 2 = [1, 0] ∧ part 9 11 = List.replicate 11 0
        ∧ ∃ set : Byte, part 8 1 = [set] ∧ ∀ j : Jack, set.getLsbD j.val = decide (j ∈ l))
  ∧ ([OpKind.level, .ground, .jacksStow, .jackJog, .roomOut, .roomIn, .roomJog, .awningSet, .awningJog, .awningStow].map
        OpKind.code = List.range 10
    ∧ (∀ n : Room, (Group.room n).code = n.val + 1) ∧ Group.jacks.code = 0 ∧ Group.awning.code = 5
    ∧ [Origin.link, .service, .internal].map Origin.code = List.range 3
    ∧ [OpClass.normal, .safety].map OpClass.code = List.range 2
    ∧ [WaitReason.queue, .budget, .frame, .stagger, .supply].map WaitReason.code = List.range 5
    ∧ [HoldReason.linkSilent, .supplyLow].map HoldReason.code = List.range 2
    ∧ [Phase.ground, .settle, .solve, .lift, .touchdown, .breakaway, .run, .creep, .move].map Phase.code = List.range 9
    ∧ [Reason.deadband, .strokeLimited, .disturbed, .clearance, .inSwitch, .obstructed, .sync, .noGround, .strokeShort,
        .tooSteep, .passes, .attitude, .liftTimeout, .groundTimeout, .stowTimeout, .jackSensor, .supply, .stop, .halt, .eStop,
        .interlock, .claimed, .superseded, .peerFault, .serviceLost].map Reason.code = (List.range 26).drop 1
    ∧ [JacksCondition.stowed, .grounded, .levelled, .partly].map JacksCondition.code = List.range 4
    ∧ [RoomCondition.inside, .outside, .between, .unknown].map RoomCondition.code = List.range 4
    ∧ [AwningCondition.inside, .outside, .unknown].map AwningCondition.code = List.range 3
    ∧ [SupplyState.normal, .low, .hold, .cut].map SupplyState.code = List.range 4
    ∧ [RestartCause.powerOn, .brownout, .request].map RestartCause.code = List.range 3
    ∧ (Result.complete.code = 0 ∧ ∀ x, (Result.partly x).code = 1 ∧ (Result.failed x).code = 2 ∧ (Result.cancelled x).code = 3)
    ∧ ∀ (w : WaitReason) (ph : Option Phase) (d : Dest) (h : HoldReason) (r : Result) (rem : Option Remaining) (n : Word),
      (OpState.admitted w).code = 0 ∧ (OpState.running ph).code = 1 ∧ (OpState.stopping d ph).code = 2
      ∧ (OpState.held h).code = 3 ∧ (OpState.ended r rem n).code = 4)

/-- READ_OP, READ_INPUTS, READ_MOTION and GET_ITEM (R25, R154, R175, R177, R178): the record where the tag is in
use, the block, the section of a configured group, the item; the refusal otherwise. None changes anything but the
replies of its link. -/
def Obligations.SelectiveReadsAnswer : Prop :=
  ∀ (s : State) (l : Link) (b : Byte), s.takes l →
    (∀ sl o, s.slotOfTag b.toNat = some sl → s.opAt sl = some o →
      o.write.length = 38 ∧ exec (.readOp l [b]) s = .next (s.pushReply l 0x08#8 0 o.write .nothing))
    ∧ (s.slotOfTag b.toNat = none → exec (.readOp l [b]) s = .next (s.pushReply l 0x08#8 22 [] .nothing))
    ∧ (b.toNat ≤ 2 → (s.inputsRecord b.toNat).length = 48)
    ∧ (b.toNat ≤ 3 → exec (.readInputs l [b]) s = .next (s.pushReply l 0x0D#8 0 (s.inputsRecord b.toNat) .nothing))
    ∧ (3 < b.toNat → exec (.readInputs l [b]) s = .next (s.pushReply l 0x0D#8 5 [] .nothing))
    ∧ (b.toNat ≤ 7 → (∀ g, sectionGroup b.toNat = some g → s.items.configured g = true) →
        exec (.readMotion l [b]) s = .next (s.pushReply l 0x0E#8 0 (s.motionSection b.toNat) .nothing))
    ∧ (∀ g, b.toNat ≤ 7 → sectionGroup b.toNat = some g → s.items.configured g = false →
        exec (.readMotion l [b]) s = .next (s.pushReply l 0x0E#8 4 [] .nothing))
    ∧ (7 < b.toNat → exec (.readMotion l [b]) s = .next (s.pushReply l 0x0E#8 5 [] .nothing))
    ∧ (∀ n0 n1 k, ItemKey.ofNumber (num16 n0 n1) b.toNat = some k →
        exec (.getItem l [n0, n1, b]) s
          = .next (s.pushReply l 0x11#8 0 ([n0, n1, b] ++ s.items.valueBytes k) .nothing))
    ∧ (∀ n0 n1, ItemKey.ofNumber (num16 n0 n1) b.toNat = none →
        exec (.getItem l [n0, n1, b]) s = .next (s.pushReply l 0x11#8 30 [] .nothing))

/-- Requests before their own tests (R170, R173, R178). One of another payload length than its own is refused BAD_LENGTH:
the twelve without a payload, the nine of one byte (CLAIM and RELEASE on the service link; on the coach link they are
refused WRONG_LINK whatever their length), STOP of two, GET_ITEM of three, SUBMIT of eleven, and SET_ITEM below three bytes
or, for a known item, of a length that is not its form's. UNKNOWN_KIND is refused UNKNOWN_KIND whatever its payload. None
changes anything but the replies of its link. While the LIU may not take a frame of the link (R169), a frame of any KIND
joins the tail of its link's buffer while fewer than two wait there; a third is discarded with LINK_ERROR. That such a
request command does no more (it restarts no watchdog and starts no connection, which R179 and R181 give to the frame's
reception) is the model's reading of the table's rows, log entry 12: RECEIVE_BYTE does the reception. -/
def Obligations.RequestsRefusedOrHeld : Prop :=
  (∀ (s : State) (l : Link) (p : List Byte), s.takes l →
    (p.length ≠ 0 →
      exec (.ident l p) s = .next (s.pushReply l 0x01#8 2 [] .nothing)
      ∧ exec (.status l p) s = .next (s.pushReply l 0x02#8 2 [] .nothing)
      ∧ exec (.haltAll l p) s = .next (s.pushReply l 0x05#8 2 [] .nothing)
      ∧ exec (.listOps l p) s = .next (s.pushReply l 0x09#8 2 [] .nothing)
      ∧ exec (.readChanges l p) s = .next (s.pushReply l 0x0A#8 2 [] .nothing)
      ∧ exec (.readFaults l p) s = .next (s.pushReply l 0x0B#8 2 [] .nothing)
      ∧ exec (.readAttitude l p) s = .next (s.pushReply l 0x0C#8 2 [] .nothing)
      ∧ exec (.readWind l p) s = .next (s.pushReply l 0x0F#8 2 [] .nothing)
      ∧ exec (.storeItems l p) s = .next (s.pushReply l 0x12#8 2 [] .nothing)
      ∧ exec (.setReference l p) s = .next (s.pushReply l 0x13#8 2 [] .nothing)
      ∧ exec (.park l p) s = .next (s.pushReply l 0x16#8 2 [] .nothing)
      ∧ exec (.restart l p) s = .next (s.pushReply l 0x17#8 2 [] .nothing))
    ∧ (p.length ≠ 1 →
      exec (.resume l p) s = .next (s.pushReply l 0x06#8 2 [] .nothing)
      ∧ exec (.dismiss l p) s = .next (s.pushReply l 0x07#8 2 [] .nothing)
      ∧ exec (.readOp l p) s = .next (s.pushReply l 0x08#8 2 [] .nothing)
      ∧ exec (.readInputs l p) s = .next (s.pushReply l 0x0D#8 2 [] .nothing)
      ∧ exec (.readMotion l p) s = .next (s.pushReply l 0x0E#8 2 [] .nothing)
      ∧ exec (.setNoticeMask l p) s = .next (s.pushReply l 0x14#8 2 [] .nothing)
      ∧ exec (.postNotice l p) s = .next (s.pushReply l 0x15#8 2 [] .nothing)
      ∧ (l = .service → exec (.claim l p) s = .next (s.pushReply l 0x18#8 2 [] .nothing)
          ∧ exec (.release l p) s = .next (s.pushReply l 0x19#8 2 [] .nothing)))
    ∧ (l = .coach → exec (.claim l p) s = .next (s.pushReply l 0x18#8 29 [] .nothing)
        ∧ exec (.release l p) s = .next (s.pushReply l 0x19#8 29 [] .nothing))
    ∧ (p.length ≠ 2 → exec (.stop l p) s = .next (s.pushReply l 0x04#8 2 [] .nothing))
    ∧ (p.length ≠ 3 → exec (.getItem l p) s = .next (s.pushReply l 0x11#8 2 [] .nothing))
    ∧ (p.length ≠ 11 → exec (.submit l p) s = .next (s.pushReply l 0x03#8 2 [] .nothing))
    ∧ (p.length < 3 → exec (.setItem l p) s = .next (s.pushReply l 0x10#8 2 [] .nothing))
    ∧ (∀ n0 n1 idx k value, p = [n0, n1, idx] ++ value → ItemKey.ofNumber (num16 n0 n1) idx.toNat = some k →
        (k.domain ≠ .record → value.length ≠ 4 → exec (.setItem l p) s = .next (s.pushReply l 0x10#8 2 [] .nothing))
        ∧ (k.domain = .record → value.length ≠ 16 → exec (.setItem l p) s = .next (s.pushReply l 0x10#8 2 [] .nothing)))
    ∧ (∀ n0 n1 idx value, p = [n0, n1, idx] ++ value → ItemKey.ofNumber (num16 n0 n1) idx.toNat = none →
        exec (.setItem l p) s = .next (s.pushReply l 0x10#8 30 [] .nothing))
    ∧ ∀ kind, exec (.unknownKind l kind p) s = .next (s.pushReply l kind 1 [] .nothing))
  ∧ ∀ (s : State) (l : Link) (p : List Byte) (kind : Byte) (c : Instr), s.inm.parked = false → s.mayTake l = false →
    (kind, c) ∈ requestRows l p ∨ c = .unknownKind l kind p →
    ((s.link l).buffer.length < 2 →
      exec c s = .next (s.modLink l (fun u => { u with buffer := u.buffer ++ [{ kind := kind, payload := p }] })))
    ∧ (2 ≤ (s.link l).buffer.length →
      ∃ t, exec c s = .next t ∧ FaultsFollow (s.linkError l) t
        ∧ t.ntu.faults.latched &&& FaultKind.linkError.bit = FaultKind.linkError.bit)

/-! ### Notices (R187 to R192) -/

/-- READ_CHANGES (R189): the link's change set is returned and cleared, so that CHANGE reads clear in the reply; the
other link's set and every other state stay, and NOTE_N follows. READ_FAULTS (R187, R191): on the coach link the marks of
kinds not present are cleared after the record was returned, and the members not present leave the detail sets; on the
service link nothing is cleared. -/
def Obligations.ReadingNoticesClears : Prop :=
  (∀ (s : State) (l : Link), s.takes l →
    ∃ t : State, exec (.readChanges l []) s = .next (t.pushReply l 0x0A#8 0 (s.changes l).write .nothing)
      ∧ t = { s with ntu := t.ntu }
      ∧ t.changes l = ChangeSet.empty
      ∧ (∀ k, k ≠ l → t.changes k = s.changes k)
      ∧ t.ntu.faults = s.ntu.faults ∧ t.ntu.mask = s.ntu.mask ∧ t.ntu.thermal = s.ntu.thermal
      ∧ t.ntu.bridges = s.ntu.bridges
      ∧ (t.summary l).getLsbD 6 = false
      ∧ t.pinsExact)
  ∧ ∀ s : State,
    (s.takes .coach →
      ∃ t : State, exec (.readFaults .coach []) s = .next (t.pushReply .coach 0x0B#8 0 s.ntu.faults.write .nothing)
        ∧ t = { s with ntu := { s.ntu with
            faults := { s.ntu.faults with latched := s.ntu.faults.latched &&& s.ntu.faults.present
                                          since := s.ntu.faults.now }
            noteN := t.noteDue, alarm := t.alarmDue } })
    ∧ (s.takes .service →
      exec (.readFaults .service []) s = .next (s.pushReply .service 0x0B#8 0 s.ntu.faults.write .nothing))

/-- SET_NOTICE_MASK writes the mask whole and returns it, POST_NOTICE of a category 0..7 sets that category in the
coach link's change set from either link, and is refused BAD_RANGE above 7 (R189, R192); NOTE_N follows, and
nothing else changes. -/
def Obligations.NoticeMaskAndPost : Prop :=
  ∀ (s : State) (l : Link) (m : Byte), s.takes l →
    (∃ t : State, exec (.setNoticeMask l [m]) s = .next (t.pushReply l 0x14#8 0 [m] .nothing)
      ∧ t = { s with ntu := { s.ntu with mask := m, noteN := t.noteDue, alarm := t.alarmDue } })
    ∧ (m.toNat ≤ 7 →
      ∃ t : State, exec (.postNotice l [m]) s = .next (t.pushReply l 0x15#8 0 [] .nothing)
        ∧ t = { s with ntu := { s.ntu with
            coach := { s.ntu.coach with cats := s.ntu.coach.cats ||| bitAt 8 m.toNat }
            noteN := t.noteDue, alarm := t.alarmDue } })
    ∧ (7 < m.toNat → exec (.postNotice l [m]) s = .next (s.pushReply l 0x15#8 5 [] .nothing))

/-! ### Items (R178, R194 to R197) -/

/-- SET_ITEM (R178, R195). Refused UNKNOWN_ITEM for an item the table has not, STORING during a store, BAD_RANGE and
ITEM_CONFLICT by the item's own refusals (R138, R156, R195), and GROUP_ACTIVE while an operation of the item's group is
non-ended, in this order; a refused SET_ITEM changes nothing. Of an item whose taking does nothing beside keeping the
value, the table holds the value fitted to the range, the reply carries the value taken, and nothing else changes; a value
that the table holds already changes nothing, of link_watchdog a running timer included (log entry 69). The fit is the
nearest end of a range, the largest member of a set that does not exceed the value (the smallest where all do), and the
own rules of jack_count and link_watchdog (R56, R96, R179); an item reads back the value it was given and every other
keeps its own. What the other items do beside: sensor_rotation empties the attitude window (R44), a reference offset stops
the drift timer and judges LEVELLED again (R48, R50), jack_count and room_count clear what leaves the configured set (R56,
R62, R88), a travel lowers the counts beyond it (R92, R118), the Clearance Monitor judging that change of count (R158),
input_function and input_invert take the present reading (R140), auto_park_time 0 stops the idle timer, link_watchdog acts
on a running timer (R179), and a clearance entry, in the layout of R178, is replaced with its positions (R156). The
model's own reading: the last judged positions of an unconfigured room are cleared (log entry 29); the unused fields of a
clearance entry's reply are 0 (log entry 25); the inside flag of a disabled entry is clear (log entry 56); an input whose
fault flag is set takes the present reading too (log entry 59). -/
def Obligations.SetItemTakesValue : Prop :=
  ((∀ (s : State) (l : Link) (n0 n1 idx a b c d : Byte), s.takes l →
      (ItemKey.ofNumber (num16 n0 n1) idx.toNat = none →
        exec (.setItem l [n0, n1, idx, a, b, c, d]) s = .next (s.pushReply l 0x10#8 30 [] .nothing))
      ∧ (∀ k, ItemKey.ofNumber (num16 n0 n1) idx.toNat = some k → k.domain ≠ .record →
        (s.ist.storing.isSome = true →
          exec (.setItem l [n0, n1, idx, a, b, c, d]) s = .next (s.pushReply l 0x10#8 26 [] .nothing))
        ∧ (s.ist.storing = none → s.itemRefusal k (int32 a b c d) = none → s.itemGroupActive k.group = true →
          exec (.setItem l [n0, n1, idx, a, b, c, d]) s = .next (s.pushReply l 0x10#8 27 [] .nothing))))
    ∧ ∀ (s : State) (l : Link) (n0 n1 idx a b c d : Byte) (k : ItemKey), s.takes l → s.ist.storing = none →
      ItemKey.ofNumber (num16 n0 n1) idx.toNat = some k → k.plain = true → s.itemGroupActive k.group = false →
      (k = .faultAction → k.domain.holds (int32 a b c d) = true) →
      (s.items.put k (k.domain.fit (int32 a b c d)) = s.items →
        exec (.setItem l [n0, n1, idx, a, b, c, d]) s
          = .next (s.pushReply l 0x10#8 0 ([n0, n1, idx] ++ outInt32 (k.domain.fit (int32 a b c d))) .nothing))
      ∧ (s.items.put k (k.domain.fit (int32 a b c d)) ≠ s.items →
        (s.setItems (s.items.put k (k.domain.fit (int32 a b c d)))).Calm →
        ∃ t : State, exec (.setItem l [n0, n1, idx, a, b, c, d]) s
            = .next (t.pushReply l 0x10#8 0 ([n0, n1, idx] ++ outInt32 (k.domain.fit (int32 a b c d))) .nothing)
          ∧ Follows (s.setItems (s.items.put k (k.domain.fit (int32 a b c d)))) t))
  ∧ (∀ (t : Items) (k : ItemKey) (v : Int), k.domain ≠ .record → k.domain.holds v = true →
    (∀ i, k = .function i → (Func.ofNumber v).isSome = true) →
    (t.put k v).get k = v ∧ (∀ j, j ≠ k → (t.put k v).get j = t.get j) ∧ (t.put k v).clearance = t.clearance)
  ∧ (∀ (k : ItemKey) (x : Int),
    (k ≠ .faultAction → k.domain.holds (k.domain.fit x) = true) ∧ (k.domain.holds x = true → k.domain.fit x = x)
    ∧ (∀ lo hi, k.domain = .range lo hi → (x < lo → k.domain.fit x = lo) ∧ (hi < x → k.domain.fit x = hi))
    ∧ (∀ members, k.domain = .floorSet members →
        k.domain.fit x ∈ members ∧ ((∃ m ∈ members, m ≤ x) → k.domain.fit x ≤ x ∧ ∀ m ∈ members, m ≤ x → m ≤ k.domain.fit x)
        ∧ ((∀ m ∈ members, x < m) → ∀ m ∈ members, k.domain.fit x ≤ m))
    ∧ (k.domain = .jackCount → (x ≤ 0 → k.domain.fit x = 0) ∧ (x = 1 ∨ x = 2 → k.domain.fit x = 3)
        ∧ (6 < x → k.domain.fit x = 6))
    ∧ (k.domain = .watchdog → (x ≤ 0 → k.domain.fit x = 0) ∧ (x = 1 → k.domain.fit x = 2)
        ∧ (120 < x → k.domain.fit x = 120)))
  ∧ (∀ (s : State) (l : Link) (n0 n1 idx a b c d : Byte) (k : ItemKey), s.takes l → s.ist.storing = none →
    ItemKey.ofNumber (num16 n0 n1) idx.toNat = some k →
    let x := int32 a b c d
    let code := x % 256
    let arg := x / 256
    let refused := fun (code : Byte) =>
      exec (.setItem l [n0, n1, idx, a, b, c, d]) s = .next (s.pushReply l 0x10#8 code [] .nothing)
    (k = .faultAction → x < 0 ∨ 2 < x → refused 5)
    ∧ (∀ i, k = .function i →
      (x < 0 ∨ 65535 < x ∨ 8 < code ∨ code = 6 ∧ (arg < 1 ∨ 4 < arg) ∨ code = 7 ∧ (arg < 1 ∨ 6 < arg)
        ∨ code ≠ 6 ∧ code ≠ 7 ∧ arg ≠ 0 → refused 5)
      ∧ ∀ f j, Func.ofNumber x = some f → f ≠ .none → f ≠ .generic → j ≠ i → s.funcOf j = f → refused 28))
  ∧ (∀ (s : State) (l : Link) (n0 n1 idx a b c d : Byte) (k : ItemKey), s.takes l → s.ist.storing = none →
    ItemKey.ofNumber (num16 n0 n1) idx.toNat = some k → s.itemRefusal k (int32 a b c d) = none →
    s.itemGroupActive k.group = false →
    let x := k.domain.fit (int32 a b c d)
    let new := s.items.put k x
    (k.domain ≠ .record → new = s.items →
      exec (.setItem l [n0, n1, idx, a, b, c, d]) s = .next (s.pushReply l 0x10#8 0 ([n0, n1, idx] ++ outInt32 x) .nothing))
    ∧ (new ≠ s.items →
    let taken := fun (held : List Block) (P : State → Prop) =>
      ∃ t : State, exec (.setItem l [n0, n1, idx, a, b, c, d]) s
          = .next (t.pushReply l 0x10#8 0 ([n0, n1, idx] ++ outInt32 x) .nothing)
        ∧ t.ist = { s.ist with items := new } ∧ ((s.setItems new).Calm → s.keepsBut t (.items :: held)) ∧ P t
    (k = .rotation → taken [.attitude] (fun t =>
      t.atu.window = [] ∧ t.atu.validRun = 0 ∧ t.atu.invalidRun = 0 ∧ t.atu.filtered = none ∧ t.atu.drift = none
      ∧ (s.atu.filtered.isSome = true → t.ntu.coach.attitude &&& 0x08#8 = 0x08#8
          ∧ t.ntu.service.attitude &&& 0x08#8 = 0x08#8)))
    ∧ (k = .refPitch ∨ k = .refRoll → taken [.attitude, .jacks] (fun t =>
      t.atu = { s.atu with drift := none }
      ∧ ∀ r, (s.setItems new).reported = some r →
        t.lvc.levelled = (s.lvc.levelled && r.within s.items.jack.levelTolerance)))
    ∧ (k = .jackCount → taken [.jacks] (fun t =>
      t.lvc.levelled = false
      ∧ ∀ j, (j ∈ new.jacks → t.jack j = s.jack j)
        ∧ (j ∉ new.jacks → t.jack j = { s.jack j with
            stroke := 0, pressure := 0, sensorFault := false, contact := false, contactTimer := none })))
    ∧ (k = .roomCount → taken [.rooms, .clearance] (fun t =>
      ∀ n, new.configured (.room n) = false →
        (t.roomUnit n).referenced = false ∧ (t.roomUnit n).stray = false
        ∧ (∀ m, ((t.roomUnit n).motor m).count = 0 ∧ ((t.roomUnit n).motor m).tally = 0)
        ∧ ∀ e, (s.entryItem e).subject = .room n → (t.entryUnit e).lastA = none ∧ (t.entryUnit e).lastB = none))
    ∧ (∀ n, k = .roomTravel n → taken [.rooms, .clearance] (fun t =>
      let limit := new.room.travel.get n + 200
      (∀ m, ((t.roomUnit n).motor m).count = min ((s.roomUnit n).motor m).count limit)
      ∧ (t.roomUnit n).referenced = (s.roomUnit n).referenced
      ∧ ∀ e m, (t.entryUnit e).last m
        = if (s.entryItem e).enabled = true ∧ (s.entryItem e).subject = .room n ∧ (s.roomUnit n).referenced = true
            ∧ m ∈ s.items.motors n ∧ limit < ((s.roomUnit n).motor m).count then some 1000 else (s.entryUnit e).last m))
    ∧ (k = .awningTravel → taken [.awning, .clearance] (fun t =>
      let limit := new.awn.travel + 200
      t.awu.motor.count = min s.awu.motor.count limit ∧ t.awu.referenced = s.awu.referenced
      ∧ ∀ e m, (t.entryUnit e).last m
        = if (s.entryItem e).enabled = true ∧ (s.entryItem e).subject = .awning ∧ s.awu.referenced = true
            ∧ m = .a ∧ limit < s.awu.motor.count then some 1000 else (s.entryUnit e).last m))
    ∧ (∀ i, k = .function i ∨ k = .invert i → taken [.inputs, .rooms, .awning, .clearance] (fun t =>
      (new.inp.function.get i = .none → t.input i = { InputUnit.reset with level := (s.input i).level })
      ∧ (new.inp.function.get i ≠ .none →
        (t.input i).debounced = some (((readLevel (new.inp.invert.get i) (s.input i).level).contact).getD .opened)
        ∧ (t.input i).firstDone = true ∧ (t.input i).debounce = none ∧ (t.input i).level = (s.input i).level)
      ∧ (∀ j, j ≠ i → t.input j = s.input j) ∧ t.ntu.coach.inputs = s.ntu.coach.inputs
      ∧ t.opt = s.opt
      ∧ (∀ n, new.inp.function.get i = .roomIn n → new.configured (.room n) = true → t.shut (.roomIn n) = true →
        (t.roomUnit n).referenced = true ∧ ∀ m ∈ new.motors n, ((t.roomUnit n).motor m).count = 0)
      ∧ (new.inp.function.get i = .awningIn → t.shut .awningIn = true →
        t.awu.referenced = true ∧ t.awu.motor.count = 0)))
    ∧ (k = .autoPark → x = 0 → taken [.inputs] (fun t => t.inm.idleTimer = none))
    ∧ (k = .linkWatchdog → taken [.links] (fun t =>
      (s.liu.watchdog = none → t.liu.watchdog = none)
      ∧ (s.liu.watchdog.isSome = true → t.liu.watchdog = if x = 0 then none else some (s.now + x.toNat * 1000))))))
  ∧ ∀ (s : State) (l : Link) (n0 n1 idx : Byte) (k : Entry) (en sub lo0 lo1 hi0 hi1 act cg cl0 cl1 ch0 ch1 fc fa st : Byte)
      (g h : Group) (f : Func),
    s.takes l → s.ist.storing = none → ItemKey.ofNumber (num16 n0 n1) idx.toNat = some (.clearance k) →
    Group.ofCode sub = some g → Group.ofCode cg = some h → Func.ofCode fc.toNat fa.toNat = some f →
    let lo := min 1000 (num16 lo0 lo1)
    let hi := min 1000 (num16 hi0 hi1)
    let clo := min 1000 (num16 cl0 cl1)
    let chi := min 1000 (num16 ch0 ch1)
    let record := fun (kind : Byte) => [en, sub, lo0, lo1, hi0, hi1, kind, act, cg, cl0, cl1, ch0, ch1, fc, fa, st]
    let entry := fun (cond : ClearCond) => ({ enabled := en == 1, subject := g, lo := lo, hi := hi, cond := cond
                                              action := if act = 0 then .protect else .detect } : ClearEntry)
    let refused := fun (kind code : Byte) =>
      exec (.setItem l ([n0, n1, idx] ++ record kind)) s = .next (s.pushReply l 0x10#8 code [] .nothing)
    let taken := fun (kind : Byte) (e : ClearEntry) =>
      (s.anyNonEnded = true → refused kind 27)
      ∧ (s.anyNonEnded = false → e ≠ s.items.clearance.get k → ∃ t : State,
        exec (.setItem l ([n0, n1, idx] ++ record kind)) s
          = .next (t.pushReply l 0x10#8 0 ([n0, n1, idx] ++ e.write) .nothing)
        ∧ t.ist = { s.ist with items := { s.items with clearance := s.items.clearance.set k e } }
        ∧ (∀ j, j ≠ k → (t.entryUnit j).lastA = (s.entryUnit j).lastA ∧ (t.entryUnit j).lastB = (s.entryUnit j).lastB)
        ∧ (s.inm.notReady = false → (t.entryUnit k).active = t.activeNow e ∧ (t.entryUnit k).inside = t.insideNow e)
        ∧ (s.inm.notReady = true → (t.entryUnit k).active = false ∧ (t.entryUnit k).inside = false)
        ∧ s.keepsBut t [.items, .clearance])
    (1 < en.toNat ∨ 1 < act.toNat → refused 0 5 ∧ refused 1 5)
    ∧ (∀ kind : Byte, 1 < kind.toNat → refused kind 5)
    ∧ (1 < st.toNat → refused 1 5)
    ∧ (en.toNat ≤ 1 → act.toNat ≤ 1 → st.toNat ≤ 1 →
    (g = .jacks ∨ hi < lo ∨ chi < clo ∨ h = g → refused 0 5)
    ∧ (g ≠ .jacks → lo ≤ hi → clo ≤ chi → h ≠ g → taken 0 (entry (.group h clo chi)))
    ∧ (g = .jacks ∨ hi < lo ∨ f = .none ∨ f = .generic → refused 1 5)
    ∧ (g ≠ .jacks → lo ≤ hi → f ≠ .none → f ≠ .generic →
        taken 1 (entry (.input f (if st = 0 then .closed else .opened)))))

/-- STORE_ITEMS and STORE_END (R196). With no store in progress a store begins for its link and no reply is built yet;
while one is in progress the request is refused STORING. At the store's end with no frame waiting: at a match the image
holds the working table with its check word, the item source becomes image and the reply is ACCEPTED; at a mismatch
STORE_FAIL is latched and returned, the image is left as found and the item source stays. That the image
is 1000 bytes with their crc16 as its check word is the model's layout (log entry 4). -/
def Obligations.StoreBeginsAndEnds : Prop :=
  (∀ (s : State) (l : Link), s.takes l →
    (s.ist.storing = none → s.Calm →
      ∃ t, exec (.storeItems l []) s = .next t ∧ Follows { s with ist := { s.ist with storing := some l } } t)
    ∧ (s.ist.storing.isSome = true → exec (.storeItems l []) s = .next (s.pushReply l 0x12#8 26 [] .nothing)))
  ∧ ∀ (s : State) (l : Link), s.Calm → s.liu.coach.buffer = [] → s.liu.service.buffer = [] →
    (s.ist.storing = none → ∀ found, exec (.storeEnd found) s = .next s)
    ∧ (s.ist.storing = some l →
      ∃ t : State, exec (.storeEnd none) s = .next (t.pushReply l 0x12#8 0 [] .nothing)
        ∧ Follows { s with ist := { s.ist with storing := none, image := s.items.image, source := .image } } t
        ∧ t.ist.image.check = crc16 t.ist.image.bytes ∧ t.ist.image.bytes.length = 1000)
    ∧ (∀ found, s.ist.storing = some l → found ≠ s.items.image →
      ∃ t : State, exec (.storeEnd (some found)) s = .next (t.pushReply l 0x12#8 31 [] .nothing)
        ∧ Follows ({ s with ist := { s.ist with storing := none, image := found } }.latch .storeFail) t
        ∧ t.ntu.faults.latched &&& FaultKind.storeFail.bit = FaultKind.storeFail.bit)

/-- SET_REFERENCE (R49): refused STORING, ATTITUDE, GROUP_ACTIVE and TOO_STEEP in this order; otherwise the offsets take
the filtered attitude, the drift timer stops, LEVELLED stands (the reported attitude is 0 on both axes, R50) and the
reply carries the offsets and the jacks condition. -/
def Obligations.SetReferenceTakesFiltered : Prop :=
  ∀ (s : State) (l : Link), s.takes l →
    (s.ist.storing.isSome = true → exec (.setReference l []) s = .next (s.pushReply l 0x13#8 26 [] .nothing))
    ∧ (s.ist.storing = none → s.atu.filtered = none →
      exec (.setReference l []) s = .next (s.pushReply l 0x13#8 17 [] .nothing))
    ∧ (∀ f, s.ist.storing = none → s.atu.filtered = some f →
      (s.jacksMoving || s.roomMoving) = true →
      exec (.setReference l []) s = .next (s.pushReply l 0x13#8 27 [] .nothing))
    ∧ (∀ f, s.ist.storing = none → s.atu.filtered = some f → (s.jacksMoving || s.roomMoving) = false →
      (f.pitch.natAbs > 500 ∨ f.roll.natAbs > 500 →
        exec (.setReference l []) s = .next (s.pushReply l 0x13#8 18 [] .nothing))
      ∧ (f.pitch.natAbs ≤ 500 → f.roll.natAbs ≤ 500 → s.Calm →
        ∃ t : State, exec (.setReference l []) s
            = .next (t.pushReply l 0x13#8 0 (outInt16 f.pitch ++ outInt16 f.roll ++ out8 s.jacksByte) .nothing)
          ∧ Follows { s with
              ist := { s.ist with items := { s.items with att := { s.items.att with refPitch := f.pitch, refRoll := f.roll } } }
              atu := { s.atu with drift := none } } t))

/-- RESET (R197 and the reset sentences of the chapters): with no store in progress the image stands and is loaded; the
table is empty with its counters at 0 and the internal tag counter at 240 (R1), the queue empty and both sums 0 (R27,
R29), the supply state LOW with no flag (R35), attitude invalid (R45), every valve closed and the pump off (R59), every
room and the awning off and unreferenced (R90, R92, R118), the wind window empty (R128), NOT_READY, awake and no wake
cause (R153), every group free and neither link with a frame or a reply (R168, R181), both change sets POWER alone
(R188) and RESTART latched with the cause (R190). A reset during a store (R196): the
flag is cleared with no reply, and the image holds the bytes and the check word written so far, in front of those that
stood beyond them; how many were written is free (log entry 3). The load (R197): the image that a store makes of a table
gives back that table, and one that no table with every value in its range or set makes, a wrong check word among them,
gives every default. The image's layout, and what is in a clearance entry's set, are the model's (log entry 4). -/
def Obligations.ResetLeaves : Prop :=
  (∀ (s : State) (c : SupplyReset), s.ist.storing = none →
    ∃ t, exec (.reset c) s = .next t
      ∧ t.pending = s.pending ∧ t.now = s.now ∧ t.draws = s.draws
      ∧ t.ist.image = s.ist.image ∧ (t.ist.items, t.ist.source) = loadImage s.ist.image ∧ t.ist.storing = none
      ∧ (∀ sl, t.opAt sl = none) ∧ t.opt.endedList = [] ∧ t.opt.admissions = 0 ∧ t.opt.ends = 0 ∧ t.opt.internalTag = 240
      ∧ t.sta.queue = [] ∧ t.sta.resSum = 0 ∧ t.sta.normalSum = 0 ∧ t.sta.stagger = none ∧ t.sta.samples = []
      ∧ t.sta.supply = .low ∧ t.sta.flags = { underSet := false, overSet := false, holdSet := false, cutSet := false }
      ∧ t.atu.window = [] ∧ t.atu.filtered = none ∧ t.atu.sensorFault = false ∧ t.atu.drift = none
      ∧ (∀ j, (t.jack j).extending = false ∧ (t.jack j).retracting = false ∧ (t.jack j).contact = false)
      ∧ t.lvc.pump = 0 ∧ t.lvc.levelled = false ∧ t.lvc.extension = 0
      ∧ (∀ n m, ((t.roomUnit n).motor m).driven = false ∧ ((t.roomUnit n).motor m).count = 0
          ∧ ((t.roomUnit n).motor m).coast = none ∧ (t.roomUnit n).referenced = false)
      ∧ t.awu.motor.driven = false ∧ t.awu.motor.count = 0 ∧ t.awu.referenced = false
      ∧ t.wind.window = [] ∧ t.wind.gateCount = 0 ∧ t.wind.trigger = false ∧ t.wind.lockout = none
      ∧ t.inm.notReady = true ∧ t.inm.parked = false ∧ t.inm.wakeCause = none ∧ (∀ i, (t.input i).debounced = none)
      ∧ (∀ l, (t.link l).assembler = .hunt ∧ (t.link l).buffer = [] ∧ (t.link l).replies = [])
      ∧ t.liu.watchdog = none ∧ t.liu.connected = false ∧ (∀ g, t.claimOf g = .free)
      ∧ t.ntu.coach = ChangeSet.empty.raise .power ∧ t.ntu.service = ChangeSet.empty.raise .power ∧ t.ntu.mask = 0
      ∧ t.ntu.faults.latched &&& FaultKind.restart.bit = FaultKind.restart.bit
      ∧ t.ntu.faults.cause = (match c with
          | .powerOn => RestartCause.powerOn
          | .brownout => RestartCause.brownout))
  ∧ (∀ (s : State) (c : SupplyReset) (l : Link), s.ist.storing = some l →
    ∃ (t : State) (n : Nat), exec (.reset c) s = .next t ∧ t.ist.storing = none
      ∧ t.ist.image.bytes ++ out16 t.ist.image.check.toNat
          = (s.items.image.bytes ++ out16 s.items.image.check.toNat).take n
            ++ (s.ist.image.bytes ++ out16 s.ist.image.check.toNat).drop n
      ∧ (t.ist.items, t.ist.source) = loadImage t.ist.image
      ∧ ∀ k, (t.link k).replies = [])
  ∧ (∀ t : Items, t.InRange → loadImage t.image = (t, .image))
  ∧ (∀ m : Image, (∀ t : Items, t.InRange → t.image ≠ m) → loadImage m = (Items.default, .defaulted))
  ∧ (∀ m : Image, crc16 m.bytes ≠ m.check → loadImage m = (Items.default, .defaulted))
  ∧ Items.default.InRange

/-! ### Requests on operations (R5 to R32) -/

/-- SUBMIT (R8 to R12): the tests in their order, each with the code of its refusal; a refused SUBMIT changes nothing but
the replies of its link. Step 2 tests kind, group, their pairing, sub, direction, value, configuration and tag (the order
of the field bytes among these is log entry 21, a JACK_JOG without a value log entry 14); the job it reads carries the
fields its kind takes, clamped. Step 3 asks for items not defaulted and every mandatory function held (R139). Step 9 by
kind (R65, R81, R82, R84, R94, R120; that an AWNING_SET without need of motion meets WIND_LOCKOUT by its target count is
log entry 67); step 10 asks whether an active PROTECT entry of the group holds the target offered (R159). -/
def Obligations.SubmitTestsInOrder : Prop :=
  (∀ (s : State) (l : Link) (p : List Byte) (q : Submit), s.takes l → Submit.read p = some q →
    let refused := fun (code : Byte) => exec (.submit l p) s = .next (s.pushReply l 0x03#8 code [] .nothing)
    (s.inm.notReady = true → refused 6)
    ∧ (s.inm.notReady = false → 8 < q.kind.toNat → refused 3)
    ∧ (s.inm.notReady = false → q.kind.toNat ≤ 8 → 5 < q.group.toNat → refused 4)
    ∧ (∀ (k : OpKind) (g : Group), s.inm.notReady = false → k ≠ .awningStow → k.code = q.kind.toNat →
        g.code = q.group.toNat →
      let pairs := match k with
        | .level | .ground | .jacksStow | .jackJog => g = .jacks
        | .roomOut | .roomIn | .roomJog => g.isRoom = true
        | _ => g = .awning
      let jog := k = .roomJog ∨ k = .awningJog
      let needsValue := jog ∨ k = .awningSet
      (¬ pairs → refused 3)
      ∧ (pairs →
        (k = .jackJog → q.hasSub = 0 → refused 3)
        ∧ (k = .jackJog → 1 < q.hasSub.toNat ∨ q.hasSub = 1 ∧ (q.sub = 0 ∨ 6 < q.sub.toNat) → refused 5)
        ∧ ((k = .jackJog → q.hasSub = 1 ∧ q.sub ≠ 0 ∧ q.sub.toNat ≤ 6) →
          (k = .jackJog ∨ jog → q.hasDir = 0 → refused 3)
          ∧ (k = .jackJog ∨ jog → 1 < q.hasDir.toNat ∨ q.hasDir = 1 ∧ 1 < q.dir.toNat → refused 5)
          ∧ ((k = .jackJog ∨ jog → q.hasDir = 1 ∧ q.dir.toNat ≤ 1) →
            (needsValue → q.hasValue = 0 → refused 3)
            ∧ (needsValue ∨ k = .level ∨ k = .jackJog → 1 < q.hasValue.toNat → refused 5)
            ∧ ((needsValue → q.hasValue = 1) → (k = .level ∨ k = .jackJog → q.hasValue.toNat ≤ 1) →
              (s.items.configured g = false → refused 4)
              ∧ (∀ j : Jack, k = .jackJog → j.val + 1 = q.sub.toNat → j ∉ s.items.jacks → refused 4)
              ∧ (s.items.configured g = true → (k = .jackJog → ∃ j ∈ s.items.jacks, j.val + 1 = q.sub.toNat) →
                (q.tag = 0 ∨ 240 ≤ q.tag.toNat → refused 5)
                ∧ (q.tag ≠ 0 → q.tag.toNat < 240 → ∃ j, s.readJob l q = .ok j ∧ j.kind = k ∧ j.group = g
                  ∧ (k = .jackJog → ∃ x, j.sub = some x ∧ x.val + 1 = q.sub.toNat) ∧ (k ≠ .jackJog → j.sub = none)
                  ∧ (k = .jackJog ∨ jog → j.dir = some (if q.dir = 0 then .outward else .inward))
                  ∧ (¬ (k = .jackJog ∨ jog) → j.dir = none)
                  ∧ (k = .jackJog → j.value = some (max 50 (min 5000 (if q.hasValue = 1 then q.value else 0))))
                  ∧ (jog → j.value = some (max 50 (min 3000 q.value)))
                  ∧ (k = .awningSet → j.value = some (min 1000 q.value))
                  ∧ (k = .level → j.value = if q.hasValue = 1 then some (max 5 (min 100 q.value)) else none)
                  ∧ (¬ needsValue → k ≠ .level → k ≠ .jackJog → j.value = none)
                  ∧ j.origin = (if l = .coach then .link else .service)
                  ∧ (j.bestEffort = true ↔ k = .level ∧ q.flags.getLsbD 0 = true)
                  ∧ (j.override = true ↔ l = .service ∧ q.flags.getLsbD 1 = true))))))))
    ∧ ∀ j, s.inm.notReady = false → s.readJob l q = .ok j →
      let mandatory := fun (f : Func) => f = .parkBrake ∨ f = .eStop ∨ (∃ n, f = .roomIn n ∧ s.items.configured (.room n) = true)
        ∨ (∃ k ∈ s.items.jacks, f = .jackUp k) ∨ f = .awningIn ∧ s.items.awn.present = true
      (s.ist.source = .defaulted → refused 7)
      ∧ (∀ f, mandatory f → (∀ i, s.funcOf i ≠ f) → refused 7)
      ∧ (s.ist.source = .image → (∀ f, mandatory f → ∃ i, s.funcOf i = f) →
        (l = .coach → s.claimed j.group = true → refused 8)
        ∧ (l = .service → s.claimed j.group = false → refused 8)
        ∧ (s.step4 (linkOrigin l) j.group = none →
          ((s.slotOfTag q.tag.toNat).isSome = true → refused 9)
          ∧ (s.slotOfTag q.tag.toNat = none →
            ((s.busySlot j.group).isSome = true → refused 10)
            ∧ (s.busySlot j.group = none →
              (3 ≤ s.normalCount → refused 11)
              ∧ (s.normalCount < 3 →
                (s.inm.coach.eStop = .stop → refused 12)
                ∧ (s.inm.coach.brake = .released → s.deploying j = true → refused 12)
                ∧ (s.inm.coach.ignition = true → j.kind = .roomOut → s.items.room.withIgnition = false → refused 12)
                ∧ (s.step8 j = none →
                  (∀ r, s.step9 j = some r → refused (BitVec.ofNat 8 r.code))
                  ∧ (s.step9 j = none →
                    (s.targetBarred j = true → refused 19)
                    ∧ (s.targetBarred j = false → s.items.normalBudget < s.items.reservation j → refused 20)))))))))
  ∧ ∀ (s : State) (j : Job),
    let out := ∃ n ∈ s.items.rooms, s.roomCondition n ≠ .inside
    let down := s.jacksCondition = .grounded ∨ s.jacksCondition = .levelled
    let free := j.origin = .service ∧ j.override = true
    let sensor := ∃ k ∈ s.items.jacks, (s.jack k).sensorFault = true
    let steep := ∃ x, s.reported = some x
      ∧ (s.items.jack.maxSolveTilt < x.pitch.natAbs ∨ s.items.jack.maxSolveTilt < x.roll.natAbs)
    let slides := out ∧ ¬ down ∧ ¬ free
    let jacksUp := s.items.room.needGround = true ∧ s.items.jacks ≠ [] ∧ ¬ down
    let windy := s.wind.lockout.isSome = true ∨ s.wind.trigger = true
    let gives := fun (r : Option Refuse) => s.step9 j = r
    (j.kind = .level →
      (s.atu.filtered = none → gives (some .attitude))
      ∧ (s.atu.filtered.isSome = true → (sensor → gives (some .jackSensor))
        ∧ (¬ sensor → (slides → gives (some .slidesOut))
          ∧ (¬ slides → (steep → gives (some .tooSteep)) ∧ (¬ steep → gives none)))))
    ∧ (j.kind = .ground → (sensor → gives (some .jackSensor))
      ∧ (¬ sensor → (slides → gives (some .slidesOut)) ∧ (¬ slides → gives none)))
    ∧ (j.kind = .jacksStow ∨ j.kind = .jackJog ∧ j.dir = some .inward →
      (out ∧ ¬ free → gives (some .slidesOut)) ∧ (¬ (out ∧ ¬ free) → gives none))
    ∧ (∀ k, j.kind = .jackJog → j.dir = some .outward → j.sub = some k →
      ((s.jack k).sensorFault = true → gives (some .jackSensor)) ∧ ((s.jack k).sensorFault = false → gives none))
    ∧ (∀ n, j.group = .room n → j.kind = .roomOut ∨ j.kind = .roomJog ∧ j.dir = some .outward →
      let unknown := s.roomCondition n = .unknown ∧ (j.kind = .roomJog → ¬ free)
      (unknown → gives (some .unreferenced))
      ∧ (¬ unknown → (jacksUp → gives (some .jacksUp)) ∧ (¬ jacksUp → gives none)))
    ∧ (j.kind = .roomIn ∨ j.kind = .awningJog ∧ j.dir = some .inward → gives none)
    ∧ (∀ n, j.group = .room n → j.kind = .roomJog → j.dir = some .inward → gives none)
    ∧ (∀ v, j.kind = .awningSet → j.value = some v →
      let unknown := 0 < v ∧ s.awningCondition = .unknown
      let outward := s.awu.motor.count < v * s.items.awn.travel / 1000
      (unknown → gives (some .unreferenced))
      ∧ (¬ unknown → (outward ∧ windy → gives (some .windLockout)) ∧ (¬ (outward ∧ windy) → gives none)))
    ∧ (j.kind = .awningJog → j.dir = some .outward →
      let unknown := s.awningCondition = .unknown ∧ ¬ free
      (unknown → gives (some .unreferenced))
      ∧ (¬ unknown → (windy → gives (some .windLockout)) ∧ (¬ windy → gives none)))
    ∧ (s.targetBarred j = true ↔ ∃ (v : Nat) (k : Entry),
      (j.kind = .roomOut ∧ v = 1000 ∨ j.kind = .roomIn ∧ v = 0 ∨ j.kind = .awningSet ∧ v = j.value.getD 0
        ∨ (j.kind = .roomJog ∨ j.kind = .awningJog) ∧ v = if j.dir = some .outward then 1000 else 0)
      ∧ (s.entryItem k).enabled = true ∧ (s.entryItem k).subject = j.group ∧ s.items.configured j.group = true
      ∧ (s.entryUnit k).active = true ∧ (s.entryItem k).action = .protect
      ∧ (s.entryItem k).lo ≤ v ∧ v ≤ (s.entryItem k).hi)

/-- SUBMIT that passes every step and needs motion (R5, R6, R13, R29, R30, R32): the record stands in the slot R6 gives
(the lowest free one, else that of the oldest ENDED record) with pass 0 and the next admission number, and joins the tail of
the queue; the reply carries the tag. Behind waiting operations it waits with QUEUE and nothing else moves. Alone in the
queue it is examined: a head that fails a test stays ADMITTED with the first obstacle as its wait reason, one that passes all
four is granted in the same event (`GrantLeaves`). The reservation by kind (R26). The model's choices: the reason of a NORMAL
head in CUT while the stagger timer runs (log entry 42), and the demanded duty that a grant leaves as it stood (52). That a
room is unreferenced at a grant is kept for R99 (45). -/
def Obligations.SubmitJoinsQueue : Prop :=
  (∀ (s : State) (l : Link) (p : List Byte) (q : Submit) (j : Job) (sl : Slot),
    s.takes l → Submit.read p = some q → s.inm.notReady = false → s.readJob l q = .ok j →
    s.admissionRefusal (linkOrigin l) (some q.tag.toNat) j = none → s.placeSlot = some sl →
    (∀ o ∈ s.opAt sl, o.state.isEnded = true) → s.idleJob j = false → s.Undisturbed →
    let o : Op := { tag := q.tag.toNat, job := j, state := .admitted .queue, pass := 0
                    admission := s.opt.admissions + 1, reservation := s.items.reservation j, resumed := false }
    let u : State := { s with
      opt := { s.opt with slots := s.opt.slots.set sl (some o), admissions := s.opt.admissions + 1
                          endedList := s.opt.endedList.filter (fun x => !(s.opAt sl).any (fun p => p.tag == x)) }
      sta := { s.sta with queue := s.sta.queue ++ [sl] }
      awu := if j.kind = .awningSet then { s.awu with setDir := some (s.setDirNow j), target := s.setTarget j } else s.awu
      lvc := if j.kind = .level then { s.lvc with groundDone := false } else s.lvc }
    let accepted := fun (P : State → Prop) =>
      ∃ t : State, exec (.submit l p) s = .next (t.pushReply l 0x03#8 0 [q.tag] .nothing) ∧ P t
    let waits := fun (w : WaitReason) => accepted (fun t =>
      t.opt = (u.setOp sl { o with state := .admitted w }).opt ∧ t.sta = u.sta ∧ t.awu = u.awu ∧ t.lvc = u.lvc
      ∧ s.keepsBut t [.table, .arbiter, .awning, .jacks] ∧ NoticesFollow s t)
    (s.noneWaiting → s.sta.queue = [] →
      (∀ w, s.blockedBy o = some w → waits w)
      ∧ ((∀ k, (s.entryItem k).enabled = false) → s.blockedBy o = none → accepted (fun t => u.GrantLeaves t sl o)))
    ∧ (s.Books → s.sta.queue ≠ [] → waits .queue))
  ∧ (∀ (s : State) (sl : Slot),
    (s.opAt sl = none → (∀ k, k < sl → (s.opAt k).isSome = true) → s.placeSlot = some sl)
    ∧ (∀ o oldest rest, (∀ k, (s.opAt k).isSome = true) → s.opt.endedList = oldest :: rest → s.opAt sl = some o →
      o.tag = oldest → (∀ k p, s.opAt k = some p → p.tag = oldest → k = sl) → s.placeSlot = some sl))
  ∧ ∀ (t : Items) (j : Job), j.kind.fits j.group = true →
    (j.kind = .level ∨ j.kind = .ground ∨ j.kind = .jackJog ∧ j.dir = some .outward → t.reservation j = t.supply.sharePump)
    ∧ (j.kind = .jacksStow ∨ j.kind = .jackJog ∧ j.dir = some .inward → t.reservation j = 0)
    ∧ (∀ n, j.group = .room n → t.reservation j = t.supply.shareRoomMotor * t.room.motors.get n)
    ∧ (j.group = .awning → t.reservation j = t.supply.shareAwning)

/-- SUBMIT that passes every step and needs no motion (R5, R6, R14): admitted and ended COMPLETE in the same event, with
its admission and its end number, no grant and no reservation; remaining 0 for a room or the awning, and for JACKS what
its kind's rule gives. When a job needs no motion, by kind (R65, R81, R82, R84, R95, R121). -/
def Obligations.SubmitNeedsNoMotion : Prop :=
  (∀ (s : State) (l : Link) (p : List Byte) (q : Submit) (j : Job) (sl : Slot),
    s.takes l → Submit.read p = some q → s.inm.notReady = false → s.readJob l q = .ok j →
    s.admissionRefusal (linkOrigin l) (some q.tag.toNat) j = none → s.placeSlot = some sl →
    (∀ o ∈ s.opAt sl, o.state.isEnded = true) → s.idleJob j = true → s.Calm →
    ∃ (t : State) (rem : Option Remaining), exec (.submit l p) s = .next (t.pushReply l 0x03#8 0 [q.tag] .nothing)
      ∧ t.opAt sl = some { tag := q.tag.toNat, job := j, state := .ended .complete rem (s.opt.ends + 1), pass := 0
                           admission := s.opt.admissions + 1, reservation := s.items.reservation j, resumed := false }
      ∧ (j.group ≠ .jacks → rem = some (.permille 0))
      ∧ (j.kind = .ground ∨ j.kind = .jacksStow → rem = some (.jacks []))
      ∧ (∀ k, j.kind = .jackJog → j.sub = some k → rem = some (.stroke (s.jack k).stroke))
      ∧ (∀ k, k ≠ sl → t.opAt k = s.opAt k)
      ∧ t.opt.admissions = s.opt.admissions + 1 ∧ t.opt.ends = s.opt.ends + 1
      ∧ t.opt.endedList = s.opt.endedList.filter (fun x => !(s.opAt sl).any (fun o => o.tag == x)) ++ [q.tag.toNat]
      ∧ t.sta = { s.sta with queue := s.sta.queue.filter (fun x => x != sl) }
      ∧ TagTold s t q.tag.toNat
      ∧ s.keepsBut t [.table, .arbiter, .awning, .jacks, .rooms, .claims])
  ∧ ∀ (s : State) (j : Job), j.kind.fits j.group = true →
    let rests := fun (p : Prop) => (s.idleJob j = true ↔ p)
    let gap := fun (target : Nat) => ((s.awu.motor.count : Int) - (target : Int)).natAbs
    (j.kind = .level → rests False)
    ∧ (j.kind = .ground → rests (∀ k ∈ s.items.jacks, (s.jack k).contact = true))
    ∧ (j.kind = .jacksStow → rests (s.jacksCondition = .stowed))
    ∧ (∀ k, j.kind = .jackJog → j.sub = some k →
      (j.dir = some .outward → rests (s.items.jack.strokeMax.get k - s.items.jack.strokeReserve ≤ (s.jack k).stroke))
      ∧ (j.dir = some .inward → rests (s.shut (.jackUp k) = true)))
    ∧ (∀ n, j.group = .room n →
      (j.kind = .roomOut → rests (s.roomCondition n = .outside)) ∧ (j.kind = .roomIn → rests (s.roomCondition n = .inside))
      ∧ (j.kind = .roomJog → j.dir = some .outward → rests ((s.roomUnit n).referenced = true
          ∧ ∀ m ∈ s.items.motors n, s.items.room.travel.get n ≤ ((s.roomUnit n).motor m).count))
      ∧ (j.kind = .roomJog → j.dir = some .inward → rests (s.roomCondition n = .inside)))
    ∧ (∀ v, j.kind = .awningSet → j.value = some v →
      (v = 0 → rests (s.awningCondition = .inside))
      ∧ (0 < v → rests (s.awu.referenced = true ∧ gap (v * s.items.awn.travel / 1000) ≤ s.awningProfile.endZone)))
    ∧ (j.kind = .awningJog → j.dir = some .outward → rests (s.awu.referenced = true ∧ s.items.awn.travel ≤ s.awu.motor.count))
    ∧ (j.kind = .awningJog → j.dir = some .inward → rests (s.awningCondition = .inside))

/-- STOP by state (R16, R18), by tag or by its group, of a NORMAL operation the link may stop: ADMITTED and HELD end CANCELLED(STOP) at
once; a RUNNING operation with an output still on goes to STOPPING with that destination, its demanded duty 0 or its
valves closed; STOPPING toward HELD takes the new destination, STOPPING toward an end keeps its own. STOP's refusals in their
order (R18, R173): a selector above 1, a tag not in use, a group code above 5, a group not configured, a group without an
operation, an operation the link does not own (from the coach link one whose group the service link claims, from the service
link one of another origin in a group it does not claim), the SAFETY class, an ENDED operation; none else. That in
BREAKAWAY the ramp acts at once while the breakaway timer runs on is log entry 18 (R97, R98). -/
def Obligations.StopActsByState : Prop :=
  let names := fun (s : State) (sel b : Byte) (sl : Slot) (o : Op) => s.opAt sl = some o
    ∧ (sel = 0 ∧ s.slotOfTag b.toNat = some sl
      ∨ sel = 1 ∧ ∃ g, g.code = b.toNat ∧ s.items.configured g = true ∧ o.job.group = g ∧ o.state.isEnded = false
        ∧ ∀ k p, s.opAt k = some p → p.job.group = g → p.state.isEnded = false → k = sl)
  (∀ (s : State) (l : Link) (sel b : Byte) (sl : Slot) (o : Op), s.takes l →
    names s sel b sl o → s.stopRefusal l o = none →
    ((o.state.isAdmitted || o.state.isHeld) = true → s.Undisturbed →
      (∀ k, k ≠ sl → ∀ p ∈ s.opAt k, p.state.isAdmitted = false) →
      ∃ t : State, exec (.stop l [sel, b]) s = .next (t.pushReply l 0x04#8 0 [] .nothing)
        ∧ EndsOp s t sl o (.cancelled .stop) (s.remainingOf o)
        ∧ s.keepsBut t [.table, .arbiter, .jacks, .rooms, .awning, .orders, .claims])
    ∧ (∀ n ph, o.state = .running ph → o.job.group = .room n → (s.roomUnit n).atRest = false → s.Calm →
      ∃ t : State, exec (.stop l [sel, b]) s = .next (t.pushReply l 0x04#8 0 [] .nothing)
        ∧ t.opt = (s.setOp sl { o with state := .stopping (.ended (.cancelled .stop)) ph }).opt
        ∧ t.roomUnit n = { s.roomUnit n with demanded := 0, breaking := false, jogTimer := none, pend := none }
        ∧ (∀ k, k ≠ n → t.roomUnit k = s.roomUnit k)
        ∧ s.keepsBut t [.table, .rooms])
    ∧ (∀ ph, o.state = .running ph → o.job.group = .awning → s.awu.motor.moving = true → s.Calm →
      ∃ t : State, exec (.stop l [sel, b]) s = .next (t.pushReply l 0x04#8 0 [] .nothing)
        ∧ t.opt = (s.setOp sl { o with state := .stopping (.ended (.cancelled .stop)) ph }).opt
        ∧ t.awu = { s.awu with demanded := 0, breaking := false, jogTimer := none, pend := none }
        ∧ s.keepsBut t [.table, .awning])
    ∧ (∀ ph, o.state = .running ph → o.job.group = .jacks → s.lvc.pump ≠ 0 → s.Calm →
      ∃ t : State, exec (.stop l [sel, b]) s = .next (t.pushReply l 0x04#8 0 [] .nothing)
        ∧ t.opt = (s.setOp sl { o with state := .stopping (.ended (.cancelled .stop)) ph }).opt
        ∧ (∀ k, (t.jack k).extending = false ∧ (t.jack k).retracting = false)
        ∧ t.lvc.timers = JackTimers.stopped ∧ t.lvc.pend = none
        ∧ t.lvc.pump = s.lvc.pump ∧ t.lvc.levelled = s.lvc.levelled
        ∧ s.keepsBut t [.table, .jacks])
    ∧ (∀ h ph, o.state = .stopping (.held h) ph → s.Calm →
      ∃ t : State, exec (.stop l [sel, b]) s = .next (t.pushReply l 0x04#8 0 [] .nothing)
        ∧ t.opt = (s.setOp sl { o with state := .stopping (.ended (.cancelled .stop)) ph }).opt
        ∧ s.keepsBut t [.table])
    ∧ (∀ r ph, o.state = .stopping (.ended r) ph → s.Calm →
      ∃ t : State, exec (.stop l [sel, b]) s = .next (t.pushReply l 0x04#8 0 [] .nothing) ∧ s.keepsBut t []))
  ∧ ∀ (s : State) (l : Link) (b : Byte), s.takes l →
    let refused := fun (sel : Byte) (code : Byte) =>
      exec (.stop l [sel, b]) s = .next (s.pushReply l 0x04#8 code [] .nothing)
    (∀ sel : Byte, 1 < sel.toNat → refused sel 5)
    ∧ (s.slotOfTag b.toNat = none → refused 0 22)
    ∧ (Group.ofCode b = none → refused 1 5)
    ∧ (∀ g, Group.ofCode b = some g → s.items.configured g = false → refused 1 4)
    ∧ (∀ g, Group.ofCode b = some g → s.items.configured g = true → s.busySlot g = none → refused 1 23)
    ∧ ∀ sel sl o, names s sel b sl o →
      let claimed := s.claimOf o.job.group ≠ .free
      let owns := l = .coach ∧ ¬ claimed ∨ l = .service ∧ (o.job.origin = .service ∨ claimed)
      (¬ owns → refused sel 8)
      ∧ (owns → o.job.kind = .awningStow → refused sel 24)
      ∧ (owns → o.job.kind ≠ .awningStow → o.state.isEnded = true → refused sel 23)
      ∧ (owns → o.job.kind ≠ .awningStow → o.state.isEnded = false → s.stopRefusal l o = none)

/-- HALT_ALL, from either link (R17, R19): every record ends, those in STOPPING toward an end with their own result,
the others with CANCELLED(HALT), ENDED records as they were; the ends join the ended list in ascending slot order (R5); the
outputs of each operation that moved are off, and the stagger timer stays. -/
def Obligations.HaltAllEndsAll : Prop :=
  ∀ (s : State) (l : Link), s.takes l → (s.awu.motor.driven = false → s.awu.ramped = 0) →
    ∃ t : State, exec (.haltAll l []) s = .next (t.pushReply l 0x05#8 0 [] .nothing)
      ∧ t.allEnded
      ∧ (∀ sl, s.opAt sl = none → t.opAt sl = none)
      ∧ (∀ sl o, s.opAt sl = some o →
        (o.state.isEnded = true → t.opAt sl = some o)
        ∧ (∀ r ph, o.state = .stopping (.ended r) ph → ∃ rem n,
            t.opAt sl = some { o with state := .ended r rem n, resumed := false })
        ∧ (o.state.isEnded = false → (∀ r ph, o.state ≠ .stopping (.ended r) ph) → ∃ rem n,
            t.opAt sl = some { o with state := .ended (.cancelled .halt) rem n, resumed := false })
        ∧ (o.state.active = true →
            (o.job.group = .jacks → t.lvc.pump = 0 ∧ ∀ k, (t.jack k).extending = false ∧ (t.jack k).retracting = false)
            ∧ (∀ n, o.job.group = .room n → (t.roomUnit n).noneDriven = true ∧ (t.roomUnit n).ramped = 0)
            ∧ (o.job.group = .awning → t.awu.motor.driven = false ∧ t.awu.ramped = 0)))
      ∧ t.opt.endedList = s.opt.endedList ++ s.newlyEnded t ∧ t.opt.ends = s.opt.ends + (s.newlyEnded t).length
      ∧ t.opt.admissions = s.opt.admissions
      ∧ ((∀ sl ∈ s.sta.queue, ∃ o, s.opAt sl = some o ∧ o.state.isEnded = false) → t.sta.queue = [])
      ∧ t.sta.stagger = s.sta.stagger ∧ t.sta.supply = s.sta.supply
      ∧ s.keepsBut t [.table, .arbiter, .jacks, .rooms, .awning, .orders, .claims]

/-- RESUME (R21, R29, R30, R32): NO_SUCH_TAG, WRONG_STATE and the repeated steps refuse and change nothing: step 4 on
behalf of the link that sends it, step 8, step 9 (its tests by kind: `SubmitTestsInOrder`), step 10, in this order.
Otherwise the HELD record becomes ADMITTED with the next admission number at the tail of its class, its pass, reservation
and origin kept. Behind waiting operations it waits with QUEUE; alone in the queue it is examined, and waits under the
first test it fails or is granted in the same event (`GrantLeaves`). The model's choices in that grant: a GROUND or a
JACK_JOG that needs no motion any more ends COMPLETE (log entry 44), LEVELLED is cleared also by a grant that ends at once
(17), and the demanded duty is left as it stood (52); the reason of a NORMAL head in CUT while the stagger timer runs
(42); and, where a held operation were of class SAFETY, which R20 excludes, a stagger timer kept by a stagger_time of 0
(43). What R99 and R122 keep until the operation ends, CREEP, the creep window and the RUN of an unreferenced room, is
kept through the hold (R20; of a room log entries 45 and 65). -/
def Obligations.ResumeReturnsToQueue : Prop :=
  ∀ (s : State) (l : Link) (b : Byte), s.takes l →
    (s.slotOfTag b.toNat = none → exec (.resume l [b]) s = .next (s.pushReply l 0x06#8 22 [] .nothing))
    ∧ ∀ sl o, s.slotOfTag b.toNat = some sl → s.opAt sl = some o →
      (o.state.isHeld = false → exec (.resume l [b]) s = .next (s.pushReply l 0x06#8 23 [] .nothing))
      ∧ (o.state.isHeld = true →
        let refused := fun (code : Byte) => exec (.resume l [b]) s = .next (s.pushReply l 0x06#8 code [] .nothing)
        let owns := l = .coach ∧ s.claimOf o.job.group = .free ∨ l = .service ∧ s.claimOf o.job.group ≠ .free
        let interlocked := s.inm.coach.eStop = .stop ∨ s.inm.coach.brake = .released ∧ s.deploying o.job = true
          ∨ s.inm.coach.ignition = true ∧ o.job.kind = .roomOut ∧ s.items.room.withIgnition = false
        (¬ owns → refused 8)
        ∧ (owns → interlocked → refused 12)
        ∧ (∀ r, owns → ¬ interlocked → s.step9 o.job = some r → refused (BitVec.ofNat 8 r.code))
        ∧ (owns → ¬ interlocked → s.step9 o.job = none → s.targetBarred o.job = true → refused 19)
        ∧ (owns → ¬ interlocked → s.step9 o.job = none → s.targetBarred o.job = false → s.Undisturbed →
          let n := s.opt.admissions + 1
          let p : Op := { o with state := .admitted .queue, admission := n, resumed := true }
          let u : State := { s with
            opt := { s.opt with slots := s.opt.slots.set sl (some p), admissions := n }
            sta := { s.sta with queue := s.sta.queue ++ [sl] } }
          let accepted := fun (P : State → Prop) =>
            ∃ t : State, exec (.resume l [b]) s = .next (t.pushReply l 0x06#8 0 [] .nothing) ∧ P t
          let waits := fun (w : WaitReason) => accepted (fun t =>
            t.opt = (u.setOp sl { p with state := .admitted w }).opt ∧ t.sta = u.sta ∧ s.keepsBut t [.table, .arbiter])
          (s.noneWaiting → s.sta.queue = [] →
            (∀ w, s.blockedBy o = some w → waits w)
            ∧ (s.onePerGroup → (∀ k, (s.entryItem k).enabled = false) → s.blockedBy o = none →
              accepted (fun t => u.GrantLeaves t sl p)))
          ∧ (s.Books → s.sta.queue ≠ [] → o.opClass = .normal → waits .queue)))

/-- DISMISS (R7): of an ENDED record's tag, and of all, frees the slots and takes the tags off the ended list; of a
non-ended record it is refused WRONG_STATE, of a tag not in use NO_SUCH_TAG. -/
def Obligations.DismissFreesSlots : Prop :=
  ∀ (s : State) (l : Link) (b : Byte), s.takes l →
    (b.toNat ≠ 0 → s.slotOfTag b.toNat = none →
      exec (.dismiss l [b]) s = .next (s.pushReply l 0x07#8 22 [] .nothing))
    ∧ (∀ sl o, b.toNat ≠ 0 → s.slotOfTag b.toNat = some sl → s.opAt sl = some o →
      (o.state.isEnded = false → exec (.dismiss l [b]) s = .next (s.pushReply l 0x07#8 23 [] .nothing))
      ∧ (o.state.isEnded = true → s.Calm →
        ∃ t : State, exec (.dismiss l [b]) s = .next (t.pushReply l 0x07#8 0 [] .nothing)
          ∧ t.opAt sl = none ∧ (∀ k, k ≠ sl → t.opAt k = s.opAt k)
          ∧ t.opt.endedList = s.opt.endedList.filter (fun x => x != o.tag)
          ∧ t.opt.ends = s.opt.ends ∧ t.opt.admissions = s.opt.admissions
          ∧ s.keepsBut t [.table]))
    ∧ (s.Calm →
      ∃ t : State, exec (.dismiss l [0x00#8]) s = .next (t.pushReply l 0x07#8 0 [] .nothing)
        ∧ (∀ sl, t.opAt sl = (s.opAt sl).filter (fun o => !o.state.isEnded))
        ∧ (∀ x, x ∈ t.opt.endedList ↔
            x ∈ s.opt.endedList ∧ ∀ sl o, s.opAt sl = some o → o.state.isEnded = true → o.tag ≠ x)
        ∧ t.opt.ends = s.opt.ends ∧ t.opt.admissions = s.opt.admissions
        ∧ s.keepsBut t [.table])

/-! ### Claims (R174, R183, R184) -/

/-- CLAIM and RELEASE on the service link. A bit set with bit 6 or 7 or an unconfigured group is refused BAD_GROUP, and
from the coach link both are refused WRONG_LINK. In each group of a CLAIM that was free the operations of LINK origin, and
of INTERNAL origin and class NORMAL, are cancelled CANCELLED(CLAIMED), the ends joining the ended list in ascending slot
order (R5); the group becomes claimed where it then holds none of them, and pending where one ramps down, until that one has
left STOPPING. A group claimed or pending before stays. RELEASE makes each group of its set free. Every other group and
every other operation stay, CLAIMS is raised where the map changed, and the reply carries the map. -/
def Obligations.ClaimAndRelease : Prop :=
  (∀ (s : State) (m : Byte),
    (s.takes .coach →
      exec (.claim .coach [m]) s = .next (s.pushReply .coach 0x18#8 29 [] .nothing)
      ∧ exec (.release .coach [m]) s = .next (s.pushReply .coach 0x19#8 29 [] .nothing))
    ∧ (s.takes .service → s.claimSetOk m = false →
      exec (.claim .service [m]) s = .next (s.pushReply .service 0x18#8 4 [] .nothing)
      ∧ exec (.release .service [m]) s = .next (s.pushReply .service 0x19#8 4 [] .nothing))
    ∧ (s.claimSetOk m = true ↔ m.toNat < 64 ∧ ∀ g ∈ groupsOf m, s.items.configured g = true)
    ∧ (s.takes .service → s.claimSetOk m = true → s.Calm → (∀ g ∈ groupsOf m, s.hostBusy g = false) →
      ∃ t : State, exec (.claim .service [m]) s = .next (t.pushReply .service 0x18#8 0 [t.claimsByte] .nothing)
        ∧ (∀ g ∈ groups, t.claimOf g = if g ∈ groupsOf m ∧ s.claimOf g = .free then .claimed else s.claimOf g)
        ∧ (t.liu.claims ≠ s.liu.claims → t.ntu.coach.cats &&& Category.claims.bit = Category.claims.bit
            ∧ t.ntu.service.cats &&& Category.claims.bit = Category.claims.bit)
        ∧ s.keepsBut t [.claims])
    ∧ (let taken := fun (g : Group) => g ∈ groupsOf m ∧ s.claimOf g = .free
      let host := fun (o : Op) => o.job.origin = .link ∨ o.job.origin = .internal ∧ o.opClass = .normal
      s.takes .service → s.claimSetOk m = true → s.Undisturbed → (∀ g, s.claimLaw g) →
      (∀ sl o, s.opAt sl = some o → o.state.isAdmitted = true → taken o.job.group ∧ host o) →
      ∃ t : State, exec (.claim .service [m]) s = .next (t.pushReply .service 0x18#8 0 [t.claimsByte] .nothing)
        ∧ s.eachRecord t (fun o => decide (taken o.job.group ∧ host o)) (fun o after => s.CancelLeaves o (.cancelled .claimed) after)
        ∧ t.opt.endedList = s.opt.endedList ++ s.newlyEnded t ∧ t.opt.ends = s.opt.ends + (s.newlyEnded t).length
        ∧ (∀ g ∈ groups,
          (¬ taken g → t.claimOf g = s.claimOf g)
          ∧ (taken g → t.claimOf g
            = if ∃ sl o, t.opAt sl = some o ∧ o.job.group = g ∧ o.state.isEnded = false ∧ host o then .pending else .claimed))
        ∧ (t.liu.claims ≠ s.liu.claims → t.ntu.coach.cats &&& Category.claims.bit = Category.claims.bit
            ∧ t.ntu.service.cats &&& Category.claims.bit = Category.claims.bit)
        ∧ s.keepsBut t [.table, .arbiter, .jacks, .rooms, .awning, .orders, .claims])
    ∧ (s.takes .service → s.claimSetOk m = true → s.Calm →
      ∃ t : State, exec (.release .service [m]) s = .next (t.pushReply .service 0x19#8 0 [t.claimsByte] .nothing)
        ∧ (∀ g ∈ groups, t.claimOf g = if g ∈ groupsOf m then .free else s.claimOf g)
        ∧ (t.liu.claims ≠ s.liu.claims → t.ntu.coach.cats &&& Category.claims.bit = Category.claims.bit
            ∧ t.ntu.service.cats &&& Category.claims.bit = Category.claims.bit)
        ∧ s.keepsBut t [.claims]))
  ∧ ∀ (s : State) (c : Channel) (sl : Slot) (o : Op) (r : Result) (ph : Option Phase),
    let n := channelRoom c
    s.Calm → (∀ g, s.claimLaw g) → s.onePerGroup → s.claimOf (.room n) = .pending →
    s.activeOp (.room n) = some (sl, o) → o.state = .stopping (.ended r) ph →
    ((s.roomUnit n).motor (channelMotor c)).coast.isSome = true →
    ((s.modRoomMotor n (channelMotor c) (fun x => { x with coast := none })).roomUnit n).atRest = true →
    ∃ t, exec (.roomCoastExpiry c) s = .next t ∧ EndsOp s t sl o r (s.remainingOf o)
      ∧ t.claimOf (.room n) = .claimed ∧ ∀ g, g ≠ .room n → t.claimOf g = s.claimOf g

/-! ### Power (R148, R149, R152, R153, R171, R199) -/

/-- PARK and RESTART (R148, R199): their refusals in order, a PARK from the service link past the first two tests among
them, and the accepted request, whose effect waits for the last byte of its reply; an accepted PARK holds back the frames
of both links meanwhile. -/
def Obligations.ParkAndRestartAccepted : Prop :=
  ∀ (s : State) (l : Link), s.takes l →
    (s.inm.notReady = true → exec (.park l []) s = .next (s.pushReply l 0x16#8 6 [] .nothing))
    ∧ (s.inm.notReady = false → s.anyNonEnded = true → exec (.park l []) s = .next (s.pushReply l 0x16#8 25 [] .nothing))
    ∧ (s.inm.notReady = false → s.anyNonEnded = false →
      s.shut .ignition = true ∨ s.liu.connected = true ∨ l = .service →
      exec (.park l []) s = .next (s.pushReply l 0x16#8 12 [] .nothing))
    ∧ (l = .coach → s.inm.notReady = false → s.anyNonEnded = false → s.shut .ignition = false → s.liu.connected = false →
      (s.ist.storing.isSome = true → exec (.park l []) s = .next (s.pushReply l 0x16#8 26 [] .nothing))
      ∧ (s.ist.storing = none →
        ∃ t : State, exec (.park l []) s = .next (t.pushReply l 0x16#8 0 [] .park)
          ∧ t = { s with liu := { s.liu with parkWait := true } } ∧ ∀ k, t.mayTake k = false))
    ∧ (s.ist.storing.isSome = true → exec (.restart l []) s = .next (s.pushReply l 0x17#8 26 [] .nothing))
    ∧ (s.ist.storing = none → exec (.restart l []) s = .next (s.pushReply l 0x17#8 0 [] .restart))

/-- REPLY_SENT (R148, R171): the head of the link's replies is gone; the reply of a RESTART resets the part with cause
REQUEST and cuts both links short; that of a PARK enters parked, or, where the service link has connected meanwhile,
leaves the part awake and taking frames again. -/
def Obligations.ReplySentTakesEffect : Prop :=
  ∀ (s : State) (l : Link),
    ((s.link l).replies = [] → exec (.replySent l) s = .next s)
    ∧ ∀ r rest, (s.link l).replies = r :: rest →
      (r.after = .nothing → exec (.replySent l) s = .next (s.modLink l (fun u => { u with replies := rest })))
      ∧ (r.after = .restart → ∃ t, exec (.replySent l) s = .next t
          ∧ t.ntu.faults.cause = .request ∧ t.ntu.faults.latched &&& FaultKind.restart.bit = FaultKind.restart.bit
          ∧ t.inm.notReady = true ∧ (∀ sl, t.opAt sl = none) ∧ (t.ist.items, t.ist.source) = loadImage t.ist.image
          ∧ (s.ist.storing = none → t.ist.image = s.ist.image)
          ∧ ∀ k, (t.link k).replies = [] ∧ (t.link k).buffer = [] ∧ (t.link k).assembler = .hunt)
      ∧ (r.after = .park → s.inm.parked = false → s.anyNonEnded = false → s.liu.connected = true →
          s.liu.coach.buffer = [] → s.liu.service.buffer = [] →
          exec (.replySent l) s
            = .next { s.modLink l (fun u => { u with replies := rest }) with
                liu := { (s.modLink l (fun u => { u with replies := rest })).liu with parkWait := false } })
      ∧ (r.after = .park → s.inm.parked = false → s.anyNonEnded = false → s.liu.connected = false →
          s.liu.coach.buffer = [] → s.liu.service.buffer = [] →
          ∃ t, exec (.replySent l) s = .next t ∧ EntersParked (s.modLink l (fun u => { u with replies := rest })) t)

/-- The entry to parked and the wake (R147, R149, R152, R153). IDLE_TIMER_EXPIRY of a running timer enters parked;
stopped it does nothing. WAKE_ON_FRAME_START wakes a parked part with the cause of its link, raises POWER on both links
and restarts the watchdog that was noted; a pending polled value becomes the debounced state of its input, with its notice,
and a reading seen at one poll only starts the debounce timer (an input set faulty holds its value: log entry 26). An awake
part stays as it is. -/
def Obligations.IdleParksAndFrameWakes : Prop :=
  ∀ s : State,
    (s.inm.idleTimer = none → exec .idleTimerExpiry s = .next s)
    ∧ (s.inm.idleTimer.isSome = true → s.allEnded → s.liu.coach.buffer = [] → s.liu.service.buffer = [] →
      ∃ t, exec .idleTimerExpiry s = .next t ∧ EntersParked s t)
    ∧ ∀ l : Link,
      (s.inm.parked = false → exec (.wakeOnFrameStart l) s = .next s)
      ∧ (s.inm.parked = true → s.Calm →
        (∀ i, (s.input i).pending.isSome = true → s.funcOf i = .generic ∨ s.funcOf i = .door ∨ s.funcOf i = .ignition) →
        ∃ t, exec (.wakeOnFrameStart l) s = .next t
          ∧ t.inm.parked = false ∧ t.inm.pollTimer = none
          ∧ t.inm.wakeCause = some (match l with
              | .coach => .link
              | .service => .service)
          ∧ t.inm.coach = t.coachNow ∧ t.inm.notReady = s.inm.notReady
          ∧ (∀ i,
            (∀ c, (s.input i).pending = some c → (s.input i).fault = false →
              t.input i = { s.input i with debounced := some c, debounce := none, lastPoll := none, pending := none }
              ∧ (s.items.inp.notice.get i = true → t.ntu.coach.inputs &&& bitAt 24 i.val = bitAt 24 i.val
                ∧ t.ntu.service.inputs &&& bitAt 24 i.val = bitAt 24 i.val))
            ∧ ((s.input i).pending.isSome = true → (s.input i).fault = true →
              t.input i = { s.input i with lastPoll := none, pending := none })
            ∧ ((s.input i).pending = none →
              (∀ c, (s.input i).lastPoll = some c → (s.input i).fault = false → (s.input i).debounced ≠ some c →
                t.input i = { s.input i with debounce := some (s.now + s.items.inp.debounce), lastPoll := none })
              ∧ ((s.input i).lastPoll = none ∨ (s.input i).fault = true ∨ (s.input i).debounced = (s.input i).lastPoll →
                t.input i = { s.input i with lastPoll := none })))
          ∧ ((∀ i, (s.input i).pending = none) → t.ntu.coach.inputs = s.ntu.coach.inputs)
          ∧ t.liu = { s.liu with
              watchdog := if s.liu.watchdogNoted = true ∧ s.items.linkWatchdog ≠ 0
                          then some (s.now + s.items.linkWatchdog * 1000) else s.liu.watchdog
              watchdogNoted := false }
          ∧ t.ntu.coach.cats &&& Category.power.bit = Category.power.bit
          ∧ t.ntu.service.cats &&& Category.power.bit = Category.power.bit
          ∧ s.keepsBut t [.inputs, .links])

/-- PARK_POLL (R150, R151): awake it does nothing. Parked, the counter moves on through 1 to 4, the poll timer restarts,
and each input whose turn it is has its reading written as its last poll reading; where every reading agrees with its
debounced state the part stays parked. The second reading in a row that differs, of an input with wake_enable, wakes the
part with that input as cause, and the change is applied. -/
def Obligations.ParkPollReadsInputs : Prop :=
  ∀ (s : State) (levels : Bank Level 24),
    (s.inm.parked = false → exec (.parkPoll levels) s = .next s)
    ∧ (s.inm.parked = true → s.inm.pollTimer.isSome = true → s.Calm →
      let counter := if s.inm.pollCount < 4 then s.inm.pollCount + 1 else 1
      let turn := fun (i : Input) => s.funcOf i ≠ .none ∧ (counter = 4 ∨ s.items.inp.slow.get i = false)
      let reads := fun (i : Input) => readLevel (s.items.inp.invert.get i) (levels.get i)
      let held := fun (i : Input) => (s.input i).debounced.getD .opened
      let agrees := fun (i : Input) => reads i = .short ∨ (reads i).contact = some (held i)
      ((∀ i, turn i → agrees i) →
        ∃ t, exec (.parkPoll levels) s = .next t
          ∧ t.inm.parked = true ∧ t.inm.pollCount = counter ∧ t.inm.pollTimer = some (s.now + s.items.inp.pollTime)
          ∧ (∀ i, turn i → t.input i
              = { s.input i with level := levels.get i, lastPoll := some (held i), pending := none })
          ∧ (∀ i, ¬ turn i → t.input i = s.input i)
          ∧ t.inm.coach = s.inm.coach ∧ t.inm.wakeCause = s.inm.wakeCause
          ∧ s.keepsBut t [.inputs])
      ∧ (∀ k c, turn k → (∀ i, i ≠ k → turn i → agrees i) → (∀ i, i ≠ k → (s.input i).pending = none) →
        (∀ i, i ≠ k → ¬ turn i → (s.input i).lastPoll = none) →
        (reads k).contact = some c → c ≠ held k → s.funcOf k = .generic → (s.input k).fault = false →
        (s.input k).lastPoll = some c → s.items.inp.wake.get k = true →
        ∃ t, exec (.parkPoll levels) s = .next t
          ∧ t.inm.parked = false ∧ t.inm.wakeCause = some (.input k) ∧ t.inm.pollTimer = none
          ∧ (t.input k).debounced = some c ∧ (t.input k).lastPoll = none ∧ (t.input k).pending = none
          ∧ (∀ i, i ≠ k → (t.input i).debounced = (s.input i).debounced ∧ (t.input i).lastPoll = none)
          ∧ t.ntu.coach.cats &&& Category.power.bit = Category.power.bit
          ∧ t.ntu.service.cats &&& Category.power.bit = Category.power.bit
          ∧ (s.items.inp.notice.get k = true → t.ntu.coach.inputs &&& bitAt 24 k.val = bitAt 24 k.val)
          ∧ s.keepsBut t [.inputs, .links]))

/-! ### Silence and the supply (R20, R30 to R41, R180, R182) -/

/-- The two holds (R20, R39, R180). WATCHDOG_EXPIRY of a running watchdog makes WATCHDOG present and holds every LINK
operation of class NORMAL with LINK_SILENT; with stow_on_link_loss, where a stow is due (R131), it then admits an AWNING_STOW
under the next internal tag, an awning operation of class NORMAL being superseded first (R22). HOLD_TIMER_EXPIRY of a running
timer sets the hold flag and, with the cut flag clear and HOLD not yet judged, makes the supply state HOLD, raises SUPPLY and
holds every NORMAL operation with SUPPLY_LOW. A stopped timer's expiry does nothing. -/
def Obligations.SilenceAndLowSupplyHold : Prop :=
  ∀ s : State,
    (s.liu.watchdog = none → exec .watchdogExpiry s = .next s)
    ∧ (s.liu.watchdog.isSome = true → (s.items.awn.stowOnLinkLoss = false ∨ s.stowDue = false) → s.Undisturbed →
      (∀ sl o, s.opAt sl = some o → o.state.isAdmitted = true → o.job.origin = .link ∧ o.opClass = .normal) →
      ∃ t, exec .watchdogExpiry s = .next t
        ∧ t.liu = { s.liu with watchdog := none, silent := true, claims := t.liu.claims }
        ∧ t.ntu.faults.present &&& FaultKind.watchdog.bit = FaultKind.watchdog.bit
        ∧ s.eachRecord t (fun o => o.job.origin == .link) (fun o after => s.HoldLeaves o .linkSilent after)
        ∧ t.opt.ends = s.opt.ends ∧ t.opt.endedList = s.opt.endedList ∧ t.opt.admissions = s.opt.admissions
        ∧ t.sta.stagger = s.sta.stagger ∧ t.sta.supply = s.sta.supply
        ∧ s.keepsBut t [.table, .arbiter, .jacks, .rooms, .awning, .links, .orders, .claims])
    ∧ (∀ sl, s.liu.watchdog.isSome = true → s.items.awn.stowOnLinkLoss = true → s.stowDue = true → s.Undisturbed →
      (∀ k o, s.opAt k = some o → o.state.isAdmitted = true → o.job.origin = .link ∧ o.opClass = .normal) →
      (∀ q ∈ s.sta.queue, ∃ o, s.opAt q = some o ∧ o.state.isAdmitted = true) →
      s.opAt sl = none → (∀ i, i < sl → (s.opAt i).isSome = true) → s.onePerGroup →
      ∃ t st, exec .watchdogExpiry s = .next t
        ∧ t.liu = { s.liu with watchdog := none, silent := true, claims := t.liu.claims }
        ∧ t.opAt sl = some { tag := s.internalTag, job := stowJob, state := st, pass := 0, admission := s.opt.admissions + 1
                             reservation := s.items.supply.shareAwning, resumed := false }
        ∧ (st = .running (some .move) ∨ ∃ w, st = .admitted w)
        ∧ (st = .running (some .move) → t.awu.motor.driven = true ∧ t.awu.motor.dir = some .inward)
        ∧ (∀ k, k ≠ sl → s.opAt k = none → t.opAt k = none)
        ∧ (∀ k o, s.opAt k = some o →
          (o.job.group = .awning → o.state.isEnded = false → ∃ rem m, t.opAt k = some { o with
            state := .ended (match o.state with
              | .stopping (.ended r) _ => r
              | _ => .cancelled .superseded) rem m
            resumed := false })
          ∧ (o.job.group ≠ .awning ∨ o.state.isEnded = true →
            (o.job.origin = .link → ∃ after, t.opAt k = some after ∧ s.HoldLeaves o .linkSilent after)
            ∧ (o.job.origin ≠ .link → t.opAt k = some o)))
        ∧ t.opt.admissions = s.opt.admissions + 1 ∧ t.opt.internalTag = nextTag s.internalTag
        ∧ s.keepsBut t [.table, .arbiter, .jacks, .rooms, .awning, .links, .orders, .claims])
    ∧ (s.sta.holdTimer = none → exec .holdTimerExpiry s = .next s)
    ∧ (s.sta.holdTimer.isSome = true → s.sta.flags.cutSet = false → s.sta.supply ≠ .hold → s.Undisturbed →
      (∀ sl o, s.opAt sl = some o → o.state.isAdmitted = true → o.opClass = .normal) →
      ∃ t, exec .holdTimerExpiry s = .next t
        ∧ t.sta.holdTimer = none ∧ t.sta.flags = { s.sta.flags with holdSet := true } ∧ t.sta.supply = .hold
        ∧ t.sta.stagger = s.sta.stagger ∧ t.sta.filtered = s.sta.filtered ∧ t.sta.samples = s.sta.samples
        ∧ s.eachRecord t (fun _ => true) (fun o after => s.HoldLeaves o .supplyLow after)
        ∧ t.opt.ends = s.opt.ends ∧ t.opt.endedList = s.opt.endedList ∧ t.opt.admissions = s.opt.admissions
        ∧ t.ntu.coach.cats &&& Category.supply.bit = Category.supply.bit
        ∧ t.ntu.service.cats &&& Category.supply.bit = Category.supply.bit
        ∧ s.keepsBut t [.table, .arbiter, .jacks, .rooms, .awning, .orders, .claims])
    ∧ (s.sta.holdTimer.isSome = true → s.sta.flags.cutSet = true → s.sta.supply = .cut → s.Calm →
      ∃ t, exec .holdTimerExpiry s = .next t
        ∧ Follows { s with sta := { s.sta with holdTimer := none, flags := { s.sta.flags with holdSet := true } } } t)

/-- SERVICE_SILENCE_EXPIRY of a running timer (R182): the connection flag is clear, every group free, CLAIMS raised on
both links, and every operation of SERVICE origin is cancelled with SERVICE_LOST; others stay. -/
def Obligations.ServiceSilenceCancels : Prop :=
  ∀ s : State,
    (s.liu.silence = none → exec .serviceSilenceExpiry s = .next s)
    ∧ (s.liu.silence.isSome = true → s.Undisturbed →
      (∀ sl o, s.opAt sl = some o → o.state.isAdmitted = true → o.job.origin = .service) →
      ∃ t, exec .serviceSilenceExpiry s = .next t
        ∧ t.liu = { s.liu with silence := none, connected := false, claims := t.liu.claims }
        ∧ (∀ g ∈ groups, t.claimOf g = .free)
        ∧ s.eachRecord t (fun o => o.job.origin == .service)
            (fun o after => s.CancelLeaves o (.cancelled .serviceLost) after)
        ∧ t.ntu.coach.cats &&& Category.claims.bit = Category.claims.bit
        ∧ t.ntu.service.cats &&& Category.claims.bit = Category.claims.bit
        ∧ t.opt.admissions = s.opt.admissions ∧ t.sta.stagger = s.sta.stagger ∧ t.sta.supply = s.sta.supply
        ∧ s.keepsBut t [.table, .arbiter, .jacks, .rooms, .awning, .links, .orders, .claims])

/-- SUPPLY_SAMPLE (R35 to R37, R40), awake or parked. While fewer than eight samples stand, the sample joins them. From
the eighth on the filtered voltage, the four flags, the hold timer and the state follow; the first judged state and an
unchanged one raise nothing, another change raises SUPPLY on both links. At an entry to CUT every RUNNING operation ends
FAILED(SUPPLY), every STOPPING one with the end it was headed for or else so, and every other record stays. With operations
waiting, an entry to NORMAL or LOW examines the head against the new state (R30, R38, R41). At an entry to HOLD, from CUT as
from any other state, every NORMAL operation gets a hold with SUPPLY_LOW, the waiting ones among them, which leave the queue
(R39, R41); a waiting stow that the budget has room for is granted. The model's choices: a grant with stagger_time 0 leaves
an earlier stagger timer running (log entry 43, of a stow granted on leaving CUT), and the reason of a NORMAL head in CUT while
that timer runs (42). -/
def Obligations.SupplySampleJudges : Prop :=
  (∀ (s : State) (v : Nat), s.Books → s.Plain →
    ∃ t, exec (.supplySample v) s = .next t
      ∧ (t.sta.supply = .normal ∨ t.sta.supply = .low ∨ t.sta.supply = s.sta.supply →
          Examined { s with sta := { s.sta with supply := t.sta.supply } } t)
      ∧ (t.sta.supply = .hold → s.sta.supply ≠ .hold →
          (∀ sl o, s.opAt sl = some o →
            (o.opClass = .normal → ∃ after, t.opAt sl = some after ∧ s.HoldLeaves o .supplyLow after)
            ∧ (o.opClass = .safety → o.state.isAdmitted = false → t.opAt sl = some o)
            ∧ (o.opClass = .safety → o.state.isAdmitted = true →
              s.sta.resSum + o.reservation ≤ s.items.supply.budgetLimit →
              ∃ st, t.opAt sl = some { o with state := st, resumed := false }
                ∧ (st.isRunning = true ∨ st.isEnded = true)))
          ∧ ∀ sl ∈ t.sta.queue, ∃ o, t.opAt sl = some o ∧ o.opClass = .safety))
  ∧ ∀ (s : State) (v : Nat), s.Calm →
    (s.sta.samples.length < 7 →
      ∃ t, exec (.supplySample v) s = .next t
        ∧ Follows { s with sta := { s.sta with samples := s.sta.samples ++ [v] } } t)
    ∧ ∀ (window : List Nat) (x : Nat),
      (s.sta.samples.length = 7 ∧ window = s.sta.samples ++ [v]
        ∨ s.sta.samples.length = 8 ∧ window = s.sta.samples.drop 1 ++ [v]) →
      x = (window.sum + 4) / 8 →
      ∃ t, exec (.supplySample v) s = .next t
        ∧ t.sta.samples = window ∧ t.sta.filtered = some x
        ∧ (x < s.items.supply.vAdmit → t.sta.flags.underSet = true)
        ∧ (s.items.supply.vAdmit + s.items.supply.hysteresis ≤ x → t.sta.flags.underSet = false)
        ∧ (s.items.supply.vAdmit ≤ x → x < s.items.supply.vAdmit + s.items.supply.hysteresis →
            t.sta.flags.underSet = s.sta.flags.underSet)
        ∧ (s.items.supply.vOver < x → t.sta.flags.overSet = true)
        ∧ (x + s.items.supply.hysteresis ≤ s.items.supply.vOver → t.sta.flags.overSet = false)
        ∧ (x ≤ s.items.supply.vOver → s.items.supply.vOver < x + s.items.supply.hysteresis →
            t.sta.flags.overSet = s.sta.flags.overSet)
        ∧ (s.items.supply.vHold + s.items.supply.hysteresis ≤ x → t.sta.flags.holdSet = false)
        ∧ (x < s.items.supply.vHold + s.items.supply.hysteresis → t.sta.flags.holdSet = s.sta.flags.holdSet)
        ∧ (x < s.items.supply.vCut → t.sta.flags.cutSet = true)
        ∧ (s.items.supply.vCut + s.items.supply.hysteresis ≤ x → t.sta.flags.cutSet = false)
        ∧ (s.items.supply.vCut ≤ x → x < s.items.supply.vCut + s.items.supply.hysteresis →
            t.sta.flags.cutSet = s.sta.flags.cutSet)
        ∧ (s.items.supply.vHold ≤ x → t.sta.holdTimer = none)
        ∧ (x < s.items.supply.vHold → s.sta.holdTimer = none → s.sta.flags.holdSet = false →
            t.sta.holdTimer = some (s.now + 500))
        ∧ (∀ e, x < s.items.supply.vHold → s.sta.holdTimer = some e → t.sta.holdTimer = some e)
        ∧ t.sta.supply = (if t.sta.flags.cutSet then .cut else if t.sta.flags.holdSet then .hold
            else if t.sta.flags.underSet || t.sta.flags.overSet then .low else .normal)
        ∧ (t.sta.supply ≠ s.sta.supply → s.sta.filtered.isSome = true →
            t.ntu.coach.cats &&& Category.supply.bit = Category.supply.bit
            ∧ t.ntu.service.cats &&& Category.supply.bit = Category.supply.bit)
        ∧ (t.sta.supply = s.sta.supply ∨ s.sta.filtered = none ∧ s.allEnded →
            t.opt = s.opt ∧ t.ntu.coach.cats ||| Category.fault.bit = s.ntu.coach.cats ||| Category.fault.bit)
        ∧ (t.sta.supply ≠ s.sta.supply → t.sta.supply = .cut →
            (∀ sl o, s.opAt sl = some o →
              (o.state.active = false → t.opAt sl = some o)
              ∧ (∀ r ph, o.state = .stopping (.ended r) ph → ∃ rem n,
                  t.opAt sl = some { o with state := .ended r rem n, resumed := false })
              ∧ (∀ h ph, o.state = .stopping (.held h) ph → ∃ rem n,
                  t.opAt sl = some { o with state := .ended (.failed .supply) rem n, resumed := false })
              ∧ (∀ ph, o.state = .running ph → ∃ rem n,
                  t.opAt sl = some { o with state := .ended (.failed .supply) rem n, resumed := false })))
        ∧ s.keepsBut t [.table, .arbiter, .jacks, .rooms, .awning, .orders, .claims]

/-- STAGGER_EXPIRY of a running timer (R30 to R34): the timer stops and the head is examined. With none waiting nothing
else happens. A head that fails a test keeps waiting under the first reason, and every entry behind it with QUEUE. A head
that passes all four is granted and the next one examined, until one is not granted: with a stagger time of 0 several in
one event, otherwise one, its own timer holding the next. A grant leaves RUNNING, the reservation added and the timer
started afresh (`Examined`, `GrantLeaves`). A room's motors start at the breakaway duty, both or, out of step inward, the
one further out; out of step outward it ends FAILED(SYNC) (R98, R108, R109). A LEVEL or GROUND opens the extend valves of
the jacks not in contact, so that the pump's demand is 1000, or begins SETTLE with every jack in contact or where it
resumes after GROUND; a JACKS_STOW opens the retract valves of the jacks not up, a JACK_JOG its jack's valve; a retracting
kind with a room not IN ends CANCELLED(INTERLOCK) (R65, R66, R81 to R86). The awning's motor starts in its direction,
fixed again after a RESUME; outward under the lockout or a trigger it ends CANCELLED(INTERLOCK) (R121, R122, R130). A
resumed operation that needs no motion ends COMPLETE (of a GROUND or a JACK_JOG the model's choice, log entry 44). The
four tests are those of R31 in their order; that a NORMAL head shows STAGGER in CUT while the stagger timer runs, where
R40 says SUPPLY, is the model's choice (log entry 42), as are the clearing of LEVELLED by a grant that ends at once (log
entry 17) and the demanded duty that a grant leaves (52). That a room is unreferenced at a grant is kept for R99 (45), and
a resumed operation has its CREEP or its creep window still (R20, R99, R122; of a room log entry 65). -/
def Obligations.StaggerExpiryExamines : Prop :=
  (∀ s : State,
    let u : State := { s with sta := { s.sta with stagger := none } }
    (s.sta.stagger = none → exec .staggerExpiry s = .next s)
    ∧ (s.sta.stagger.isSome = true → s.Calm → ∃ t, exec .staggerExpiry s = .next t ∧ Follows u t)
    ∧ (s.sta.stagger.isSome = true → s.Books → s.Plain → ∃ t, exec .staggerExpiry s = .next t ∧ Examined u t)
    ∧ (∀ sl o w, s.sta.stagger.isSome = true → s.Undisturbed → u.headBlocked sl o w →
      ∃ t, exec .staggerExpiry s = .next t
        ∧ t.opt = (s.setOp sl { o with state := .admitted w }).opt
        ∧ t.sta = { s.sta with stagger := none }
        ∧ s.keepsBut t [.table, .arbiter])
    ∧ (∀ sl o n, s.sta.stagger.isSome = true → (∀ k, (s.entryItem k).enabled = false) →
      s.sta.queue = [sl] → s.opAt sl = some o → o.state.isAdmitted = true → o.resumed = false →
      o.job.group = .room n → (o.job.kind = .roomOut ∨ o.job.kind = .roomIn) → s.items.room.motors.get n = 1 →
      u.blockedBy o = none →
      ∃ t, exec .staggerExpiry s = .next t
        ∧ t.opAt sl = some { o with state := .running (some .breakaway), resumed := false }
        ∧ (∀ k, k ≠ sl → t.opAt k = s.opAt k)
        ∧ t.sta = { s.sta with
            queue := [], resSum := s.sta.resSum + o.reservation, normalSum := s.sta.normalSum + o.reservation
            stagger := if s.items.supply.staggerTime = 0 then none else some (s.now + s.items.supply.staggerTime) }
        ∧ t.roomUnit n = { s.roomUnit n with
            a := { (s.roomUnit n).a with
              dir := some (if o.job.kind = .roomOut then .outward else .inward), driven := true, coast := none
              applied := s.roomProfile.breakawayDuty, run := 0, tally := 0, pulsed := false, started := true
              late := false, atEnd := false }
            ramped := s.roomProfile.breakawayDuty, breaking := true
            breakTimer := some (s.now + s.roomProfile.breakawayTime), lateTimer := none
            stallTimer := some (s.now + s.roomProfile.stallWindow), jogTimer := none, pend := none, creeping := false
            blind := !(s.roomUnit n).referenced }
        ∧ (∀ k, k ≠ n → t.roomUnit k = s.roomUnit k)
        ∧ s.keepsBut t [.table, .arbiter, .rooms]))
  ∧ (∀ (s : State) (sl : Slot) (behind : List Slot) (o : Op), s.sta.stagger.isSome = true →
    (∀ k, (s.entryItem k).enabled = false) → s.Undisturbed → s.onePerGroup → s.sta.queue = sl :: behind →
    s.opAt sl = some o → o.state.isAdmitted = true → (behind = [] ∨ s.Books ∧ s.items.supply.staggerTime ≠ 0) →
    let u : State := { s with sta := { s.sta with stagger := none } }
    u.blockedBy o = none → ∃ t, exec .staggerExpiry s = .next t ∧ u.GrantLeaves t sl o)
  ∧ ∀ (s : State) (o : Op),
    let budget := s.sta.resSum + o.reservation ≤ s.items.supply.budgetLimit
      ∧ (o.opClass = .normal →
          s.sta.normalSum + o.reservation ≤ s.items.supply.budgetLimit - s.items.supply.safetyReserve)
    let frame := ∀ sl p, s.opAt sl = some p → p.state.active = true →
      (o.job.group = .jacks → p.job.group.isRoom = false) ∧ (o.job.group.isRoom = true → p.job.group ≠ .jacks)
    let stagger := o.opClass = .normal → s.sta.stagger = none
    let supply := (o.opClass = .normal → s.sta.supply = .normal) ∧ (o.opClass = .safety → s.sta.supply ≠ .cut)
    (¬ budget → s.blockedBy o = some .budget)
    ∧ (budget → (¬ frame → s.blockedBy o = some .frame)
      ∧ (frame → (¬ stagger → s.blockedBy o = some .stagger)
        ∧ (stagger → (¬ supply → s.blockedBy o = some .supply) ∧ (supply → s.blockedBy o = none))))

/-- THERMAL_SAMPLE and BRIDGE_FAULT_SAMPLE (R190): the THERMAL mark is set above 125 degrees, cleared below 115 and kept
between; while awake each bridge fault input that is watched is present while it reads asserted, and DRIVE_FAULT while
any is. Nothing but the fault record, the FAULT category and the pins moves. -/
def Obligations.MeasuredFaultsFollow : Prop :=
  ∀ s : State,
    (∀ c : Int, ∃ t, exec (.thermalSample c) s = .next t
      ∧ (125 < c → t.ntu.thermal = true) ∧ (c < 115 → t.ntu.thermal = false)
      ∧ (115 ≤ c → c ≤ 125 → t.ntu.thermal = s.ntu.thermal)
      ∧ FaultsFollow { s with ntu := { s.ntu with thermal := t.ntu.thermal } } t)
    ∧ ∀ asserted : Bank Bool 10,
      (s.inm.parked = true → exec (.bridgeFaultSample asserted) s = .next s)
      ∧ (s.inm.parked = false → ∃ t, exec (.bridgeFaultSample asserted) s = .next t
        ∧ (∀ c : Fin 10, t.ntu.bridges.getLsbD c.val = (asserted.get c && s.bridgeWatched c))
        ∧ (t.ntu.faults.present &&& FaultKind.driveFault.bit = FaultKind.driveFault.bit
            ↔ ∃ c : Fin 10, asserted.get c = true ∧ s.bridgeWatched c = true)
        ∧ FaultsFollow { s with ntu := { s.ntu with bridges := t.ntu.bridges } } t)

/-! ### Attitude (R43 to R53) -/

/-- ATTITUDE_SAMPLE (R43 to R47, R51): the four rows of R45. A valid sample joins the window turned into coach axes, the
eighth in a row makes attitude valid with its filtered value, a further one takes the oldest's place; an invalid one
empties the window of an invalid unit, and the fourth in a row makes ATTITUDE_SENSOR present and attitude invalid. A
change of validity raises ATTITUDE with its detail on both links. With the jacks LEVELLED each new reported attitude, that
of the sample which makes attitude valid among them (the model's choice, log entry 50), starts a stopped drift timer
beyond the bound, leaves a running one, and stops it within the bound. Parked, nothing is sampled. No operation is touched
(R73), but for one in TOUCHDOWN with no end pending (R71): a new reported attitude outside its tolerance, its own or
level_tolerance (R64), winds it down PARTIAL(DISTURBED), attitude become invalid FAILED(ATTITUDE); one within tolerance,
and an invalid sample short of the fourth, leave it as it is. Winding down closes every valve and stops the timers; the
end is pending while the pump runs and else written at once, a LEVEL's remaining field the reported attitude, absent where
it is invalid (R60, R72). The coach axes by sensor_rotation (R44). The filtered value of a window (R46): eight times each
mean lies within 4 of its sum, and where the sum lies half way between two means the one further from 0 is taken. -/
def Obligations.AttitudeSampleRows : Prop :=
  (∀ (s : State) (ready : Byte) (a b : Word),
    (s.inm.parked = true → exec (.attitudeSample ready a b) s = .next s)
    ∧ (s.inm.parked = false → s.Calm →
      let x := rotate s.items.att.rotation a.toInt b.toInt
      let valid := ready = 0xA6#8 ∧ a.toInt.natAbs ≤ 3000 ∧ b.toInt.natAbs ≤ 3000
      let fresh := valid ∧ (s.atu.filtered.isSome = true ∨ 7 ≤ s.atu.validRun)
      let lost := s.atu.filtered.isSome = true ∧ ¬ valid ∧ 3 ≤ s.atu.invalidRun
      let report := fun (v ref : Int) => max (-3000) (min 3000 (v - ref))
      let outside := fun (f : Tilt) (bound : Nat) => bound < (report f.pitch s.items.att.refPitch).natAbs
        ∨ bound < (report f.roll s.items.att.refRoll).natAbs
      let changed := fun (t : State) =>
        t.ntu.coach.attitude &&& 0x08#8 = 0x08#8 ∧ t.ntu.service.attitude &&& 0x08#8 = 0x08#8
        ∧ t.ntu.coach.cats &&& Category.attitude.bit = Category.attitude.bit
        ∧ t.ntu.service.cats &&& Category.attitude.bit = Category.attitude.bit
      let rows := fun (t : State) =>
        (s.atu.filtered = none → valid → s.atu.validRun < 7 →
          t.atu = { s.atu with window := s.atu.window ++ [x], validRun := s.atu.validRun + 1, invalidRun := 0, drift := none })
        ∧ (s.atu.filtered = none → valid → s.atu.validRun = 7 →
            t.atu = { window := s.atu.window ++ [x], validRun := 8, invalidRun := 0
                      filtered := some (filterTilt (s.atu.window ++ [x])), sensorFault := false, drift := t.atu.drift }
            ∧ changed t)
        ∧ (s.atu.filtered = none → ¬ valid →
            t.atu = { s.atu with window := [], validRun := 0, invalidRun := min 4 (s.atu.invalidRun + 1)
                                 sensorFault := s.atu.sensorFault || decide (3 ≤ s.atu.invalidRun), drift := none })
        ∧ (s.atu.filtered.isSome = true → valid →
            t.atu = { s.atu with window := s.atu.window.drop 1 ++ [x], invalidRun := 0
                                 filtered := some (filterTilt (s.atu.window.drop 1 ++ [x])), drift := t.atu.drift })
        ∧ (s.atu.filtered.isSome = true → ¬ valid → s.atu.invalidRun < 3 →
            t.atu = { s.atu with invalidRun := s.atu.invalidRun + 1, drift := t.atu.drift })
        ∧ (lost →
            t.atu = { window := [], validRun := 0, invalidRun := 4, filtered := none, sensorFault := true, drift := none }
            ∧ t.ntu.faults.present &&& FaultKind.attitudeSensor.bit = FaultKind.attitudeSensor.bit ∧ changed t)
        ∧ (valid → s.atu.filtered.isSome = true ∨ s.atu.validRun = 7 →
            (s.jacksCondition ≠ .levelled → t.atu.drift = none)
            ∧ (s.jacksCondition = .levelled → ∀ f, t.atu.filtered = some f →
              let beyond := outside f (s.items.jack.levelTolerance + s.items.att.driftMargin)
              (¬ beyond → t.atu.drift = none)
              ∧ (beyond → s.atu.drift = none → t.atu.drift = some (s.now + s.items.att.driftTime * 1000))
              ∧ (∀ e, beyond → s.atu.drift = some e → t.atu.drift = some e)))
        ∧ (s.atu.filtered.isSome = true → ¬ valid → s.atu.invalidRun < 3 →
            t.atu.drift = if s.jacksCondition = .levelled then s.atu.drift else none)
      ((∀ sl o, s.runningOp .jacks = some (sl, o) → s.lvc.pend.isSome = true ∨ o.state.phase ≠ some .touchdown) →
        ∃ t, exec (.attitudeSample ready a b) s = .next t ∧ rows t ∧ s.keepsBut t [.attitude])
      ∧ ∀ sl o, s.runningOp .jacks = some (sl, o) → s.lvc.pend = none → o.state.phase = some .touchdown →
        ∃ t, exec (.attitudeSample ready a b) s = .next t ∧ rows t
          ∧ (let tolerance := o.job.value.getD s.items.jack.levelTolerance
             let seen := t.atu.filtered.map (fun f =>
               Remaining.attitude (report f.pitch s.items.att.refPitch) (report f.roll s.items.att.refRoll))
             let windsDown := fun (r : Result) =>
               (∀ k, (t.jack k).extending = false ∧ (t.jack k).retracting = false)
               ∧ t.lvc.timers = JackTimers.stopped ∧ t.lvc.landing = none ∧ t.lvc.pump = s.lvc.pump
               ∧ t.lvc.levelled = s.lvc.levelled
               ∧ (s.lvc.pump ≠ 0 → t.lvc.pend = some r ∧ s.keepsBut t [.attitude, .jacks])
               ∧ (s.lvc.pump = 0 → t.lvc.pend = none ∧ (∃ rem, EndsOp s t sl o r rem ∧ (o.job.kind = .level → rem = seen))
                 ∧ s.keepsBut t [.attitude, .table, .arbiter, .jacks, .orders, .claims])
             (¬ fresh → ¬ lost → s.keepsBut t [.attitude])
             ∧ (lost → windsDown (.failed .attitude))
             ∧ ∀ f, fresh → t.atu.filtered = some f →
               (outside f tolerance → windsDown (.partly .disturbed))
               ∧ (¬ outside f tolerance → s.keepsBut t [.attitude]))))
  ∧ (∀ a b : Int, rotate 0 a b = ⟨a, b⟩ ∧ rotate 90 a b = ⟨b, -a⟩ ∧ rotate 180 a b = ⟨-a, -b⟩ ∧ rotate 270 a b = ⟨-b, a⟩)
  ∧ ∀ w : List Tilt,
    let sums : List (Int × Int) :=
      [((filterTilt w).pitch, (w.map Tilt.pitch).sum), ((filterTilt w).roll, (w.map Tilt.roll).sum)]
    ∀ m sum, (m, sum) ∈ sums →
      (8 * m - sum).natAbs ≤ 4 ∧ ((8 * m - sum).natAbs = 4 → sum.natAbs < (8 * m).natAbs)

/-- DRIFT_TIMER_EXPIRY (R52, R53) of a running timer: ATTITUDE with LEVEL_DRIFT on both links and LEVELLED clear; with
auto_relevel and some room not IN, or a LEVEL that is refused, relevel skipped as well; with a LEVEL that is admitted, a
record of INTERNAL origin with the next internal tag and admission number. A stopped timer's expiry does nothing. The
internal tag is the first from the counter on, round 240..255, that is not in use (R4); that the tag of an ENDED record
which this admission reclaims still counts as in use is the model's choice, log entry 41. -/
def Obligations.DriftExpiryDeclares : Prop :=
  (∀ s : State,
    (s.atu.drift = none → exec .driftTimerExpiry s = .next s)
    ∧ (s.atu.drift.isSome = true → s.Calm →
      let u : State := { s with atu := { s.atu with drift := none }, lvc := { s.lvc with levelled := false } }
      let told := fun (t : State) (bits : BitVec 8) =>
        t.ntu.coach.attitude = s.ntu.coach.attitude ||| bits ∧ t.ntu.service.attitude = s.ntu.service.attitude ||| bits
        ∧ t.ntu.coach.cats &&& Category.attitude.bit = Category.attitude.bit
        ∧ t.ntu.service.cats &&& Category.attitude.bit = Category.attitude.bit
      ∃ t, exec .driftTimerExpiry s = .next t
        ∧ t.atu.drift = none ∧ t.lvc.levelled = false
        ∧ (s.items.att.autoRelevel = false → told t 0x01#8 ∧ t.lvc = { s.lvc with levelled := false } ∧ s.keepsBut t [.jacks])
        ∧ (s.items.att.autoRelevel = true → (s.someRoomOut = true ∨ u.relevelRefusal.isSome = true) →
            told t 0x05#8 ∧ t.lvc = { s.lvc with levelled := false } ∧ s.keepsBut t [.jacks])
        ∧ (∀ sl w, s.items.att.autoRelevel = true → s.someRoomOut = false → u.relevelRefusal = none →
            s.placeSlot = some sl → (∀ o ∈ s.opAt sl, o.state.isEnded = true) → s.sta.queue = [] →
            u.blockedBy (u.newRecord u.internalTag relevelJob) = some w →
            told t 0x01#8
            ∧ t.opAt sl = some { tag := s.internalTag, job := relevelJob, state := .admitted w, pass := 0
                                 admission := s.opt.admissions + 1, reservation := s.items.supply.sharePump, resumed := false }
            ∧ (∀ k, k ≠ sl → t.opAt k = s.opAt k)
            ∧ t.opt.internalTag = nextTag s.internalTag ∧ t.sta = { s.sta with queue := [sl] }
            ∧ s.keepsBut t [.table, .arbiter, .jacks])))
  ∧ ∀ (s : State) (c : Nat), s.opt.internalTag = 240 + c → c ≤ 15 →
    ∃ d ≤ 15, s.internalTag = 240 + (c + d) % 16 ∧ s.slotOfTag s.internalTag = none
      ∧ (∀ e, e < d → (s.slotOfTag (240 + (c + e) % 16)).isSome = true)
      ∧ nextTag s.internalTag = 240 + (c + d + 1) % 16

/-! ### The solver (R76 to R80) -/

/-- The lift stage (R76): zmax is the greatest height among the points, each lift is its distance below zmax in whole
millimetres, halves up, and 0 at the greatest height, where several points share it too. -/
def Obligations.SolverLifts : Prop :=
  ∀ l : List JackPoint, l ≠ [] →
    (∃ p ∈ l, p.z = zMax l) ∧ (∀ p ∈ l, p.z ≤ zMax l)
    ∧ (liftStage l).length = l.length
    ∧ ∀ (i : Nat) (p : JackPoint), l[i]? = some p →
        ∃ lift : Nat, (liftStage l)[i]? = some lift
          ∧ (p.z = zMax l → lift = 0) ∧ (p.z < zMax l → 0 < zMax l - p.z)
          ∧ 1000 * (lift : Int) ≤ zMax l - p.z + 500 ∧ zMax l - p.z + 500 < 1000 * ((lift : Int) + 1)

/-- The pass-scaling stage (R77): with the greatest lift at or below max_pass_lift the lifts pass unchanged; beyond it
each becomes its proportional share rounded down, and the greatest becomes max_pass_lift exactly. -/
def Obligations.SolverScales : Prop :=
  ∀ (m : Nat) (l : List Nat),
    (∀ x ∈ l, x ≤ greatest l) ∧ (l ≠ [] → greatest l ∈ l)
    ∧ (greatest l ≤ m → scaleStage m l = l)
    ∧ (m < greatest l →
        greatest (scaleStage m l) = m ∧ (scaleStage m l).length = l.length
        ∧ ∀ (i x : Nat), l[i]? = some x →
            ∃ y, (scaleStage m l)[i]? = some y ∧ y * greatest l ≤ x * m ∧ x * m < (y + 1) * greatest l)

/-- The solver (R75 to R80). Its stages in their order, each taking the list of the one before: lift (R76), pass scaling
(R77), the deadband, which makes 0 of every lift below min_move and of no other (R78), and the stroke stage (R79), which
passes the lifts where none exceeds its jack's available stroke; with BEST_EFFORT it cuts those that do and marks the list
STROKE_LIMITED, without it returns STROKE_SHORT with exactly the jacks whose lift exceeds. A lift list has one lift for each
point, in their order, each at most max_pass_lift and the jack's available stroke, and each of the unlimited ones either 0 or
at least min_move. What it is given (R75): a point for each configured jack, its height the elevation rounded to the
micrometre, halves away from zero, and its available stroke, with max_pass_lift and min_move. -/
def Obligations.SolverKeepsBounds : Prop :=
  (∀ (m least : Nat) (best : Bool) (points : List JackPoint),
    let lifts := deadbandStage least (scaleStage m (liftStage points))
    let beyond := fun (p : JackPoint) (x : Nat) => ∃ i : Nat, points[i]? = some p ∧ lifts[i]? = some x ∧ p.avail < x
    lifts.length = points.length
    ∧ (∀ i x : Nat, (scaleStage m (liftStage points))[i]? = some x → lifts[i]? = some (if x < least then 0 else x))
    ∧ ((∀ p x, ¬ beyond p x) → solve m least best points = .lifts ((points.map JackPoint.jack).zip lifts) false)
    ∧ ((∃ p x, beyond p x) → best = true →
        ∃ l, solve m least best points = .lifts l true
          ∧ l.length = points.length
          ∧ ∀ (i x : Nat) (p : JackPoint), points[i]? = some p → lifts[i]? = some x →
              l[i]? = some (p.jack, if p.avail < x then p.avail else x))
    ∧ ((∃ p x, beyond p x) → best = false →
        ∃ js, solve m least best points = .short js ∧ js.Sublist (points.map JackPoint.jack)
          ∧ ∀ j, j ∈ js ↔ ∃ p x, beyond p x ∧ p.jack = j)
    ∧ (∀ l limited, solve m least best points = .lifts l limited →
      l.map Prod.fst = points.map JackPoint.jack
      ∧ (∀ (i : Nat) (q : Jack × Nat) (p : JackPoint), l[i]? = some q → points[i]? = some p →
          q.2 ≤ p.avail ∧ q.2 ≤ m ∧ (limited = false → q.2 = 0 ∨ least ≤ q.2))
      ∧ (limited = true → best = true))
    ∧ (∀ js, solve m least best points = .short js →
      best = false ∧ js ≠ [] ∧ ∀ j ∈ js, ∃ p ∈ points, p.jack = j ∧ p.avail < m))
  ∧ ∀ (s : State) (x : Tilt) (best : Bool),
    s.runSolver x best = solve s.items.jack.maxPassLift s.items.jack.minMove best (s.jackPoints x)
    ∧ (s.jackPoints x).map JackPoint.jack = s.items.jacks
    ∧ ∀ p ∈ s.jackPoints x,
      let e := s.items.jack.x.get p.jack * x.pitch + s.items.jack.y.get p.jack * x.roll
      2 * (1000000 * p.z - e * 174533).natAbs ≤ 1000000
      ∧ (2 * (1000000 * p.z - e * 174533).natAbs = 1000000 → (e * 174533).natAbs < (1000000 * p.z).natAbs)
      ∧ p.avail = s.items.jack.strokeMax.get p.jack - (s.jack p.jack).stroke - s.items.jack.strokeReserve

/-! ### The jacks (R57 to R71, R81 to R86) -/

/-- JACK_SAMPLE (R57, R58, R62, R63, R67, R70, R71, R73, R85). While no JACKS operation runs: for each configured jack the
readings in range are taken, JACK_SENSOR is present for it unless both are, and its contact is judged; LEVELLED is cleared with JACK_UNLOADED by
a contact lost. Jacks that are not configured, and every other block, stay. While one runs with no end pending: a JACK_SENSOR
newly present winds a LEVEL or GROUND down FAILED(JACK_SENSOR), an extending JACK_JOG by its own jack's; in GROUND a valve
closes at the stroke limit, where a jack that cannot come into contact is NO_GROUND; in LIFT a valve closes at its target and
the last one begins SETTLE; in TOUCHDOWN a jack that has used its travel closes unloaded and the next is taken, COMPLETE when
none remains; an extending jog at its limit is PARTIAL(STROKE_LIMITED). A result winds down (R60): every valve closed, pending
while the pump runs. That sensors are judged before strokes is log entry 13. Parked, nothing is sampled. -/
def Obligations.JackSampleJudges : Prop :=
  ∀ (s : State) (r : Bank JackReading 6),
    (s.inm.parked = true → exec (.jackSample r) s = .next s)
    ∧ (s.inm.parked = false → s.Calm → s.runningOp .jacks = none →
      ∃ t, exec (.jackSample r) s = .next t
        ∧ (∀ j ∈ s.items.jacks,
          let inStroke := 0 ≤ (r.get j).stroke ∧ (r.get j).stroke ≤ s.items.jack.strokeMax.get j
          let inPressure := 0 ≤ (r.get j).pressure ∧ (r.get j).pressure ≤ 250
          (inStroke → ((t.jack j).stroke : Int) = (r.get j).stroke) ∧ (¬ inStroke → (t.jack j).stroke = (s.jack j).stroke)
          ∧ (inPressure → ((t.jack j).pressure : Int) = (r.get j).pressure)
          ∧ (¬ inPressure → (t.jack j).pressure = (s.jack j).pressure)
          ∧ ((t.jack j).sensorFault = false ↔ inStroke ∧ inPressure)
          ∧ ((t.jack j).pressure < s.items.jack.contactPressure →
              (t.jack j).contact = false ∧ (t.jack j).contactTimer = none)
          ∧ (s.items.jack.contactPressure ≤ (t.jack j).pressure →
              (t.jack j).contact = (s.jack j).contact
              ∧ ((s.jack j).contact = true → (t.jack j).contactTimer = (s.jack j).contactTimer)
              ∧ ((s.jack j).contact = false → (s.jack j).contactTimer = none →
                  (t.jack j).contactTimer = some (s.now + 200))
              ∧ (∀ e, (s.jack j).contactTimer = some e → (t.jack j).contactTimer = some e))
          ∧ (t.jack j).extending = (s.jack j).extending ∧ (t.jack j).retracting = (s.jack j).retracting)
        ∧ (∀ j, j ∉ s.items.jacks → t.jack j = s.jack j)
        ∧ ((∃ j ∈ s.items.jacks, (s.jack j).contact = true ∧ (t.jack j).contact = false) → s.lvc.levelled = true →
            t.lvc.levelled = false
            ∧ t.ntu.coach.attitude &&& 0x02#8 = 0x02#8 ∧ t.ntu.service.attitude &&& 0x02#8 = 0x02#8)
        ∧ ((∀ j ∈ s.items.jacks, (s.jack j).contact = true → (t.jack j).contact = true) →
            t.lvc.levelled = s.lvc.levelled ∧ t.ntu.coach.attitude = s.ntu.coach.attitude)
        ∧ t.lvc.pump = s.lvc.pump ∧ t.lvc.timers = s.lvc.timers ∧ t.lvc.pend = s.lvc.pend
        ∧ s.keepsBut t [.jacks])
    ∧ (∀ sl o, s.inm.parked = false → s.Calm → s.lvc.pend = none → s.runningOp .jacks = some (sl, o) →
      let stroke := fun (j : Jack) =>
        if 0 ≤ (r.get j).stroke ∧ (r.get j).stroke ≤ s.items.jack.strokeMax.get j then (r.get j).stroke.toNat
        else (s.jack j).stroke
      let pressure := fun (j : Jack) =>
        if 0 ≤ (r.get j).pressure ∧ (r.get j).pressure ≤ 250 then (r.get j).pressure.toNat else (s.jack j).pressure
      let good := fun (j : Jack) => (0 ≤ (r.get j).stroke ∧ (r.get j).stroke ≤ s.items.jack.strokeMax.get j)
        ∧ (0 ≤ (r.get j).pressure ∧ (r.get j).pressure ≤ 250)
      let failing := fun (j : Jack) => ¬ good j ∧ (s.jack j).sensorFault = false
      let limit := fun (j : Jack) => s.items.jack.strokeMax.get j - s.items.jack.strokeReserve
      let touching := fun (j : Jack) => (s.jack j).contact = true ∧ s.items.jack.contactPressure ≤ pressure j
      let sampled := fun (t : State) => t.lvc.pump = s.lvc.pump
        ∧ (∀ j ∈ s.items.jacks, (t.jack j).stroke = stroke j ∧ (t.jack j).pressure = pressure j
          ∧ ((t.jack j).sensorFault = true ↔ ¬ good j) ∧ ((t.jack j).contact = true ↔ touching j))
      let decided := fun (e : Result) => ∃ t, exec (.jackSample r) s = .next t ∧ sampled t
        ∧ (∀ j, (t.jack j).extending = false ∧ (t.jack j).retracting = false) ∧ t.lvc.timers = JackTimers.stopped
        ∧ (s.lvc.pump ≠ 0 → t.lvc.pend = some e ∧ t.opt = s.opt)
        ∧ (s.lvc.pump = 0 → t.lvc.pend = none
          ∧ ∃ rem, t.opAt sl = some { o with state := .ended e rem (s.opt.ends + 1), resumed := false })
        ∧ s.keepsBut t [.table, .arbiter, .jacks, .orders, .claims]
      let goesOn := fun (shut : Jack → Prop) => ∃ t, exec (.jackSample r) s = .next t ∧ sampled t
        ∧ (∀ j, ((t.jack j).extending = true ↔ (s.jack j).extending = true ∧ ¬ shut j)
          ∧ (t.jack j).retracting = (s.jack j).retracting)
        ∧ t.opt = s.opt ∧ t.lvc.timers = s.lvc.timers ∧ t.lvc.pend = none ∧ s.keepsBut t [.jacks]
      let sound := ∀ j ∈ s.items.jacks, ¬ failing j
      let jogOut := o.job.kind = .jackJog ∧ o.job.dir = some .outward
      let phased := o.job.kind = .level ∨ o.job.kind = .ground
      (phased → ¬ sound → decided (.failed .jackSensor))
      ∧ (∀ k ∈ s.items.jacks, jogOut → o.job.sub = some k →
        (failing k → decided (.failed .jackSensor))
        ∧ (¬ failing k → (limit k ≤ stroke k → decided (.partly .strokeLimited))
          ∧ (stroke k < limit k → goesOn (fun _ => False))))
      ∧ (o.job.kind = .jacksStow ∨ o.job.kind = .jackJog ∧ o.job.dir = some .inward → goesOn (fun _ => False))
      ∧ (phased → sound →
        (o.state.phase = some .settle → goesOn (fun _ => False))
        ∧ (o.state.phase = some .ground →
          let stuck := fun (j : Jack) => (s.jack j).waiting = true ∨ (s.jack j).extending = true ∧ limit j ≤ stroke j
          let hanging := fun (j : Jack) => pressure j < s.items.jack.contactPressure
          ((∃ j ∈ s.items.jacks, stuck j ∧ hanging j) → decided (.failed .noGround))
          ∧ ((∀ j ∈ s.items.jacks, stuck j → ¬ hanging j) → goesOn (fun j => j ∈ s.items.jacks ∧ limit j ≤ stroke j)))
        ∧ (o.state.phase = some .lift →
          let done := fun (j : Jack) => (s.jack j).extending = true → (s.jack j).target ≤ stroke j
          ((∃ j ∈ s.items.jacks, ¬ done j) → goesOn (fun j => j ∈ s.items.jacks ∧ (s.jack j).target ≤ stroke j))
          ∧ ((∀ j ∈ s.items.jacks, done j) → ∃ t, exec (.jackSample r) s = .next t ∧ sampled t
            ∧ t.opt = (s.setOp sl { o with state := .running (some .settle) }).opt
            ∧ (∀ j, (t.jack j).extending = false ∧ (t.jack j).retracting = false)
            ∧ t.lvc.timers = { JackTimers.stopped with
                settle := if s.lvc.pump = 0 then some (s.now + s.items.jack.settleTime * 1000) else none }
            ∧ s.keepsBut t [.table, .jacks]))
        ∧ (∀ j noted, o.state.phase = some .touchdown → s.lvc.landing = some (j, noted) → j ∈ s.items.jacks →
          let used := noted + 30 ≤ stroke j ∨ limit j ≤ stroke j
          let left := fun (k : Jack) => ¬ touching k ∧ (s.jack k).taken = false
          (¬ used → goesOn (fun _ => False))
          ∧ (used → (∀ k ∈ s.items.jacks, ¬ left k) → decided .complete)
          ∧ (∀ k, used → s.items.jacks.find? (fun i => !(decide (touching i)) && !(s.jack i).taken) = some k → k ≠ j →
            ∃ t, exec (.jackSample r) s = .next t ∧ sampled t ∧ t.lvc.landing = some (k, stroke k)
              ∧ (t.jack j).extending = false ∧ (t.jack j).unloaded = true
              ∧ (t.jack k).extending = true ∧ (t.jack k).taken = true
              ∧ (∀ i, i ≠ j → i ≠ k → (t.jack i).extending = (s.jack i).extending)
              ∧ t.opt = s.opt ∧ t.lvc.timers = s.lvc.timers ∧ s.keepsBut t [.jacks]))))

/-- CONTACT_TIMER_EXPIRY of a running timer puts the jack in contact (R58), and nothing else where no JACKS operation
runs. In GROUND, the last jack's contact begins SETTLE: every valve closed, and the settle timer started where the pump
is off (R66, R68). -/
def Obligations.ContactTimerMakesContact : Prop :=
  ∀ (s : State) (j : Jack),
    ((s.jack j).contactTimer = none → exec (.contactTimerExpiry j) s = .next s)
    ∧ ((s.jack j).contactTimer.isSome = true → s.Calm → s.runningOp .jacks = none →
      ∃ t, exec (.contactTimerExpiry j) s = .next t
        ∧ Follows (s.modJack j (fun u => { u with contact := true, contactTimer := none })) t)
    ∧ (∀ sl o, (s.jack j).contactTimer.isSome = true → s.Calm → s.lvc.pend = none →
      s.runningOp .jacks = some (sl, o) → o.state = .running (some .ground) → o.job.kind = .level ∨ o.job.kind = .ground →
      j ∈ s.items.jacks → (s.jack j).extending = true → (∀ k ∈ s.items.jacks, k ≠ j → (s.jack k).goal = true) →
      ∃ t, exec (.contactTimerExpiry j) s = .next t
        ∧ t.opt = (s.setOp sl { o with state := .running (some .settle) }).opt
        ∧ (t.jack j).contact = true ∧ (t.jack j).goal = true
        ∧ (∀ k, (t.jack k).extending = false ∧ (t.jack k).retracting = false)
        ∧ t.lvc.timers = { JackTimers.stopped with
            settle := if s.lvc.pump = 0 then some (s.now + s.items.jack.settleTime * 1000) else none }
        ∧ t.lvc.pump = s.lvc.pump
        ∧ s.keepsBut t [.table, .jacks])

/-- PUMP_RAMP_TICK (R59, R60, R68): the applied duty moves toward its demand by the ramp without passing it. Where that
brings it to 0 with no valve open, the pending end of the RUNNING operation is reported, a STOPPING operation ends or
becomes HELD, and a LEVEL or GROUND in SETTLE starts its settle timer. -/
def Obligations.PumpTickRamps : Prop :=
  ∀ s : State, s.Calm →
    let up := s.items.jack.rampUp
    let down := s.items.jack.rampDown
    (s.activeOp .jacks = none ∨ s.pumpDemand = 1000 ∨ down < s.lvc.pump →
      ∃ t, exec .pumpRampTick s = .next t
        ∧ Follows { s with lvc := { s.lvc with pump := t.lvc.pump } } t
        ∧ (s.pumpDemand = 1000 → s.lvc.pump < 1000 → t.lvc.pump = min 1000 (s.lvc.pump + up))
        ∧ (s.pumpDemand = 1000 → 1000 ≤ s.lvc.pump → t.lvc.pump = max 1000 (s.lvc.pump - down))
        ∧ (s.pumpDemand = 0 → t.lvc.pump = s.lvc.pump - down))
    ∧ ∀ sl o, s.pumpDemand = 0 → s.lvc.pump ≤ down → s.activeOp .jacks = some (sl, o) →
      (∀ r ph, o.state = .running ph → s.lvc.pend = some r →
        ∃ t, exec .pumpRampTick s = .next t ∧ t.lvc.pump = 0 ∧ t.lvc.pend = none
          ∧ EndsOp s t sl o r (s.remainingOf o)
          ∧ (o.job.kind = .level → r = .complete → t.lvc.levelled = true)
          ∧ s.keepsBut t [.table, .arbiter, .jacks, .orders, .claims])
      ∧ (∀ r ph, o.state = .stopping (.ended r) ph →
        ∃ t, exec .pumpRampTick s = .next t ∧ t.lvc.pump = 0 ∧ EndsOp s t sl o r (s.remainingOf o)
          ∧ s.keepsBut t [.table, .arbiter, .jacks, .orders, .claims])
      ∧ (∀ h ph, o.state = .stopping (.held h) ph →
        ∃ t, exec .pumpRampTick s = .next t ∧ t.lvc.pump = 0
          ∧ t.opt = (s.setOp sl { o with state := .held h, resumed := false }).opt
          ∧ t.sta.resSum = s.sta.resSum - o.reservation ∧ TagTold s t o.tag
          ∧ s.keepsBut t [.table, .arbiter, .jacks, .orders, .claims])
      ∧ (o.state = .running (some .settle) → s.lvc.pend = none → s.lvc.timers.settle = none →
        ∃ t, exec .pumpRampTick s = .next t
          ∧ Follows { s with lvc := { s.lvc with
              pump := 0, timers := { s.lvc.timers with settle := some (s.now + s.items.jack.settleTime * 1000) } } } t)

/-- The phase timers of a JACKS operation (R60, R67, R70, R71, R82, R85, R86). A running one's expiry, with no end
pending, closes every valve, stops the phase timers and decides its result: while the pump runs the result is pending, at
rest the operation ends with it in the same event. A stopped timer's expiry does nothing. -/
def Obligations.JackTimersDecide : Prop :=
  ∀ (s : State) (c : Instr) (timer : JackTimers → Option Nat) (r : Result),
    (c = .groundTimerExpiry ∧ timer = JackTimers.ground ∧ r = .failed .groundTimeout)
    ∨ (c = .liftTimerExpiry ∧ timer = JackTimers.lift ∧ r = .failed .liftTimeout)
    ∨ (c = .touchdownTimerExpiry ∧ timer = JackTimers.touchdown ∧ r = .failed .liftTimeout)
    ∨ (c = .stowTimerExpiry ∧ timer = JackTimers.stow ∧ r = .failed .stowTimeout)
    ∨ (c = .jackJogTimerExpiry ∧ timer = JackTimers.jog ∧ r = .complete) →
    (timer s.lvc.timers = none → exec c s = .next s)
    ∧ (∀ sl o, (timer s.lvc.timers).isSome = true → s.Calm → s.lvc.pend = none → s.runningOp .jacks = some (sl, o) →
      (s.lvc.pump ≠ 0 →
        ∃ t, exec c s = .next t ∧ t.lvc.pend = some r ∧ t.lvc.timers = JackTimers.stopped
          ∧ (∀ k, (t.jack k).extending = false ∧ (t.jack k).retracting = false)
          ∧ t.lvc.pump = s.lvc.pump ∧ t.lvc.levelled = s.lvc.levelled
          ∧ s.keepsBut t [.jacks])
      ∧ (s.lvc.pump = 0 →
        ∃ t, exec c s = .next t ∧ t.lvc.pend = none ∧ t.lvc.timers = JackTimers.stopped
          ∧ (∀ k, (t.jack k).extending = false ∧ (t.jack k).retracting = false)
          ∧ t.lvc.pump = 0 ∧ EndsOp s t sl o r (s.remainingOf o)
          ∧ s.keepsBut t [.table, .arbiter, .jacks, .orders, .claims]))

/-- SETTLE_TIMER_EXPIRY of a running timer with the pump off (R68, R69, R81). A GROUND ends COMPLETE with every jack in
contact, PARTIAL(DISTURBED) otherwise. A LEVEL takes SOLVE: FAILED(ATTITUDE); within tolerance with every jack in
contact COMPLETE and LEVELLED, with one out of contact the lowest of them is brought down; FAILED(TOO_STEEP);
FAILED(PASSES); and by the solver's result FAILED(STROKE_SHORT), PARTIAL, or LIFT with one more pass, each jack's target
and valve. The pass kept with
a solver result is the one before LIFT raises it (the model's choice, log entry 20); a SOLVE that runs no solver keeps no
result (R63, R80). -/
def Obligations.SettleExpirySolves : Prop :=
  ∀ s : State,
    (s.lvc.timers.settle = none → exec .settleTimerExpiry s = .next s)
    ∧ ∀ sl o, s.lvc.timers.settle.isSome = true → s.Calm → s.lvc.pend = none → s.lvc.pump = 0 →
      s.runningOp .jacks = some (sl, o) →
      let ends := fun (r : Result) (kept : Option SolverRecord) => ∃ t, exec .settleTimerExpiry s = .next t
        ∧ t.opAt sl = some { o with state := .ended r (s.remainingOf o) (s.opt.ends + 1), resumed := false }
        ∧ (∀ k, k ≠ sl → t.opAt k = s.opAt k) ∧ t.opt.ends = s.opt.ends + 1 ∧ TagTold s t o.tag
        ∧ t.lvc.pump = 0 ∧ (t.lvc.levelled = true ↔ s.lvc.levelled = true ∨ o.job.kind = .level ∧ r = .complete)
        ∧ t.lvc.solver = kept
        ∧ s.keepsBut t [.table, .arbiter, .jacks, .orders, .claims]
      (o.job.kind = .ground →
        (s.allContact = true → ends .complete s.lvc.solver) ∧ (s.allContact = false → ends (.partly .disturbed) s.lvc.solver))
      ∧ (o.job.kind = .level →
        (s.reported = none → ends (.failed .attitude) none)
        ∧ ∀ x, s.reported = some x →
          (x.within (s.tolerance o) = true →
            (s.allContact = true → ends .complete none)
            ∧ (∀ j, s.items.jacks.find? (fun k => !(s.jack k).contact) = some j →
              ∃ t, exec .settleTimerExpiry s = .next t
                ∧ t.opt = (s.setOp sl { o with state := .running (some .touchdown) }).opt
                ∧ t.lvc.landing = some (j, (s.jack j).stroke) ∧ (t.jack j).extending = true
                ∧ (∀ k, k ≠ j → (t.jack k).extending = (s.jack k).extending)
                ∧ t.lvc.timers = { JackTimers.stopped with touchdown := some (s.now + s.items.jack.liftTimeout * 1000) }
                ∧ t.lvc.solver = none
                ∧ s.keepsBut t [.table, .jacks]))
          ∧ (x.within (s.tolerance o) = false → x.within s.items.jack.maxSolveTilt = false → ends (.failed .tooSteep) none)
          ∧ (x.within (s.tolerance o) = false → x.within s.items.jack.maxSolveTilt = true →
            (o.pass = s.items.jack.maxPasses → ends (.failed .passes) none)
            ∧ (o.pass ≠ s.items.jack.maxPasses →
              let kept := fun (sol : Solution) => some { solution := sol, pitch := x.pitch, roll := x.roll, pass := o.pass }
              (∀ js, s.runSolver x o.job.bestEffort = .short js → ends (.failed .strokeShort) (kept (.short js)))
              ∧ (∀ l, (∀ p ∈ l, p.2 = 0) →
                  (s.runSolver x o.job.bestEffort = .lifts l true → ends (.partly .strokeLimited) (kept (.lifts l true)))
                  ∧ (s.runSolver x o.job.bestEffort = .lifts l false → ends (.partly .deadband) (kept (.lifts l false))))
              ∧ (∀ l limited, s.runSolver x o.job.bestEffort = .lifts l limited → (∃ p ∈ l, p.2 ≠ 0) →
                ∃ t, exec .settleTimerExpiry s = .next t
                  ∧ t.opt = (s.setOp sl { o with pass := o.pass + 1, state := .running (some .lift) }).opt
                  ∧ (∀ p ∈ l, p.2 ≠ 0 →
                      (t.jack p.1).target = (s.jack p.1).stroke + p.2 ∧ (t.jack p.1).extending = true)
                  ∧ t.lvc.timers = { JackTimers.stopped with lift := some (s.now + s.items.jack.liftTimeout * 1000) }
                  ∧ t.lvc.solver = some { solution := .lifts l limited, pitch := x.pitch, roll := x.roll, pass := o.pass }
                  ∧ s.keepsBut t [.table, .jacks]))))

/-! ### Slide rooms (R89 to R113) -/

/-- ROOM_HALL_PULSE (R89, R90, R98, R99, R102, R107, R108), no clearance entry enabled. A channel that is not watched
changes nothing; a motor neither driven nor coasting is stray; a coasting one counts in its last direction. A driven motor
of a one-motor room counts in its direction within 0 and travel + 200, its run cleared and its tally raised: short of its
target nothing more follows; within the creep window an operation in RUN enters CREEP; at its travel a ROOM_OUT's motor
stops with COMPLETE pending. Of two driven motors, whatever the operation's kind and phase, and also while it is STOPPING:
a pulse that leaves them within sync_limit counts, ends a BREAKAWAY that both have left and enters the creep window as for
one; one that takes them apart beyond it stops both at once, a RUNNING operation with FAILED(SYNC) pending; at its travel
a motor stops and the other goes on alone at the ramped duty, and the last one's stop sets COMPLETE pending. In BREAKAWAY
nothing more follows until the tally of every driven motor has come to 2; then its timer stops and RUN begins at the run
duty, CREEP in the creep window or where the operation was in CREEP before a hold (R20, R99, log entry 65), a jog at the
creep duty (R98). A motor that runs alone inward, its room out of step, has the other motor started by the pulse that
brings the counts within sync_limit (R108). A window of 0 is never met, nor is any window by a ROOM_IN whose room was
unreferenced at a grant of it (R99; that the grant decides is log entry 45). The model's own: the second motor's breakaway
duty at its start (log entry 19), and the demanded duty, unchanged in BREAKAWAY and 0 after the last motor's stop (log
entries 52 and 53). -/
def Obligations.RoomPulseCounts : Prop :=
  ∀ (s : State) (c : Channel), s.Calm → (∀ k, (s.entryItem k).enabled = false) →
    let n := channelRoom c
    let m := channelMotor c
    let x := (s.roomUnit n).motor m
    let travel := s.items.room.travel.get n
    let counted := fun (y : Motor) => if y.dir = some .outward then min (travel + 200) (y.count + 1) else y.count - 1
    let watched := s.inm.parked = false ∧ s.items.configured (.room n) = true ∧ m ∈ s.items.motors n
    let pulsed : Motor := { x with count := counted x, run := 0, tally := min 65535 (x.tally + 1), pulsed := true }
    let stopped := fun (y : Motor) => { y with driven := false, applied := 0, coast := some (s.now + 300) }
    let nears := fun (o : Op) (k : Nat) => 0 < s.roomProfile.creepWindow ∧ (s.roomUnit n).referenced = true
      ∧ (o.job.kind = .roomIn → (s.roomUnit n).blind = false)
      ∧ (o.job.roomDir = .outward ∧ travel ≤ k + s.roomProfile.creepWindow
        ∨ o.job.roomDir = .inward ∧ k ≤ s.roomProfile.creepWindow)
    (¬ watched → ∃ t, exec (.roomHallPulse c) s = .next t ∧ Follows s t)
    ∧ (watched → x.driven = false → x.coast = none →
      ∃ t, exec (.roomHallPulse c) s = .next t ∧ Follows (s.modRoom n (fun r => { r with stray := true })) t
        ∧ t.ntu.faults.present &&& FaultKind.strayMotion.bit = FaultKind.strayMotion.bit)
    ∧ (watched → x.driven = false → x.coast.isSome = true →
      ∃ t, exec (.roomHallPulse c) s = .next t
        ∧ Follows (s.modRoomMotor n m (fun y => { y with count := counted y })) t)
    ∧ (∀ sl o, watched → x.driven = true → s.items.room.motors.get n = 1 → (s.roomUnit n).b.driven = false →
      (s.roomUnit n).b.late = false → x.late = false →
      (s.roomUnit n).breaking = false → (s.roomUnit n).breakTimer = none → (s.roomUnit n).pend = none →
      s.runningOp (.room n) = some (sl, o) → x.dir = some o.job.roomDir →
      ((o.state.phase = some .creep ∨ o.job.kind = .roomJog) → (o.job.roomDir = .outward → x.count + 1 < travel) →
        ∃ t, exec (.roomHallPulse c) s = .next t ∧ Follows (s.modRoom n (fun r => { r with a := pulsed })) t)
      ∧ (o.job.kind ≠ .roomJog → o.state.phase = some .run → (o.job.roomDir = .outward → x.count + 1 < travel) →
        (nears o (counted x) → ∃ t, exec (.roomHallPulse c) s = .next t
          ∧ Follows ((s.modRoom n (fun r =>
              { r with a := pulsed, demanded := s.roomProfile.creepDuty, creeping := true })).setOp sl
              { o with state := .running (some .creep) }) t)
        ∧ (¬ nears o (counted x) → ∃ t, exec (.roomHallPulse c) s = .next t
          ∧ Follows (s.modRoom n (fun r => { r with a := pulsed })) t))
      ∧ (o.job.kind = .roomOut → o.state.phase = some .creep → travel ≤ x.count + 1 →
        ∃ t, exec (.roomHallPulse c) s = .next t
          ∧ Follows (s.modRoom n (fun r =>
              { r with a := { stopped pulsed with atEnd := true }, demanded := 0, ramped := 0
                       pend := some (.result .complete) })) t))
    ∧ (∀ sl o, watched → s.items.room.motors.get n = 2 →
      let r := s.roomUnit n
      let other := if m = .a then MotorId.b else MotorId.a
      let y := r.motor other
      x.driven = true → y.driven = true → x.atEnd = false → y.atEnd = false → y.started = true →
      s.activeOp (.room n) = some (sl, o) →
      let p := s.roomProfile
      let jog := o.job.kind = .roomJog
      let judging := o.state.isRunning = true ∧ r.pend = none
      let broken := fun (z : Motor) => z.late = true ∨ 2 ≤ z.tally
      let leaves := r.breakTimer.isSome = true ∧ broken pulsed ∧ broken y
      let near := ¬ jog ∧ (nears o (counted x) ∨ nears o y.count)
      let creeps := near ∧ (leaves ∨ r.breaking = false ∧ o.state.phase = some .run) ∨ ¬ jog ∧ leaves ∧ r.creeping = true
      let atTravel := x.dir = some .outward ∧ (o.job.kind = .roomOut ∨ r.referenced = true) ∧ travel ≤ counted x
      let lateTimer := if (pulsed.late = true ∧ 2 ≤ pulsed.tally) ∨ (y.late = true ∧ 2 ≤ y.tally) then none else r.lateTimer
      let pulse : RoomUnit := { r.modMotor m (fun _ => pulsed) with
        lateTimer := lateTimer, breaking := if leaves then false else r.breaking
        breakTimer := if leaves then none else r.breakTimer
        creeping := if judging ∧ creeps then true else r.creeping
        demanded := if judging ∧ creeps then p.creepDuty
          else if judging ∧ leaves then (if jog then p.creepDuty else p.runDuty) else r.demanded }
      let paced := fun (u : State) =>
        if judging ∧ creeps then u.setOp sl { o with state := .running (some .creep) }
        else if judging ∧ leaves ∧ ¬ jog then u.setOp sl { o with state := .running (some .run) } else u
      (¬ atTravel → pulse.spread ≤ s.items.room.syncLimit →
        ∃ t, exec (.roomHallPulse c) s = .next t ∧ Follows (paced (s.modRoom n (fun _ => pulse))) t)
      ∧ (¬ atTravel → s.items.room.syncLimit < pulse.spread →
        ∃ t, exec (.roomHallPulse c) s = .next t
          ∧ Follows (paced (s.modRoom n (fun _ => { pulse with
              a := stopped pulse.a, b := stopped pulse.b, demanded := 0, ramped := 0
              pend := if judging then some (.result (.failed .sync)) else r.pend }))) t)
      ∧ (atTravel → r.breaking = false → r.breakTimer = none → (o.state.phase = some .creep ∨ jog) →
        ∃ t, exec (.roomHallPulse c) s = .next t
          ∧ Follows (s.modRoom n (fun _ => (pulse.modMotor m (fun z => { stopped z with atEnd := true })).modMotor other
              (fun z => { z with applied := r.ramped }))) t))
    ∧ (∀ sl o, watched → s.items.room.motors.get n = 2 →
      let r := s.roomUnit n
      let y := r.motor (if m = .a then MotorId.b else MotorId.a)
      x.driven = true → y.driven = false → x.late = false → y.late = false → x.dir = some .outward →
      s.activeOp (.room n) = some (sl, o) → o.job.roomDir = .outward →
      (o.job.kind = .roomOut ∨ r.referenced = true) → r.breaking = false → r.breakTimer = none →
      travel ≤ counted x →
      ∃ t, exec (.roomHallPulse c) s = .next t
        ∧ Follows (s.modRoom n (fun _ => { r.modMotor m (fun _ => { stopped pulsed with atEnd := true }) with
            demanded := 0, ramped := 0
            pend := if o.state.isRunning = true ∧ r.pend = none then some (.result .complete) else r.pend })) t)
    ∧ (∀ sl o, watched → x.driven = true → x.late = false → x.dir = some o.job.roomDir →
      (s.roomUnit n).pend = none → s.runningOp (.room n) = some (sl, o) →
      (o.job.roomDir = .outward → counted x < travel) →
      let two := s.items.room.motors.get n = 2
      let other := if m = .a then MotorId.b else MotorId.a
      let y := (s.roomUnit n).motor other
      let near := nears o
      let pulse := s.modRoomMotor n m (fun _ => pulsed)
      let broken := fun (duty : Nat) (creeping : Bool) => pulse.modRoom n (fun r =>
        { r with breaking := false, breakTimer := none, demanded := duty, creeping := creeping })
      let entered := (s.roomUnit n).creeping = true
      let inStep := ((s.roomUnit n).modMotor m (fun _ => pulsed)).spread ≤ s.items.room.syncLimit
      ((s.roomUnit n).breaking = true → (s.roomUnit n).breakTimer.isSome = true → y.late = false →
        (¬ two ∧ y.driven = false
          ∨ two ∧ y.driven = true ∧ y.started = true ∧ y.dir = some o.job.roomDir ∧ inStep) →
        (x.tally = 0 ∨ y.driven = true ∧ y.tally < 2 →
          ∃ t, exec (.roomHallPulse c) s = .next t ∧ Follows pulse t)
        ∧ (1 ≤ x.tally → (y.driven = true → 2 ≤ y.tally) →
          (o.job.kind = .roomJog →
            ∃ t, exec (.roomHallPulse c) s = .next t ∧ Follows (broken s.roomProfile.creepDuty (s.roomUnit n).creeping) t)
          ∧ (o.job.kind ≠ .roomJog → ¬ entered → ¬ near (counted x) → (y.driven = true → ¬ near y.count) →
            ∃ t, exec (.roomHallPulse c) s = .next t
              ∧ Follows ((broken s.roomProfile.runDuty false).setOp sl { o with state := .running (some .run) }) t)
          ∧ (o.job.kind ≠ .roomJog → entered ∨ near (counted x) ∨ y.driven = true ∧ near y.count →
            ∃ t, exec (.roomHallPulse c) s = .next t
              ∧ Follows ((broken s.roomProfile.creepDuty true).setOp sl { o with state := .running (some .creep) }) t)))
      ∧ (two → y.driven = false → y.started = false → y.late = false → x.started = true → o.job.roomDir = .inward →
        (s.roomUnit n).breaking = false → (s.roomUnit n).breakTimer = none →
        (o.job.kind = .roomJog ∨ o.state.phase = some .creep) →
        (¬ inStep → ∃ t, exec (.roomHallPulse c) s = .next t ∧ Follows pulse t)
        ∧ (inStep → ∃ t, exec (.roomHallPulse c) s = .next t
          ∧ Follows (pulse.modRoom n (fun r => { r.modMotor other (fun z => { z with
              dir := some .inward, driven := true, coast := none, applied := s.roomProfile.breakawayDuty, run := 0
              tally := 0, pulsed := false, started := true, late := true, atEnd := false }) with
                lateTimer := some (s.now + s.roomProfile.breakawayTime) })) t)))

/-- ROOM_TICK (R97, R106, R110). Where no motor is driven, or nothing is watched, nothing changes. In BREAKAWAY the duty
is held and every driven motor takes it; otherwise the ramped duty moves toward its demand by the ramp, a motor driven alone
takes it, and of two driven motors the lead one takes it less its trim; at 0 with nothing demanded every driven motor, one or
two, stops and its coast window opens. -/
def Obligations.RoomTickRampsAndTrims : Prop :=
  ∀ (s : State) (n : Room) (ampsA ampsB : Nat), s.Calm →
    let r := s.roomUnit n
    let p := s.roomProfile
    let ramped := if r.breaking then r.ramped
      else if r.ramped < r.demanded then min r.demanded (r.ramped + p.rampUp) else max r.demanded (r.ramped - p.rampDown)
    let trim := min s.items.room.syncTrimMax (((r.a.count : Int) - (r.b.count : Int)).natAbs * s.items.room.syncGain)
    let runs := s.inm.parked = false ∧ s.items.configured (.room n) = true
    (¬ runs ∨ r.noneDriven = true → ∃ t, exec (.roomTick n ampsA ampsB) s = .next t ∧ Follows s t)
    ∧ (runs → r.a.driven = true → r.b.driven = false → r.a.late = false →
      (r.breaking = false → r.demanded = 0 → ramped = 0 →
        ∃ t, exec (.roomTick n ampsA ampsB) s = .next t
          ∧ Follows (s.modRoom n (fun r =>
              { r with ramped := 0, demanded := 0
                       a := { r.a with amps := ampsA, driven := false, applied := 0, coast := some (s.now + 300) } })) t)
      ∧ (r.breaking = true ∨ r.demanded ≠ 0 ∨ ramped ≠ 0 →
        ∃ t, exec (.roomTick n ampsA ampsB) s = .next t
          ∧ Follows (s.modRoom n (fun r =>
              { r with ramped := ramped, a := { r.a with amps := ampsA, applied := ramped } })) t))
    ∧ (runs → r.a.driven = true ∨ r.b.driven = true → r.breaking = false → r.demanded = 0 → ramped = 0 →
      let stopped := fun (amps : Nat) (y : Motor) => if y.driven = true then
        { y with amps := amps, driven := false, applied := 0, coast := some (s.now + 300) } else y
      ∃ t, exec (.roomTick n ampsA ampsB) s = .next t
        ∧ Follows (s.modRoom n (fun r =>
            { r with ramped := 0, demanded := 0, a := stopped ampsA r.a, b := stopped ampsB r.b })) t)
    ∧ (runs → r.a.driven = true ∨ r.b.driven = true → r.a.late = false → r.b.late = false →
      (r.breaking = true ∨ r.b.driven = false ∨ r.a.driven = false) → (r.breaking = true ∨ r.demanded ≠ 0 ∨ ramped ≠ 0) →
      let takes := fun (amps : Nat) (y : Motor) => if y.driven = true then { y with amps := amps, applied := ramped } else y
      ∃ t, exec (.roomTick n ampsA ampsB) s = .next t
        ∧ Follows (s.modRoom n (fun r => { r with ramped := ramped, a := takes ampsA r.a, b := takes ampsB r.b })) t)
    ∧ (∀ d, runs → s.items.room.motors.get n = 2 → r.a.driven = true → r.b.driven = true → r.a.late = false → r.b.late = false →
      r.breaking = false → (r.demanded ≠ 0 ∨ ramped ≠ 0) → r.a.dir = some d → r.b.dir = some d →
      let leadA := (d = .outward ∧ r.b.count < r.a.count) ∨ (d = .inward ∧ r.a.count < r.b.count)
      let leadB := (d = .outward ∧ r.a.count < r.b.count) ∨ (d = .inward ∧ r.b.count < r.a.count)
      ∃ t, exec (.roomTick n ampsA ampsB) s = .next t
        ∧ (leadA → (t.roomUnit n).a.applied = ramped - trim ∧ (t.roomUnit n).b.applied = ramped)
        ∧ (leadB → (t.roomUnit n).b.applied = ramped - trim ∧ (t.roomUnit n).a.applied = ramped)
        ∧ (r.a.count = r.b.count → (t.roomUnit n).a.applied = ramped ∧ (t.roomUnit n).b.applied = ramped)
        ∧ t.roomUnit n = { r with ramped := ramped, a := { r.a with amps := ampsA, applied := (t.roomUnit n).a.applied }
                                  b := { r.b with amps := ampsB, applied := (t.roomUnit n).b.applied } }
        ∧ (∀ k, k ≠ n → t.roomUnit k = s.roomUnit k)
        ∧ s.keepsBut t [.rooms])

/-- The timers of a room whose operation runs with no end pending, no clearance entry enabled (R98, R100, R101, R108,
R109). Of a one-motor room: at a stall window's expiry a detection short of room_stall_count raises the run, and a
qualified stall, like a breakaway timer's expiry before the motor has broken away, is an arrival in the end zone (motor
stopped, count written, room referenced, end pending) or an obstruction (motor stopped, FAILED(OBSTRUCTED) pending); a jog
timer's expiry stops the motor with COMPLETE pending. A motor that has broken away is left alone by the breakaway timer:
of two motors the one that has not is judged, an obstruction stopping both, an arrival stopping it alone while the other
goes on to RUN, CREEP in its window or where it was in CREEP before a hold (log entry 65), a jog at the creep duty (that
BREAKAWAY ends there is the model's choice, log entry 46; a ROOM_IN whose room was unreferenced at a grant of it stays in
RUN, R99 and log entry 45); the second motor of an out-of-step room has a timer of its own (R108). The expiry of a stopped
timer does nothing. The demanded duty after the last motor's stop is log entry 53. -/
def Obligations.RoomTimersDecide : Prop :=
  ∀ (s : State) (n : Room),
    ((s.roomUnit n).stallTimer = none → exec (.roomStallWindowExpiry n) s = .next s)
    ∧ ((s.roomUnit n).breakTimer = none → exec (.roomBreakawayExpiry n false) s = .next s)
    ∧ ((s.roomUnit n).lateTimer = none → exec (.roomBreakawayExpiry n true) s = .next s)
    ∧ ((s.roomUnit n).jogTimer = none → exec (.roomJogTimerExpiry n) s = .next s)
    ∧ (∀ sl o, s.Calm → (∀ k, (s.entryItem k).enabled = false) → s.items.room.motors.get n = 2 →
      (s.roomUnit n).a.driven = true → (s.roomUnit n).b.driven = true → (s.roomUnit n).a.late = false →
      (s.roomUnit n).pend = none → s.runningOp (.room n) = some (sl, o) → (s.roomUnit n).b.dir = some o.job.roomDir →
      let r := s.roomUnit n
      let p := s.roomProfile
      let travel := s.items.room.travel.get n
      let arrives := (o.job.roomDir = .outward ∧ r.referenced = true ∧ travel - p.endZone ≤ r.b.count)
        ∨ (o.job.roomDir = .inward ∧ (r.referenced = false ∨ r.b.count ≤ p.endZone))
      let jog := o.job.kind = .roomJog
      let creeps := jog ∨ r.creeping = true
        ∨ 0 < p.creepWindow ∧ (o.job.kind = .roomIn → r.blind = false)
          ∧ (o.job.roomDir = .outward ∧ travel ≤ r.a.count + p.creepWindow ∨ o.job.roomDir = .inward ∧ r.a.count ≤ p.creepWindow)
      let stopped := fun (y : Motor) => { y with driven := false, applied := 0, coast := some (s.now + 300) }
      let obstructed : RoomUnit := { r with
        a := stopped r.a, b := stopped r.b, demanded := 0, ramped := 0, pend := some (.result (.failed .obstructed)) }
      (r.b.late = false → r.breaking = true → r.breakTimer.isSome = true → 2 ≤ r.a.tally → r.b.tally < 2 →
        (¬ arrives → ∃ t, exec (.roomBreakawayExpiry n false) s = .next t
          ∧ Follows (s.modRoom n (fun _ => { obstructed with breaking := false, breakTimer := none })) t)
        ∧ (arrives → ∃ t, exec (.roomBreakawayExpiry n false) s = .next t
          ∧ t.roomUnit n = { r with
              a := { r.a with applied := r.ramped }
              b := { stopped r.b with atEnd := true, count := if o.job.roomDir = .outward then travel else 0 }
              referenced := true, stray := false, breaking := false, breakTimer := none
              demanded := if creeps then p.creepDuty else p.runDuty
              creeping := if ¬ jog ∧ creeps then true else r.creeping }
          ∧ t.opAt sl = some (if jog then o
              else { o with state := .running (some (if creeps then .creep else .run)) })
          ∧ (∀ k, k ≠ n → t.roomUnit k = s.roomUnit k) ∧ s.keepsBut t [.table, .rooms]))
      ∧ (r.b.late = true → r.lateTimer.isSome = true →
        (2 ≤ r.b.tally → ∃ t, exec (.roomBreakawayExpiry n true) s = .next t
          ∧ Follows (s.modRoom n (fun r => { r with lateTimer := none })) t)
        ∧ (r.b.tally < 2 → ¬ arrives → ∃ t, exec (.roomBreakawayExpiry n true) s = .next t
          ∧ Follows (s.modRoom n (fun _ => { obstructed with lateTimer := none })) t)))
    ∧ ∀ sl o, s.Calm → (∀ k, (s.entryItem k).enabled = false) → s.items.room.motors.get n = 1 →
      (s.roomUnit n).a.driven = true → (s.roomUnit n).a.late = false → (s.roomUnit n).b.driven = false →
      (s.roomUnit n).pend = none → s.runningOp (.room n) = some (sl, o) → (s.roomUnit n).a.dir = some o.job.roomDir →
      let r := s.roomUnit n
      let p := s.roomProfile
      let travel := s.items.room.travel.get n
      let arrives := (o.job.roomDir = .outward ∧ r.referenced = true ∧ travel - p.endZone ≤ r.a.count)
        ∨ (o.job.roomDir = .inward ∧ (r.referenced = false ∨ r.a.count ≤ p.endZone))
      let judged := fun (t : State) (u : RoomUnit) =>
        (arrives → t.roomUnit n = { u with
            a := { u.a with driven := false, applied := 0, coast := some (s.now + 300), atEnd := true
                            count := if o.job.roomDir = .outward then travel else 0 }
            referenced := true, stray := false, demanded := 0, ramped := 0
            pend := some (if o.job.roomDir = .outward then .result .complete else .bySwitch) })
        ∧ (¬ arrives → t.roomUnit n = { u with
            a := { u.a with driven := false, applied := 0, coast := some (s.now + 300) }
            demanded := 0, ramped := 0, pend := some (.result (.failed .obstructed)) })
        ∧ (∀ k, k ≠ n → t.roomUnit k = s.roomUnit k) ∧ s.keepsBut t [.rooms]
      let window : RoomUnit := { r with
        a := { r.a with pulsed := false }, b := { r.b with pulsed := false }, stallTimer := some (s.now + p.stallWindow) }
      let detected := 2 ≤ r.a.tally ∧ r.a.applied ≠ 0 ∧ (r.a.pulsed = false ∨ p.currentLimit < r.a.amps)
      (r.stallTimer.isSome = true → ¬ detected →
        ∃ t, exec (.roomStallWindowExpiry n) s = .next t ∧ Follows (s.modRoom n (fun _ => window)) t)
      ∧ (r.stallTimer.isSome = true → detected → r.a.run + 1 < p.stallCount →
        ∃ t, exec (.roomStallWindowExpiry n) s = .next t
          ∧ Follows (s.modRoom n (fun _ => { window with a := { window.a with run := r.a.run + 1 } })) t)
      ∧ (r.stallTimer.isSome = true → detected → p.stallCount ≤ r.a.run + 1 →
        ∃ t, exec (.roomStallWindowExpiry n) s = .next t ∧ judged t { window with a := { window.a with run := 0 } })
      ∧ (r.breakTimer.isSome = true → r.a.tally < 2 →
        ∃ t, exec (.roomBreakawayExpiry n false) s = .next t ∧ judged t { r with breakTimer := none, breaking := false })
      ∧ (r.jogTimer.isSome = true →
        ∃ t, exec (.roomJogTimerExpiry n) s = .next t
          ∧ Follows (s.modRoom n (fun r => { r with
              a := { r.a with driven := false, applied := 0, coast := some (s.now + 300) }
              demanded := 0, ramped := 0, jogTimer := none, pend := some (.result .complete) })) t)
      ∧ (r.breakTimer.isSome = true → 2 ≤ r.a.tally → r.breaking = false →
        ∃ t, exec (.roomBreakawayExpiry n false) s = .next t
          ∧ Follows (s.modRoom n (fun r => { r with breakTimer := none })) t)

/-- ROOM_COAST_EXPIRY of a running coast window (R103, R104, R110, R113). With another motor of the room still driven or
coasting nothing more follows. When it was the last, a RUNNING operation ends with its pending end, IN arrival judged by
the switch at that moment, and a STOPPING one with its destination: an end clears what CREEP and the RUN of an
unreferenced room keep, a hold does not end the operation and keeps both (R20, R99); a FAILED end by OBSTRUCTED or SYNC
then reaches the other operations as slide_fault_action gives. Leaving RUNNING or STOPPING, with its reservation given
back, it has the waiting queue examined (R30, R33); that a stow granted there with stagger_time 0 leaves an earlier
stagger timer running is the model's choice (log entry 43). A closed window's expiry does nothing. -/
def Obligations.RoomCoastEnds : Prop :=
  (∀ (s : State) (c : Channel) (sl : Slot) (o : Op) (st : OpState), s.Books → s.Plain →
    let n := channelRoom c
    let m := channelMotor c
    let u := s.modRoomMotor n m (fun x => { x with coast := none })
    let ended := fun (r : Result) => OpState.ended r (s.remainingOf o) (s.opt.ends + 1)
    ((s.roomUnit n).motor m).coast.isSome = true → (u.roomUnit n).atRest = true → s.activeOp (.room n) = some (sl, o) →
    ((∃ ph pe, o.state = .running ph ∧ (s.roomUnit n).pend = some pe ∧ st = ended (pe.report (s.shut (.roomIn n))))
      ∨ (∃ ph r, o.state = .stopping (.ended r) ph ∧ st = ended r)
      ∨ ∃ ph h, o.state = .stopping (.held h) ph ∧ st = .held h) →
    ∃ t, exec (.roomCoastExpiry c) s = .next t ∧ Examined (s.released sl o st) t)
  ∧ ∀ (s : State) (c : Channel),
    let n := channelRoom c
    let m := channelMotor c
    let u := s.modRoomMotor n m (fun x => { x with coast := none })
    (((s.roomUnit n).motor m).coast = none → exec (.roomCoastExpiry c) s = .next s)
    ∧ (((s.roomUnit n).motor m).coast.isSome = true → s.Calm →
      ((u.roomUnit n).atRest = false ∨ s.activeOp (.room n) = none →
        ∃ t, exec (.roomCoastExpiry c) s = .next t ∧ Follows u t)
      ∧ ∀ sl o, (u.roomUnit n).atRest = true → s.activeOp (.room n) = some (sl, o) →
        (∀ ph pe r, o.state = .running ph → (s.roomUnit n).pend = some pe →
          (pe = .result r ∨ pe = .bySwitch ∧ s.shut (.roomIn n) = true ∧ r = .complete
            ∨ pe = .bySwitch ∧ s.shut (.roomIn n) = false ∧ r = .partly .inSwitch) →
          ((r ≠ .failed .obstructed ∧ r ≠ .failed .sync) ∨ s.items.room.faultAction = .room →
            ∃ t, exec (.roomCoastExpiry c) s = .next t ∧ EndsOp s t sl o r (s.remainingOf o)
              ∧ (t.roomUnit n).pend = none ∧ (t.roomUnit n).stallTimer = none
              ∧ (t.roomUnit n).creeping = false ∧ (t.roomUnit n).blind = false
              ∧ s.keepsBut t [.table, .arbiter, .rooms, .orders, .claims])
          ∧ ((r = .failed .obstructed ∨ r = .failed .sync) → s.items.room.faultAction ≠ .room →
            ∃ t, exec (.roomCoastExpiry c) s = .next t
              ∧ t.opAt sl = some { o with state := .ended r (s.remainingOf o) (s.opt.ends + 1), resumed := false }
              ∧ ∀ k p, k ≠ sl → s.opAt k = some p →
                (p.state.isEnded = false →
                  (s.items.room.faultAction = .slides ∧ p.job.group.isRoom = true
                    ∨ s.items.room.faultAction = .all ∧ p.opClass = .normal) →
                  ∃ after, t.opAt k = some after ∧ u.CancelLeaves p (.cancelled .peerFault) after)
                ∧ (¬ (s.items.room.faultAction = .slides ∧ p.job.group.isRoom = true
                    ∨ s.items.room.faultAction = .all ∧ p.opClass = .normal) → t.opAt k = some p)))
        ∧ (∀ ph r, o.state = .stopping (.ended r) ph →
          ∃ t, exec (.roomCoastExpiry c) s = .next t ∧ EndsOp s t sl o r (s.remainingOf o)
            ∧ s.keepsBut t [.table, .arbiter, .rooms, .orders, .claims])
        ∧ (∀ ph h, o.state = .stopping (.held h) ph →
          ∃ t, exec (.roomCoastExpiry c) s = .next t
            ∧ t.opt = (s.setOp sl { o with state := .held h, resumed := false }).opt
            ∧ t.sta.resSum = s.sta.resSum - o.reservation ∧ TagTold s t o.tag
            ∧ (t.roomUnit n).creeping = (s.roomUnit n).creeping ∧ (t.roomUnit n).blind = (s.roomUnit n).blind
            ∧ s.keepsBut t [.table, .arbiter, .rooms, .orders, .claims]))

/-- The Clearance Monitor at ROOM_HALL_PULSE of a one-motor room and at AWNING_HALL_PULSE (R112, R158, R160, R161, R163,
R165), one entry enabled, with that group as its subject, and the pulse moving the count only. The new position becomes
the last judged one. A change that enters the range, in its own direction, while the entry is active sets the flag of a
DETECT entry on both links, but for SERVICE origin with OVERRIDE; for a PROTECT entry and a driven motor of a RUNNING,
NORMAL operation without an order it sets the flag and sends the one stop-at-edge order: demanded duty 0, a breakaway
ended, its timers stopped, PARTIAL(CLEARANCE) pending, the order recorded. A change that enters nothing, an entry that is
not active, a first count without a last judged position, and an unreferenced subject change no flag and no motion. That
these flags raise no category is log entry 30, that the order's record stands by group log entry 35, and that a driven
motor inside a range closed ahead of it is not stopped by a pulse that enters nothing log entry 68. -/
def Obligations.ClearanceJudgesMove : Prop :=
  ∀ (s : State) (c : Instr) (g : Group) (r : MotorRef) (k : Entry),
    (∃ ch, c = .roomHallPulse ch ∧ g = .room (channelRoom ch) ∧ r = .room (channelRoom ch) .a ∧ channelMotor ch = .a
        ∧ s.items.room.motors.get (channelRoom ch) = 1)
      ∨ c = .awningHallPulse ∧ g = .awning ∧ r = .awning →
    s.inm.parked = false → s.inm.notReady = false → s.items.configured g = true → s.noneWaiting →
    (s.someRoomOut = false ∨ s.runsOnly (fun g => !(g == .jacks))) →
    let e := s.entryItem k
    e.enabled = true → e.subject = g → (∀ lo hi, e.cond ≠ .group g lo hi) → (∀ j, j ≠ k → (s.entryItem j).enabled = false) →
    (s.entryUnit k).active = s.activeNow e →
    let x := s.motor r
    let travel := s.travelOf r
    let count := if x.dir = some .outward then min (travel + 200) (x.count + 1) else x.count - 1
    let new := min 1000 (count * 1000 / travel)
    let referenced := match g with
      | .room n => (s.roomUnit n).referenced
      | _ => s.awu.referenced
    let short := fun (o : Op) => match g with
      | .room n =>
        let u := s.roomUnit n
        u.pend = none ∧ u.b.driven = false ∧ u.b.late = false ∧ x.late = false ∧ (x.dir = some .outward → count < travel)
        ∧ (u.breaking = true ∧ x.tally = 0
          ∨ u.breaking = false ∧ u.breakTimer = none ∧ (o.job.kind = .roomJog ∨ o.state.phase = some .creep))
      | _ =>
        s.awu.pend = none
        ∧ (s.awu.breaking = true ∧ x.tally = 0
          ∨ s.awu.breaking = false ∧ s.awu.breakTimer = none ∧ (o.job.kind = .awningJog ∨ s.awu.creeping = true))
        ∧ (o.job.kind = .awningJog → o.job.dir = some .outward → count < travel)
        ∧ (o.job.kind = .awningSet →
          if s.awu.setDir = some .outward then count < s.awu.target else 0 < o.job.value.getD 0 → s.awu.target < count)
    (x.driven = false ∧ x.coast.isSome = true ∨ x.driven = true ∧ ∃ sl o, s.activeOp g = some (sl, o) ∧ short o) →
    let y : Motor := if x.driven then { x with count := count, run := 0, tally := min 65535 (x.tally + 1), pulsed := true }
      else { x with count := count }
    let counted := match r with
      | .room n _ => s.modRoom n (fun u => { u with a := y })
      | .awning => s.modAwning (fun a => { a with motor := y })
    let judged := if count ≠ x.count ∧ referenced = true then counted.modEntry k (fun u => { u with lastA := some new }) else counted
    let enters := referenced = true ∧ ∃ old, (s.entryUnit k).lastA = some old
      ∧ (x.count < count ∧ old < e.lo ∧ e.lo ≤ new ∨ count < x.count ∧ e.hi < old ∧ new ≤ e.hi)
    let flag := fun (u : State) => { u with ntu := { u.ntu with
      coach := { u.ntu.coach with entries := u.ntu.coach.entries ||| bitAt 8 k.val }
      service := { u.ntu.service with entries := u.ntu.service.entries ||| bitAt 8 k.val } } }
    let waived := ∃ sl o, s.opAt sl = some o ∧ o.job.group = g ∧ o.state.isEnded = false ∧ o.job.origin = .service
      ∧ o.job.override = true
    let stopped := x.driven = true ∧ s.clm.ordered.get g.idx = false
      ∧ ∃ sl o, s.runningOp g = some (sl, o) ∧ o.opClass = .normal
    (¬ enters ∨ (s.entryUnit k).active = false → ∃ t, exec c s = .next t ∧ Follows judged t)
    ∧ (enters → (s.entryUnit k).active = true → e.action = .detect → s.onePerGroup →
      (waived → ∃ t, exec c s = .next t ∧ Follows judged t)
      ∧ (¬ waived → ∃ t, exec c s = .next t ∧ Follows (flag judged) t))
    ∧ (enters → (s.entryUnit k).active = true → e.action = .protect →
      (¬ stopped → ∃ t, exec c s = .next t ∧ Follows judged t)
      ∧ (stopped → ∃ t, exec c s = .next t
        ∧ Follows
            (let u := flag judged
             let u := { u with clm := { u.clm with ordered := u.clm.ordered.set g.idx true } }
             match g with
             | .room n => u.modRoom n (fun v => { v with demanded := 0, breaking := false, breakTimer := none
                                                         lateTimer := none, pend := some (.result (.partly .clearance)) })
             | _ => u.modAwning (fun v => { v with demanded := 0, breaking := false, breakTimer := none
                                                   pend := some (.result (.partly .clearance)) })) t))

/-! ### The awning and the wind (R116 to R131) -/

/-- AWNING_HALL_PULSE and AWNING_TICK (R117, R119, R122, R124), no clearance entry enabled. A pulse of a motor neither
driven nor coasting is stray, a coasting one counts in its last direction; a driven one counts, clears its run and raises
its tally. An AWNING_SET that comes to its target count, inward with a target above 0, and an outward jog of a referenced
awning that comes to awning_travel stop with COMPLETE pending (R124, R125); an AWNING_SET or AWNING_STOW running at the
run duty that comes within the creep window demands the creep duty, the AWNING_SET reporting CREEP. In BREAKAWAY nothing
more follows until the tally has come to 2; then its timer stops and the run duty is demanded, the creep duty in the creep
window, where it was entered before a hold (R20, R122), and for a jog, an AWNING_SET reporting its phase (then CREEP: log
entry 65). Every tick takes the current; that of a driven motor ramps its duty (held in breakaway) and applies it, and
stops it at the foot of a ramp-down. The demanded duty before BREAKAWAY ends and the duties after a stop at the target are
the model's choice (log entries 52 and 53). -/
def Obligations.AwningPulseAndTick : Prop :=
  ∀ s : State, s.Calm → (∀ k, (s.entryItem k).enabled = false) →
    let x := s.awu.motor
    let travel := s.items.awn.travel
    let counted := fun (y : Motor) => if y.dir = some .outward then min (travel + 200) (y.count + 1) else y.count - 1
    let watched := s.inm.parked = false ∧ s.items.awn.present = true
    let pulsed : Motor := { x with count := counted x, run := 0, tally := min 65535 (x.tally + 1), pulsed := true }
    (¬ watched → ∃ t, exec .awningHallPulse s = .next t ∧ Follows s t)
    ∧ (watched → x.driven = false → x.coast = none →
      ∃ t, exec .awningHallPulse s = .next t ∧ Follows (s.modAwning (fun a => { a with stray := true })) t
        ∧ t.ntu.faults.present &&& FaultKind.strayMotion.bit = FaultKind.strayMotion.bit)
    ∧ (watched → x.driven = false → x.coast.isSome = true →
      ∃ t, exec .awningHallPulse s = .next t
        ∧ Follows (s.modAwningMotor (fun y => { y with count := counted y })) t)
    ∧ (∀ sl o, watched → x.driven = true → s.awu.breaking = false → s.awu.breakTimer = none → s.awu.pend = none →
      s.runningOp .awning = some (sl, o) →
      let set := o.job.kind = .awningSet
      let jog := o.job.kind = .awningJog
      let stops := set ∧ s.awu.setDir = some .outward ∧ s.awu.target ≤ counted x
        ∨ set ∧ s.awu.setDir = some .inward ∧ 0 < o.job.value.getD 0 ∧ counted x ≤ s.awu.target
        ∨ jog ∧ o.job.dir = some .outward ∧ s.awu.referenced = true ∧ travel ≤ counted x
      let near := s.awu.referenced = true
        ∧ ((counted x : Int) - ((if set then s.awu.target else 0) : Int)).natAbs ≤ s.awningProfile.creepWindow
      (set → s.awu.setDir.isSome = true) →
      (stops → ∃ t, exec .awningHallPulse s = .next t
        ∧ Follows (s.modAwning (fun a => { a with
            motor := { pulsed with driven := false, applied := 0, coast := some (s.now + 300), atEnd := true }
            demanded := 0, ramped := 0, pend := some (.result .complete) })) t)
      ∧ (¬ stops → s.awu.creeping = true ∨ jog ∨ ¬ near →
        ∃ t, exec .awningHallPulse s = .next t ∧ Follows (s.modAwning (fun a => { a with motor := pulsed })) t)
      ∧ (¬ stops → s.awu.creeping = false → ¬ jog → near →
        let u := s.modAwning (fun a => { a with motor := pulsed, demanded := s.awningProfile.creepDuty, creeping := true })
        ∃ t, exec .awningHallPulse s = .next t
          ∧ Follows (if set then u.setOp sl { o with state := .running (some .creep) } else u) t))
    ∧ (∀ sl o, watched → x.driven = true → s.awu.breaking = true → s.awu.breakTimer.isSome = true →
      s.awu.pend = none → s.runningOp .awning = some (sl, o) →
      (o.job.kind = .awningSet → s.awu.setDir = some .outward → counted x < s.awu.target) →
      (o.job.kind = .awningSet → s.awu.setDir = some .inward → 0 < o.job.value.getD 0 → s.awu.target < counted x) →
      (o.job.kind = .awningSet → s.awu.setDir.isSome = true) →
      (o.job.kind = .awningJog → o.job.dir = some .outward → s.awu.referenced = true → counted x < travel) →
      let target := if o.job.kind = .awningSet then s.awu.target else 0
      let near := s.awu.referenced = true ∧ ((counted x : Int) - (target : Int)).natAbs ≤ s.awningProfile.creepWindow
      let broken := fun (duty : Nat) (creeping : Bool) => s.modAwning (fun a =>
        { a with motor := pulsed, breaking := false, breakTimer := none, demanded := duty, creeping := creeping })
      let phased := fun (u : State) (ph : Phase) =>
        if o.job.kind = .awningSet then u.setOp sl { o with state := .running (some ph) } else u
      (x.tally = 0 →
        ∃ t, exec .awningHallPulse s = .next t ∧ Follows (s.modAwning (fun a => { a with motor := pulsed })) t)
      ∧ (1 ≤ x.tally → o.job.kind = .awningJog →
        ∃ t, exec .awningHallPulse s = .next t ∧ Follows (broken s.awningProfile.creepDuty s.awu.creeping) t)
      ∧ (1 ≤ x.tally → o.job.kind ≠ .awningJog →
        (¬ (s.awu.creeping = true ∨ near) → ∃ t, exec .awningHallPulse s = .next t
          ∧ Follows (phased (broken s.awningProfile.runDuty false) .run) t)
        ∧ (s.awu.creeping = true ∨ near → ∃ t, exec .awningHallPulse s = .next t
          ∧ Follows (phased (broken s.awningProfile.creepDuty true) .creep) t)))
    ∧ ∀ amps : Nat,
      let p := s.awningProfile
      let ramped := if s.awu.breaking then s.awu.ramped
        else if s.awu.ramped < s.awu.demanded then min s.awu.demanded (s.awu.ramped + p.rampUp)
        else max s.awu.demanded (s.awu.ramped - p.rampDown)
      (¬ watched → ∃ t, exec (.awningTick amps) s = .next t ∧ Follows s t)
      ∧ (watched → x.driven = false →
        ∃ t, exec (.awningTick amps) s = .next t ∧ Follows (s.modAwningMotor (fun y => { y with amps := amps })) t)
      ∧ (watched → x.driven = true → s.awu.breaking = false → s.awu.demanded = 0 → ramped = 0 →
        ∃ t, exec (.awningTick amps) s = .next t
          ∧ Follows (s.modAwning (fun a => { a with ramped := 0, demanded := 0, motor := { a.motor with
              amps := amps, driven := false, applied := 0, coast := some (s.now + 300), atEnd := true } })) t)
      ∧ (watched → x.driven = true → s.awu.breaking = true ∨ s.awu.demanded ≠ 0 ∨ ramped ≠ 0 →
        ∃ t, exec (.awningTick amps) s = .next t
          ∧ Follows (s.modAwning (fun a => { a with
              ramped := ramped, motor := { a.motor with amps := amps, applied := ramped } })) t)

/-- The awning's timers (R117, R123 to R126, R132), no clearance entry enabled: a qualified stall at a stall window's
expiry, or a breakaway timer's expiry before the motor has broken away, is an arrival in the end zone or an obstruction; a
jog timer's expiry stops the motor with COMPLETE pending; a motor that has broken away is left alone by the breakaway
timer; when the coast window closes the pending end is reported, an IN arrival by the switch at that moment, and a
STOPPING operation ends or becomes HELD: an end clears an entered creep window, a hold keeps it (R20, R122). The expiry of
a stopped timer does nothing. The duties after such a stop are log entry 53. -/
def Obligations.AwningTimersDecide : Prop :=
  ∀ s : State,
    (s.awu.stallTimer = none → exec .awningStallWindowExpiry s = .next s)
    ∧ (s.awu.breakTimer = none → exec .awningBreakawayExpiry s = .next s)
    ∧ (s.awu.jogTimer = none → exec .awningJogTimerExpiry s = .next s)
    ∧ (s.awu.motor.coast = none → exec .awningCoastExpiry s = .next s)
    ∧ (s.Calm → (∀ k, (s.entryItem k).enabled = false) →
      let p := s.awningProfile
      let x := s.awu.motor
      (∀ sl o d, x.driven = true → x.dir = some d → s.awu.pend = none → s.runningOp .awning = some (sl, o) →
        let arrives := (d = .outward ∧ s.awu.referenced = true ∧ s.items.awn.travel - p.endZone ≤ x.count)
          ∨ (d = .inward ∧ (s.awu.referenced = false ∨ x.count ≤ p.endZone))
        let arrival : Pend := if d = .outward ∨ o.job.kind = .awningSet ∧ 0 < o.job.value.getD 0 then .result .complete
          else .bySwitch
        let judged := fun (t : State) (u : AwningUnit) =>
          (arrives → t.awu = { u with
              motor := { u.motor with driven := false, applied := 0, coast := some (s.now + 300), atEnd := true
                                      count := if d = .outward then s.items.awn.travel else 0 }
              referenced := true, stray := false, demanded := 0, ramped := 0, pend := some arrival })
          ∧ (¬ arrives → t.awu = { u with
              motor := { u.motor with driven := false, applied := 0, coast := some (s.now + 300), atEnd := true }
              demanded := 0, ramped := 0, pend := some (.result (.failed .obstructed)) })
          ∧ s.keepsBut t [.awning]
        let window : AwningUnit := { s.awu with motor := { x with pulsed := false }, stallTimer := some (s.now + p.stallWindow) }
        let detected := 2 ≤ x.tally ∧ x.applied ≠ 0 ∧ (x.pulsed = false ∨ p.currentLimit < x.amps)
        (s.awu.stallTimer.isSome = true → ¬ detected →
          ∃ t, exec .awningStallWindowExpiry s = .next t ∧ Follows (s.modAwning (fun _ => window)) t)
        ∧ (s.awu.stallTimer.isSome = true → detected → x.run + 1 < p.stallCount →
          ∃ t, exec .awningStallWindowExpiry s = .next t
            ∧ Follows (s.modAwning (fun _ => { window with motor := { window.motor with run := x.run + 1 } })) t)
        ∧ (s.awu.stallTimer.isSome = true → detected → p.stallCount ≤ x.run + 1 →
          ∃ t, exec .awningStallWindowExpiry s = .next t ∧ judged t { window with motor := { window.motor with run := 0 } })
        ∧ (s.awu.breakTimer.isSome = true → x.tally < 2 →
          ∃ t, exec .awningBreakawayExpiry s = .next t ∧ judged t { s.awu with breakTimer := none })
        ∧ (s.awu.breakTimer.isSome = true → 2 ≤ x.tally →
          ∃ t, exec .awningBreakawayExpiry s = .next t ∧ Follows (s.modAwning (fun a => { a with breakTimer := none })) t)
        ∧ (s.awu.jogTimer.isSome = true →
          ∃ t, exec .awningJogTimerExpiry s = .next t
            ∧ Follows (s.modAwning (fun a => { a with
                motor := { a.motor with driven := false, applied := 0, coast := some (s.now + 300), atEnd := true }
                demanded := 0, ramped := 0, jogTimer := none, pend := some (.result .complete) })) t))
      ∧ (x.coast.isSome = true → x.driven = false →
        (s.activeOp .awning = none →
          ∃ t, exec .awningCoastExpiry s = .next t ∧ Follows (s.modAwningMotor (fun y => { y with coast := none })) t)
        ∧ ∀ sl o, s.activeOp .awning = some (sl, o) →
          (∀ ph pe r, o.state = .running ph → s.awu.pend = some pe →
            (pe = .result r ∨ pe = .bySwitch ∧ s.shut .awningIn = true ∧ r = .complete
              ∨ pe = .bySwitch ∧ s.shut .awningIn = false ∧ r = .partly .inSwitch) →
            ∃ t, exec .awningCoastExpiry s = .next t ∧ EndsOp s t sl o r (s.remainingOf o)
              ∧ t.awu.pend = none ∧ t.awu.creeping = false ∧ s.keepsBut t [.table, .arbiter, .awning, .orders, .claims])
          ∧ (∀ ph r, o.state = .stopping (.ended r) ph →
            ∃ t, exec .awningCoastExpiry s = .next t ∧ EndsOp s t sl o r (s.remainingOf o)
              ∧ s.keepsBut t [.table, .arbiter, .awning, .orders, .claims])
          ∧ (∀ ph h, o.state = .stopping (.held h) ph →
            ∃ t, exec .awningCoastExpiry s = .next t
              ∧ t.opt = (s.setOp sl { o with state := .held h, resumed := false }).opt
              ∧ t.sta.resSum = s.sta.resSum - o.reservation ∧ TagTold s t o.tag
              ∧ t.awu.creeping = s.awu.creeping
              ∧ s.keepsBut t [.table, .arbiter, .awning, .orders, .claims])))

/-- WIND_PULSE, WIND_GATE_END and LOCKOUT_EXPIRY (R127 to R131), awake or parked. A pulse adds 1 to the gate counter, at
most 2000. A gate end computes the gate speed, moves the window of ten and its average, judges the trigger and starts the
next gate; without a trigger nothing more follows. A trigger gate restarts the lockout timer and raises WIND with its
details. Where the conditions of a stow hold (R131) it admits an AWNING_STOW of class SAFETY, an awning operation of class
NORMAL being superseded first (R22); it joins the queue ahead of every waiting operation and is granted at once where no
start test fails, its motor driven inward (R29 to R32, R122); where they do not, an awning operation that runs outward
ends CANCELLED(INTERLOCK) with its motor cut. Parked, it wakes the part with cause WIND and then acts. The lockout's
expiry stops its timer and raises its detail. Where the stow takes the place of an ENDED record, that this record's tag
still counts as in use when the stow's is chosen (R4, R6) is the model's choice, log entry 41; so are, in the stow's
grant, the stagger timer that an earlier grant started and a stagger_time of 0 leaves running (43), and the awning's
demanded duty left as it stood (52). -/
def Obligations.WindGatesJudge : Prop :=
  ∀ s : State,
    exec .windPulse s = .next { s with wind := { s.wind with gateCount := min 2000 (s.wind.gateCount + 1) } }
    ∧ (s.wind.lockout = none → exec .lockoutExpiry s = .next s)
    ∧ (s.wind.lockout.isSome = true → s.Calm →
      ∃ t, exec .lockoutExpiry s = .next t ∧ t.wind = { s.wind with lockout := none } ∧ s.keepsBut t [.wind]
        ∧ t.ntu.coach.wind = s.ntu.coach.wind ||| 0x04#8 ∧ t.ntu.service.wind = s.ntu.service.wind ||| 0x04#8
        ∧ t.ntu.coach.cats &&& Category.wind.bit = Category.wind.bit
        ∧ t.ntu.service.cats &&& Category.wind.bit = Category.wind.bit)
    ∧ (s.wind.gateTimer = none → exec .windGateEnd s = .next s)
    ∧ (s.wind.gateTimer.isSome = true →
      let v := (s.wind.gateCount * s.items.awn.windFactor + 50) / 100
      let window := (if s.wind.window.length < 10 then s.wind.window else s.wind.window.drop 1) ++ [v]
      let average := (window.sum + window.length / 2) / window.length
      let trigger := (s.items.awn.avgLimit ≠ 0 ∧ s.items.awn.avgLimit < average)
        ∨ (s.items.awn.gustLimit ≠ 0 ∧ s.items.awn.gustLimit < v)
      let gate : Wind := { gateCount := 0, gateTimer := some (s.now + 1000), lastCount := s.wind.gateCount
                           lastSpeed := v, window := window, trigger := false, lockout := s.wind.lockout }
      let lockout := if s.items.awn.lockout = 0 then s.wind.lockout else some (s.now + s.items.awn.lockout * 60000)
      let after : Wind := { gate with trigger := true, lockout := lockout }
      let stow := fun (st : OpState) => ({ tag := s.internalTag, job := stowJob, state := st, pass := 0
                                           admission := s.opt.admissions + 1, reservation := s.items.supply.shareAwning
                                           resumed := false } : Op)
      (s.Calm → ¬ trigger → ∃ t, exec .windGateEnd s = .next t ∧ Follows { s with wind := gate } t)
      ∧ (s.Calm → trigger → s.inm.parked = false →
        (s.stowDue = false → s.activeOp .awning = none →
          ∃ t, exec .windGateEnd s = .next t ∧ t.wind = after
            ∧ (s.wind.trigger = false → t.ntu.coach.wind &&& 0x01#8 = 0x01#8 ∧ t.ntu.service.wind &&& 0x01#8 = 0x01#8)
            ∧ (s.wind.lockout = none → s.items.awn.lockout ≠ 0 →
                t.ntu.coach.wind &&& 0x02#8 = 0x02#8 ∧ t.ntu.service.wind &&& 0x02#8 = 0x02#8)
            ∧ s.keepsBut t [.wind])
        ∧ (∀ sl w, s.stowDue = true → s.busySlot .awning = none → s.placeSlot = some sl →
            (∀ o ∈ s.opAt sl, o.state.isEnded = true) → s.sta.queue = [] →
            s.blockedBy (s.newRecord s.internalTag stowJob) = some w →
            ∃ t, exec .windGateEnd s = .next t ∧ t.wind = after ∧ t.opAt sl = some (stow (.admitted w))
              ∧ (∀ k, k ≠ sl → t.opAt k = s.opAt k) ∧ t.opt.internalTag = nextTag s.internalTag
              ∧ t.sta = { s.sta with queue := [sl] }
              ∧ s.keepsBut t [.table, .arbiter, .wind])
        ∧ (∀ sl o, s.stowDue = false → s.activeOp .awning = some (sl, o) → s.awningDir o = .outward →
            (∀ r ph, o.state ≠ .stopping (.ended r) ph) → (s.awu.motor.driven = false → s.awu.ramped = 0) →
            ∃ t, exec .windGateEnd s = .next t ∧ EndsOp s t sl o (.cancelled .interlock) (s.remainingOf o)
              ∧ t.awu.motor.driven = false ∧ t.awu.ramped = 0 ∧ t.awu.demanded = 0))
      ∧ (∀ sl, s.Books → s.Plain → trigger → s.inm.parked = false → s.stowDue = true → s.busySlot .awning = none →
        s.placeSlot = some sl →
        let o := stow (.admitted .queue)
        let u : State := { s with
          opt := { s.opt with slots := s.opt.slots.set sl (some o), admissions := s.opt.admissions + 1
                              internalTag := nextTag s.internalTag
                              endedList := s.opt.endedList.filter (fun x => !(s.opAt sl).any (fun p => p.tag == x)) }
          sta := { s.sta with queue := sl :: s.sta.queue }
          wind := after }
        ∃ t, exec .windGateEnd s = .next t ∧ Examined u t
          ∧ (u.blockedBy o = none → s.sta.queue = [] ∨ s.items.supply.staggerTime ≠ 0 → u.GrantLeaves t sl o))
      ∧ (∀ k p sl, s.Undisturbed → trigger → s.inm.parked = false → s.stowDue = true →
        s.busySlot .awning = some k → s.opAt k = some p → s.opAt sl = none → (∀ i, i < sl → (s.opAt i).isSome = true) →
        (∀ i, i ≠ k → ∀ o ∈ s.opAt i, o.state.isAdmitted = false) → (∀ q ∈ s.sta.queue, q = k) →
        ∃ t st, exec .windGateEnd s = .next t ∧ t.wind = after
          ∧ (∃ rem, t.opAt k = some { p with
              state := .ended (match p.state with
                | .stopping (.ended r) _ => r
                | _ => .cancelled .superseded) rem (s.opt.ends + 1)
              resumed := false })
          ∧ t.opAt sl = some (stow st) ∧ (st = .running (some .move) ∨ ∃ w, st = .admitted w)
          ∧ (∀ i, i ≠ k → i ≠ sl → t.opAt i = s.opAt i)
          ∧ t.opt.ends = s.opt.ends + 1 ∧ t.opt.endedList = s.opt.endedList ++ [p.tag]
          ∧ t.opt.admissions = s.opt.admissions + 1 ∧ t.opt.internalTag = nextTag s.internalTag
          ∧ (st = .running (some .move) → t.awu.motor.driven = true ∧ t.awu.motor.dir = some .inward)
          ∧ (st ≠ .running (some .move) → p.state.active = true → t.awu.motor.driven = false)
          ∧ s.keepsBut t [.table, .arbiter, .awning, .wind, .orders, .claims])
      ∧ (s.Calm → trigger → s.inm.parked = true → s.allEnded → s.sta.queue = [] →
        (∀ i, (s.input i).lastPoll = none ∧ (s.input i).pending = none) →
        let woken := fun (t : State) => exec .windGateEnd s = .next t ∧ t.wind = after
          ∧ t.inm.parked = false ∧ t.inm.wakeCause = some .wind ∧ t.inm.pollTimer = none ∧ t.inm.coach = t.coachNow
          ∧ t.ntu.coach.cats &&& Category.power.bit = Category.power.bit
          ∧ t.ntu.service.cats &&& Category.power.bit = Category.power.bit
          ∧ (∀ i, t.input i = s.input i)
        (s.stowDue = false → ∃ t, woken t ∧ s.keepsBut t [.wind, .inputs, .links])
        ∧ (∀ sl, s.stowDue = true → s.placeSlot = some sl →
          ∃ t st, woken t ∧ t.opAt sl = some (stow st) ∧ (st = .running (some .move) ∨ ∃ w, st = .admitted w)
            ∧ (∀ i, i ≠ sl → t.opAt i = s.opAt i) ∧ t.opt.admissions = s.opt.admissions + 1
            ∧ t.opt.internalTag = nextTag s.internalTag
            ∧ s.keepsBut t [.table, .arbiter, .awning, .wind, .inputs, .links])))
    ∧ (s.stowDue = true ↔
      let mandatory := fun (f : Func) => f = .parkBrake ∨ f = .eStop ∨ (∃ n, f = .roomIn n ∧ s.items.configured (.room n) = true)
        ∨ (∃ k ∈ s.items.jacks, f = .jackUp k) ∨ f = .awningIn
      s.items.awn.present = true ∧ s.ist.source = .image ∧ (∀ f, mandatory f → ∃ i, s.funcOf i = f)
      ∧ s.awningCondition ≠ .inside ∧ (∀ sl o, s.opAt sl = some o → o.job.kind = .awningStow → o.state.isEnded = true)
      ∧ s.inm.notReady = false ∧ s.shut .eStop = true)

/-! ### The switch inputs (R134 to R146) -/

/-- INPUT_SAMPLE, FIRST_DEBOUNCE_EXPIRY and FAULT_TIMER_EXPIRY (R92, R118, R134 to R137), in start-up and after it. A sample
records every pin's level and moves the timers of each input in use: equal to the debounced state stops the debounce timer,
different starts a stopped one and leaves a running one; a first debounce starts, and starts afresh at another reading; a
short starts the fault timer, any other reading stops it, and with the flag set the other way round. A first debounce's
expiry makes the reading held the debounced state, and a ROOM_IN or AWNING_IN then reading closed references its room or the
awning at count 0; while the input reads short the expiry only stops the timer (the model's choice, log entry 39). A fault
timer's expiry turns the flag over; an input set faulty before its first debounce holds open. Start-up ends once every input
in use has completed its first debounce, with none in use at the first sample (log entry 63). Parked, nothing is sampled; a
stopped timer's expiry does nothing. -/
def Obligations.InputTimersRun : Prop :=
  ∀ s : State,
    let starting := fun (t : State) => t.inm.notReady = true
      ↔ s.inm.notReady = true ∧ ∃ k, s.funcOf k ≠ .none ∧ (t.input k).firstDone = false
    (∀ levels : Bank Level 24,
      (s.inm.parked = true → exec (.inputSample levels) s = .next s)
      ∧ (s.inm.parked = false → s.Calm →
        ∃ t, exec (.inputSample levels) s = .next t ∧ s.keepsBut t [.inputs] ∧ starting t
          ∧ ∀ i, (t.input i).level = levels.get i ∧ (t.input i).debounced = (s.input i).debounced
            ∧ (t.input i).fault = (s.input i).fault ∧ (t.input i).firstDone = (s.input i).firstDone
            ∧ (s.funcOf i = .none → t.input i = { s.input i with level := levels.get i })
            ∧ (s.funcOf i ≠ .none →
              let reading := readLevel (s.items.inp.invert.get i) (levels.get i)
              let later := some (s.now + s.items.inp.debounce)
              (((reading = .short) ↔ (s.input i).fault = true) → (t.input i).faultTimer = none)
              ∧ (¬ ((reading = .short) ↔ (s.input i).fault = true) →
                  (t.input i).faultTimer = if (s.input i).faultTimer = none then later else (s.input i).faultTimer)
              ∧ ((s.input i).fault = true ∨ reading = .short → (t.input i).debounce = (s.input i).debounce)
              ∧ (∀ c, (s.input i).fault = false → reading.contact = some c → (s.input i).firstDone = true →
                ((s.input i).debounced = some c → (t.input i).debounce = none)
                ∧ ((s.input i).debounced ≠ some c →
                  (t.input i).debounce = if (s.input i).debounce = none then later else (s.input i).debounce))
              ∧ (∀ c, (s.input i).fault = false → reading.contact = some c → (s.input i).firstDone = false →
                (t.input i).firstReading = some c
                ∧ (t.input i).debounce
                  = if (s.input i).debounce.isSome = true ∧ (s.input i).firstReading = some c
                    then (s.input i).debounce else later))))
    ∧ ∀ i : Input,
      (((s.input i).debounce = none ∨ (s.input i).firstDone = true) → exec (.firstDebounceExpiry i) s = .next s)
      ∧ ((s.input i).debounce.isSome = true → (s.input i).firstDone = false → s.reading i = .short → s.Calm →
        ∃ t, exec (.firstDebounceExpiry i) s = .next t
          ∧ Follows (s.modInput i (fun u => { u with debounce := none })) t)
      ∧ (∀ c, (s.input i).debounce.isSome = true → (s.input i).firstDone = false → (s.input i).firstReading = some c →
        s.reading i ≠ .short → (∀ j, j ≠ i → s.funcOf j = s.funcOf i → s.funcOf i = .generic) → s.Calm →
        s.runsOnly (fun g => !(g == .jacks)) → (∀ k, (s.entryItem k).enabled = false) →
        ∃ t, exec (.firstDebounceExpiry i) s = .next t
          ∧ t.input i = { s.input i with debounced := some c, firstDone := true, debounce := none }
          ∧ (∀ k, k ≠ i → t.input k = s.input k)
          ∧ starting t
          ∧ t.ntu.coach.inputs = s.ntu.coach.inputs
          ∧ (∀ n, s.funcOf i = .roomIn n → s.items.configured (.room n) = true → c = .closed →
            (t.roomUnit n).referenced = true ∧ (t.roomUnit n).stray = false
            ∧ (∀ m ∈ s.items.motors n, (t.roomUnit n).motor m = { (s.roomUnit n).motor m with count := 0 })
            ∧ t.roomCondition n = .inside ∧ (∀ k, k ≠ n → t.roomUnit k = s.roomUnit k) ∧ t.awu = s.awu)
          ∧ (s.funcOf i = .awningIn → c = .closed →
            t.awu = { s.awu with motor := { s.awu.motor with count := 0 }, referenced := true, stray := false }
            ∧ t.awningCondition = .inside ∧ t.sdc = s.sdc)
          ∧ (c = .opened ∨ s.funcOf i = .generic ∨ s.funcOf i = .door ∨ s.funcOf i = .ignition ∨ s.funcOf i = .parkBrake
              ∨ s.funcOf i = .eStop ∨ (∃ j, s.funcOf i = .jackUp j) → t.sdc = s.sdc ∧ t.awu = s.awu)
          ∧ s.keepsBut t [.inputs, .rooms, .awning])
      ∧ ((s.input i).faultTimer = none → exec (.faultTimerExpiry i) s = .next s)
      ∧ ((s.input i).faultTimer.isSome = true → s.Calm →
        ∃ t, exec (.faultTimerExpiry i) s = .next t
          ∧ ((s.input i).fault = true → t.input i = { s.input i with fault := false, faultTimer := none })
          ∧ ((s.input i).fault = false →
            t.input i = { s.input i with fault := true, faultTimer := none, debounce := none, firstDone := true
                                         debounced := some ((s.input i).debounced.getD .opened) }
            ∧ (s.funcOf i ≠ .none → t.ntu.faults.present &&& FaultKind.inputFault.bit = FaultKind.inputFault.bit))
          ∧ (∀ k, k ≠ i → t.input k = s.input k)
          ∧ starting t
          ∧ t.ntu.coach.inputs = s.ntu.coach.inputs
          ∧ s.keepsBut t [.inputs])

/-- DEBOUNCE_EXPIRY (R23, R24, R82, R86, R92, R103, R124, R131, R135, R141 to R146) of a running timer, awake: the debounced
state becomes its opposite, and the change notice is raised where the input has one. A GENERIC or DOOR input hands nothing on
but the record. IGNITION changes its record, and with it idle and its timer (R147). PARK_BRAKE closing (set) raises no event
and ends TRAVEL_UNSTOWED; E_STOP closing (normal) ends E_STOP's presence and touches no operation. JACK_UP, AWNING_IN and
ROOM_IN opening change the condition alone (R61, R93, R118); but a room that so ceases to be IN while a JACKS_STOW or inward
JACK_JOG runs without SERVICE origin and OVERRIDE closes every valve and ends it CANCELLED(INTERLOCK) (R83). PARK_BRAKE opening cancels every deploying NORMAL operation with INTERLOCK and then, where a stow is due,
admits an AWNING_STOW that supersedes the awning's NORMAL operation; what is deploying is R23's list, an AWNING_SET in STOPPING
judged by its motor's direction (the model's choice, log entry 40). E_STOP opening ends every operation with E_STOP and makes
E_STOP present. A ROOM_IN closing references its room at count 0; under an inward operation every driven motor stops, with the
end pending. JACK_UP closing shuts its valve under a JACKS_STOW, and ends it with every jack up or ends its jack's inward jog
COMPLETE. AWNING_IN closing references the awning at 0, also while awning_present is 0 (R118), and under an inward operation
stops its motor with COMPLETE pending. The model's choices: the duties of a motor that stops so (log entry 53), and that a
ROOM_JOG ends COMPLETE there also where its other motor has stopped by arrival, which R109 leaves open (log entry 47). A
stopped timer's expiry does nothing. -/
def Obligations.DebouncedChangeActs : Prop :=
  (∀ (s : State) (i : Input),
    ((s.input i).debounce = none ∨ (s.input i).firstDone = false → exec (.debounceExpiry i) s = .next s)
    ∧ (∀ c, (s.input i).debounce.isSome = true → (s.input i).firstDone = true → s.inm.parked = false →
      (s.input i).debounced = some c → s.inm.notReady = false →
      let turned := fun (t : State) =>
        (t.input i) = { s.input i with debounced := some c.flip, debounce := none }
        ∧ (∀ k, k ≠ i → t.input k = s.input k)
        ∧ t.ntu.coach.inputs
          = (if s.items.inp.notice.get i then s.ntu.coach.inputs ||| bitAt 24 i.val else s.ntu.coach.inputs)
      let recordOnly := fun (P : State → Prop) =>
        ∃ t, exec (.debounceExpiry i) s = .next t ∧ turned t ∧ s.keepsBut t [.inputs] ∧ P t
      ((s.funcOf i = .generic ∨ s.funcOf i = .door) → s.Calm →
        ∃ t, exec (.debounceExpiry i) s = .next t ∧ turned t ∧ s.keepsBut t [.inputs])
      ∧ (s.inputOf .ignition = some i → s.Calm → recordOnly (fun t =>
        t.inm.coach.ignition = (c == .opened)
        ∧ (c = .opened → t.inm.idle = false ∧ t.inm.idleTimer = none)
        ∧ (c = .closed → s.inm.idle = false → s.allEnded → s.liu.connected = false → s.ist.storing = none →
            t.inm.idle = true ∧ t.inm.idleTimer
              = if s.items.inp.autoPark = 0 then none else some (s.now + s.items.inp.autoPark * 60000))))
      ∧ (s.inputOf .parkBrake = some i → c = .opened → s.Calm → recordOnly (fun t =>
        t.inm.coach.brake = .set ∧ t.inm.coach.travelUnstowed = false
        ∧ t.ntu.faults.present &&& FaultKind.travelUnstowed.bit = 0))
      ∧ (s.inputOf .eStop = some i → c = .opened → s.Calm → recordOnly (fun t =>
        t.inm.coach.eStop = .normal ∧ t.ntu.faults.present &&& FaultKind.eStop.bit = 0))
      ∧ (∀ j, s.inputOf (.jackUp j) = some i → c = .closed → s.Calm → recordOnly (fun t =>
        t.lvc = s.lvc ∧ (j ∈ s.items.jacks → t.jacksCondition ≠ .stowed)))
      ∧ (s.inputOf .awningIn = some i → c = .closed → s.Calm → recordOnly (fun t =>
        t.awu = s.awu ∧ t.awningCondition = if s.awu.referenced then .outside else .unknown))
      ∧ (∀ n, s.inputOf (.roomIn n) = some i → c = .closed → s.noneWaiting →
        ((∀ k, (s.entryItem k).enabled = false) ∨ s.runsOnly (fun g => g == .jacks)) →
        let retracts := fun (o : Op) => (o.job.kind = .jacksStow ∨ o.job.kind = .jackJog ∧ o.job.dir = some .inward)
          ∧ ¬ (o.job.origin = .service ∧ o.job.override = true)
        let leaves := fun (t : State) => t.roomCondition n
          = if (s.roomUnit n).referenced = false then .unknown
            else if ∀ m ∈ s.items.motors n, 1000 - s.roomProfile.endZone * 1000 / s.items.room.travel.get n
              ≤ min 1000 (((s.roomUnit n).motor m).count * 1000 / s.items.room.travel.get n) then .outside else .between
        ((∀ sl o, s.runningOp .jacks = some (sl, o) → ¬ retracts o) → recordOnly (fun t => t.sdc = s.sdc ∧ leaves t))
        ∧ (∀ sl o, s.runningOp .jacks = some (sl, o) → retracts o → s.lvc.pend = none → s.items.configured (.room n) = true →
          ∃ t, exec (.debounceExpiry i) s = .next t ∧ turned t ∧ t.sdc = s.sdc ∧ leaves t
            ∧ (∀ j, (t.jack j).extending = false ∧ (t.jack j).retracting = false) ∧ t.lvc.timers = JackTimers.stopped
            ∧ (s.lvc.pump = 0 → ∃ rem, t.opAt sl
                = some { o with state := .ended (.cancelled .interlock) rem (s.opt.ends + 1), resumed := false })
            ∧ (s.lvc.pump ≠ 0 → t.lvc.pend = some (.cancelled .interlock) ∧ t.opt = s.opt)
            ∧ (∀ k, k ≠ sl → t.opAt k = s.opAt k)
            ∧ s.keepsBut t [.table, .arbiter, .jacks, .inputs, .orders, .claims]))
      ∧ (s.inputOf .parkBrake = some i → c = .closed → (s.items.awn.present = false ∨ s.stowDue = false) → s.Undisturbed →
        (∀ sl o, s.opAt sl = some o → o.state.isAdmitted = true → o.opClass = .normal ∧ s.deployingOp o = true) →
        ∃ t, exec (.debounceExpiry i) s = .next t ∧ turned t ∧ t.inm.coach.brake = .released
          ∧ s.eachRecord t (fun o => o.opClass == .normal && s.deployingOp o)
              (fun o after => s.CancelLeaves o (.cancelled .interlock) after)
          ∧ s.keepsBut t [.table, .arbiter, .jacks, .rooms, .awning, .inputs, .orders, .claims])
      ∧ (s.inputOf .eStop = some i → c = .closed →
        ∃ t, exec (.debounceExpiry i) s = .next t ∧ turned t ∧ t.allEnded ∧ t.inm.coach.eStop = .stop
          ∧ t.ntu.faults.present &&& FaultKind.eStop.bit = FaultKind.eStop.bit
          ∧ (∀ sl o, s.opAt sl = some o → o.state.isAdmitted = true ∨ o.state.isRunning = true ∨ o.state.isHeld = true →
              ∃ rem m, t.opAt sl = some { o with state := .ended (.cancelled .eStop) rem m, resumed := false })
          ∧ s.keepsBut t [.table, .arbiter, .jacks, .rooms, .awning, .inputs, .orders, .claims])
      ∧ (∀ n, s.inputOf (.roomIn n) = some i → c = .opened → s.items.configured (.room n) = true →
        s.activeOp (.room n) = none → s.Calm → (∀ k, (s.entryItem k).enabled = false) →
        s.runsOnly (fun g => !(g == .jacks)) →
        ∃ t, exec (.debounceExpiry i) s = .next t ∧ turned t
          ∧ (t.roomUnit n).referenced = true ∧ (t.roomUnit n).stray = false
          ∧ (∀ m ∈ s.items.motors n, ((t.roomUnit n).motor m).count = 0)
          ∧ t.roomCondition n = .inside
          ∧ (∀ k, k ≠ n → t.roomUnit k = s.roomUnit k)
          ∧ s.keepsBut t [.rooms, .inputs])
      ∧ (∀ sl, s.inputOf .parkBrake = some i → c = .closed → s.stowDue = true → s.Undisturbed → s.onePerGroup →
        (∀ k o, s.opAt k = some o → o.state.isAdmitted = true → o.opClass = .normal ∧ s.deployingOp o = true) →
        (∀ q ∈ s.sta.queue, ∃ o, s.opAt q = some o ∧ o.state.isAdmitted = true) →
        s.opAt sl = none → (∀ k, k < sl → (s.opAt k).isSome = true) →
        ∃ t st, exec (.debounceExpiry i) s = .next t ∧ turned t ∧ t.inm.coach.brake = .released
          ∧ t.opAt sl = some { tag := s.internalTag, job := stowJob, state := st, pass := 0
                               admission := s.opt.admissions + 1, reservation := s.items.supply.shareAwning, resumed := false }
          ∧ (st = .running (some .move) ∨ ∃ w, st = .admitted w)
          ∧ (st = .running (some .move) → t.awu.motor.driven = true ∧ t.awu.motor.dir = some .inward)
          ∧ (∀ k, k ≠ sl → s.opAt k = none → t.opAt k = none)
          ∧ (∀ k o, s.opAt k = some o →
            let cancelled := o.opClass = .normal ∧ s.deployingOp o = true
            (o.job.group = .awning → o.state.isEnded = false → ∃ rem m, t.opAt k = some { o with
              state := .ended (match o.state with
                | .stopping (.ended r) _ => r
                | _ => if cancelled then .cancelled .interlock else .cancelled .superseded) rem m
              resumed := false })
            ∧ (o.job.group ≠ .awning ∨ o.state.isEnded = true →
              (cancelled → ∃ after, t.opAt k = some after ∧ s.CancelLeaves o (.cancelled .interlock) after)
              ∧ (¬ cancelled → t.opAt k = some o)))
          ∧ t.opt.admissions = s.opt.admissions + 1 ∧ t.opt.internalTag = nextTag s.internalTag
          ∧ s.keepsBut t [.table, .arbiter, .jacks, .rooms, .awning, .inputs, .orders, .claims])
      ∧ (∀ n sl o, s.inputOf (.roomIn n) = some i → c = .opened → s.items.configured (.room n) = true →
        s.runningOp (.room n) = some (sl, o) → (s.roomUnit n).pend = none → s.noneWaiting →
        (∀ k, (s.entryItem k).enabled = false) → s.runsOnly (fun g => !(g == .jacks)) →
        let r := s.roomUnit n
        let home := fun (m : MotorId) (y : Motor) => if m ∈ s.items.motors n then { y with count := 0 } else y
        let stopped := fun (y : Motor) => if y.driven = true then
          { y with driven := false, applied := 0, coast := some (s.now + 300), atEnd := true } else y
        ∃ t, exec (.debounceExpiry i) s = .next t ∧ turned t ∧ t.roomCondition n = .inside
          ∧ (o.job.roomDir = .outward →
            t.roomUnit n = { r with a := home .a r.a, b := home .b r.b, referenced := true, stray := false })
          ∧ (o.job.roomDir = .inward →
            t.roomUnit n = { r with
              a := home .a (stopped r.a), b := home .b (stopped r.b), referenced := true, stray := false
              demanded := 0, ramped := 0
              pend := some (if o.job.kind = .roomJog then .result .complete else .bySwitch) })
          ∧ (∀ k, k ≠ n → t.roomUnit k = s.roomUnit k)
          ∧ s.keepsBut t [.rooms, .inputs])
      ∧ (∀ j sl o, s.inputOf (.jackUp j) = some i → c = .opened → j ∈ s.items.jacks → s.Calm → s.lvc.pend = none →
        s.runningOp .jacks = some (sl, o) →
        let allUp := ∀ k ∈ s.items.jacks, k ≠ j → s.shut (.jackUp k) = true
        let down := ∃ t, exec (.debounceExpiry i) s = .next t ∧ turned t
          ∧ (∀ k, (t.jack k).extending = false ∧ (t.jack k).retracting = false) ∧ t.lvc.timers = JackTimers.stopped
          ∧ (s.lvc.pump ≠ 0 → t.lvc.pend = some .complete ∧ t.opt = s.opt)
          ∧ (s.lvc.pump = 0 → ∃ rem, t.opAt sl = some { o with state := .ended .complete rem (s.opt.ends + 1), resumed := false })
          ∧ s.keepsBut t [.table, .arbiter, .jacks, .inputs, .orders, .claims]
        (o.job.kind = .jacksStow → allUp → down)
        ∧ (o.job.kind = .jacksStow → ¬ allUp → ∃ t, exec (.debounceExpiry i) s = .next t ∧ turned t
          ∧ t.lvc = (s.modJack j (fun u => { u with retracting := false })).lvc ∧ s.keepsBut t [.jacks, .inputs])
        ∧ (o.job.kind = .jackJog → o.job.dir = some .inward → o.job.sub = some j → down)
        ∧ (o.job.kind = .level ∨ o.job.kind = .ground →
          ∃ t, exec (.debounceExpiry i) s = .next t ∧ turned t ∧ s.keepsBut t [.inputs]))
      ∧ (s.inputOf .awningIn = some i → c = .opened → s.activeOp .awning = none → s.Calm →
        (∀ k, (s.entryItem k).enabled = false) →
        ∃ t, exec (.debounceExpiry i) s = .next t ∧ turned t ∧ t.awningCondition = .inside
          ∧ t.awu = { s.awu with motor := { s.awu.motor with count := 0 }, referenced := true, stray := false }
          ∧ s.keepsBut t [.awning, .inputs])
      ∧ (∀ sl o, s.inputOf .awningIn = some i → c = .opened → s.Calm →
        (∀ k, (s.entryItem k).enabled = false) → s.runningOp .awning = some (sl, o) → s.awu.pend = none →
        ∃ t, exec (.debounceExpiry i) s = .next t ∧ turned t ∧ t.awningCondition = .inside
          ∧ (s.awningDir o = .outward →
            t.awu = { s.awu with motor := { s.awu.motor with count := 0 }, referenced := true, stray := false })
          ∧ (s.awningDir o = .inward → s.awu.motor.driven = true →
            t.awu = { s.awu with
              motor := { s.awu.motor with count := 0, driven := false, applied := 0, coast := some (s.now + 300), atEnd := true }
              referenced := true, stray := false, demanded := 0, ramped := 0, pend := some (.result .complete) })
          ∧ s.keepsBut t [.awning, .inputs])))
  ∧ ∀ (s : State) (o : Op), s.deployingOp o = true ↔
    o.job.kind = .level ∨ o.job.kind = .ground ∨ o.job.kind = .roomOut
    ∨ (o.job.kind = .jackJog ∨ o.job.kind = .roomJog ∨ o.job.kind = .awningJog) ∧ o.job.dir = some .outward
    ∨ o.job.kind = .awningSet
      ∧ (o.state.active = true ∧ s.awu.motor.dir = some .outward
        ∨ o.state.active = false ∧ (s.awu.referenced = true
            ∧ min 1000 (s.awu.motor.count * 1000 / s.items.awn.travel) < o.job.value.getD 0
          ∨ s.awu.referenced = false ∧ 0 < o.job.value.getD 0))
end

