-- ==== Sys2Proof/Laws/Banks.lean ====
section
/-! SUPPORT. Reading a bank after an update of it. -/

namespace Sys2Proof.Bank

theorem cells_inj {α : Type} {n : Nat} {a b : Bank α n} (h : a.cells = b.cells) : a = b := by
  cases a; cases b; cases h; rfl

theorem get_eq_getElem {α : Type} {n : Nat} (b : Bank α n) (i : Fin n) :
    b.get i = b.cells[i.val]'(by rw [b.size]; exact i.isLt) := by simp [get]

@[simp] theorem get_fill {α : Type} {n : Nat} (a : α) (i : Fin n) : (fill n a).get i = a := by
  simp [get_eq_getElem, fill]

@[simp] theorem get_set_self {α : Type} {n : Nat} (b : Bank α n) (i : Fin n) (a : α) : (b.set i a).get i = a := by
  simp [get_eq_getElem, set]

theorem get_set {α : Type} {n : Nat} (b : Bank α n) (i j : Fin n) (a : α) :
    (b.set i a).get j = if i = j then a else b.get j := by
  simp [get_eq_getElem, set, List.getElem_set, Fin.ext_iff]

theorem get_set_ne {α : Type} {n : Nat} (b : Bank α n) {i j : Fin n} (a : α) (h : i ≠ j) :
    (b.set i a).get j = b.get j := by simp [get_set, h]

@[simp] theorem get_map {α β : Type} {n : Nat} (b : Bank α n) (f : α → β) (i : Fin n) :
    (b.map f).get i = f (b.get i) := by simp [get_eq_getElem, map]

@[simp] theorem set_get {α : Type} {n : Nat} (b : Bank α n) (i : Fin n) : b.set i (b.get i) = b := by
  apply cells_inj; simp [get_eq_getElem, set]

theorem get_modify {α : Type} {n : Nat} (b : Bank α n) (i j : Fin n) (f : α → α) :
    (b.modify i f).get j = if i = j then f (b.get j) else b.get j := by
  unfold modify; rw [get_set]; split
  · next h => rw [h]
  · rfl

@[simp] theorem get_modify_self {α : Type} {n : Nat} (b : Bank α n) (i : Fin n) (f : α → α) :
    (b.modify i f).get i = f (b.get i) := by simp [get_modify]

theorem modify_same {α : Type} {n : Nat} (b : Bank α n) (i : Fin n) (f : α → α) (h : f (b.get i) = b.get i) :
    b.modify i f = b := by unfold modify; rw [h, set_get]

/-- Two banks that read alike at every place are equal. -/
theorem ext_get {α : Type} {n : Nat} {a b : Bank α n} (h : ∀ i, a.get i = b.get i) : a = b := by
  apply cells_inj
  apply List.ext_getElem (by rw [a.size, b.size])
  intro i h1 h2
  have := h ⟨i, by rw [a.size] at h1; exact h1⟩
  simpa [get_eq_getElem] using this

theorem map_same {α : Type} {n : Nat} (b : Bank α n) (f : α → α) (h : ∀ i, f (b.get i) = b.get i) : b.map f = b :=
  ext_get (fun i => by simp [h i])

/-- What is true of the thing at every place is true of every cell. -/
theorem forall_cells {α : Type} {n : Nat} {b : Bank α n} {p : α → Prop} (h : ∀ i, p (b.get i)) :
    ∀ x ∈ b.cells, p x := by
  intro x hx
  obtain ⟨i, hi, rfl⟩ := List.getElem_of_mem hx
  have := h ⟨i, by rw [b.size] at hi; exact hi⟩
  simpa [get_eq_getElem] using this

end Sys2Proof.Bank
end

