-- ==== Sys2Proof/Laws/State.lean ====
section
/-! SUPPORT. What each named update of the state leaves, field by field. -/

namespace Sys2Proof.Machine

variable (s : State)

@[simp] theorem State.setOp_pending (sl : Slot) (o : Op) : (s.setOp sl o).pending = s.pending := rfl
@[simp] theorem State.setOp_now (sl : Slot) (o : Op) : (s.setOp sl o).now = s.now := rfl
@[simp] theorem State.setOp_draws (sl : Slot) (o : Op) : (s.setOp sl o).draws = s.draws := rfl
@[simp] theorem State.setOp_sta (sl : Slot) (o : Op) : (s.setOp sl o).sta = s.sta := rfl
@[simp] theorem State.setOp_atu (sl : Slot) (o : Op) : (s.setOp sl o).atu = s.atu := rfl
@[simp] theorem State.setOp_lvc (sl : Slot) (o : Op) : (s.setOp sl o).lvc = s.lvc := rfl
@[simp] theorem State.setOp_sdc (sl : Slot) (o : Op) : (s.setOp sl o).sdc = s.sdc := rfl
@[simp] theorem State.setOp_awu (sl : Slot) (o : Op) : (s.setOp sl o).awu = s.awu := rfl
@[simp] theorem State.setOp_wind (sl : Slot) (o : Op) : (s.setOp sl o).wind = s.wind := rfl
@[simp] theorem State.setOp_inm (sl : Slot) (o : Op) : (s.setOp sl o).inm = s.inm := rfl
@[simp] theorem State.setOp_clm (sl : Slot) (o : Op) : (s.setOp sl o).clm = s.clm := rfl
@[simp] theorem State.setOp_liu (sl : Slot) (o : Op) : (s.setOp sl o).liu = s.liu := rfl
@[simp] theorem State.setOp_ntu (sl : Slot) (o : Op) : (s.setOp sl o).ntu = s.ntu := rfl
@[simp] theorem State.setOp_ist (sl : Slot) (o : Op) : (s.setOp sl o).ist = s.ist := rfl

@[simp] theorem State.modInput_pending (i : Input) (f : InputUnit → InputUnit) : (s.modInput i f).pending = s.pending := rfl
@[simp] theorem State.modInput_now (i : Input) (f : InputUnit → InputUnit) : (s.modInput i f).now = s.now := rfl
@[simp] theorem State.modInput_draws (i : Input) (f : InputUnit → InputUnit) : (s.modInput i f).draws = s.draws := rfl
@[simp] theorem State.modInput_opt (i : Input) (f : InputUnit → InputUnit) : (s.modInput i f).opt = s.opt := rfl
@[simp] theorem State.modInput_sta (i : Input) (f : InputUnit → InputUnit) : (s.modInput i f).sta = s.sta := rfl
@[simp] theorem State.modInput_atu (i : Input) (f : InputUnit → InputUnit) : (s.modInput i f).atu = s.atu := rfl
@[simp] theorem State.modInput_lvc (i : Input) (f : InputUnit → InputUnit) : (s.modInput i f).lvc = s.lvc := rfl
@[simp] theorem State.modInput_sdc (i : Input) (f : InputUnit → InputUnit) : (s.modInput i f).sdc = s.sdc := rfl
@[simp] theorem State.modInput_awu (i : Input) (f : InputUnit → InputUnit) : (s.modInput i f).awu = s.awu := rfl
@[simp] theorem State.modInput_wind (i : Input) (f : InputUnit → InputUnit) : (s.modInput i f).wind = s.wind := rfl
@[simp] theorem State.modInput_clm (i : Input) (f : InputUnit → InputUnit) : (s.modInput i f).clm = s.clm := rfl
@[simp] theorem State.modInput_liu (i : Input) (f : InputUnit → InputUnit) : (s.modInput i f).liu = s.liu := rfl
@[simp] theorem State.modInput_ntu (i : Input) (f : InputUnit → InputUnit) : (s.modInput i f).ntu = s.ntu := rfl
@[simp] theorem State.modInput_ist (i : Input) (f : InputUnit → InputUnit) : (s.modInput i f).ist = s.ist := rfl

@[simp] theorem State.modRoom_pending (n : Room) (f : RoomUnit → RoomUnit) : (s.modRoom n f).pending = s.pending := rfl
@[simp] theorem State.modRoom_now (n : Room) (f : RoomUnit → RoomUnit) : (s.modRoom n f).now = s.now := rfl
@[simp] theorem State.modRoom_draws (n : Room) (f : RoomUnit → RoomUnit) : (s.modRoom n f).draws = s.draws := rfl
@[simp] theorem State.modRoom_opt (n : Room) (f : RoomUnit → RoomUnit) : (s.modRoom n f).opt = s.opt := rfl
@[simp] theorem State.modRoom_sta (n : Room) (f : RoomUnit → RoomUnit) : (s.modRoom n f).sta = s.sta := rfl
@[simp] theorem State.modRoom_atu (n : Room) (f : RoomUnit → RoomUnit) : (s.modRoom n f).atu = s.atu := rfl
@[simp] theorem State.modRoom_lvc (n : Room) (f : RoomUnit → RoomUnit) : (s.modRoom n f).lvc = s.lvc := rfl
@[simp] theorem State.modRoom_awu (n : Room) (f : RoomUnit → RoomUnit) : (s.modRoom n f).awu = s.awu := rfl
@[simp] theorem State.modRoom_wind (n : Room) (f : RoomUnit → RoomUnit) : (s.modRoom n f).wind = s.wind := rfl
@[simp] theorem State.modRoom_inm (n : Room) (f : RoomUnit → RoomUnit) : (s.modRoom n f).inm = s.inm := rfl
@[simp] theorem State.modRoom_clm (n : Room) (f : RoomUnit → RoomUnit) : (s.modRoom n f).clm = s.clm := rfl
@[simp] theorem State.modRoom_liu (n : Room) (f : RoomUnit → RoomUnit) : (s.modRoom n f).liu = s.liu := rfl
@[simp] theorem State.modRoom_ntu (n : Room) (f : RoomUnit → RoomUnit) : (s.modRoom n f).ntu = s.ntu := rfl
@[simp] theorem State.modRoom_ist (n : Room) (f : RoomUnit → RoomUnit) : (s.modRoom n f).ist = s.ist := rfl

@[simp] theorem State.modRoomMotor_pending (n : Room) (m : MotorId) (f : Motor → Motor) : (s.modRoomMotor n m f).pending = s.pending := rfl
@[simp] theorem State.modRoomMotor_now (n : Room) (m : MotorId) (f : Motor → Motor) : (s.modRoomMotor n m f).now = s.now := rfl
@[simp] theorem State.modRoomMotor_draws (n : Room) (m : MotorId) (f : Motor → Motor) : (s.modRoomMotor n m f).draws = s.draws := rfl
@[simp] theorem State.modRoomMotor_opt (n : Room) (m : MotorId) (f : Motor → Motor) : (s.modRoomMotor n m f).opt = s.opt := rfl
@[simp] theorem State.modRoomMotor_sta (n : Room) (m : MotorId) (f : Motor → Motor) : (s.modRoomMotor n m f).sta = s.sta := rfl
@[simp] theorem State.modRoomMotor_atu (n : Room) (m : MotorId) (f : Motor → Motor) : (s.modRoomMotor n m f).atu = s.atu := rfl
@[simp] theorem State.modRoomMotor_lvc (n : Room) (m : MotorId) (f : Motor → Motor) : (s.modRoomMotor n m f).lvc = s.lvc := rfl
@[simp] theorem State.modRoomMotor_awu (n : Room) (m : MotorId) (f : Motor → Motor) : (s.modRoomMotor n m f).awu = s.awu := rfl
@[simp] theorem State.modRoomMotor_wind (n : Room) (m : MotorId) (f : Motor → Motor) : (s.modRoomMotor n m f).wind = s.wind := rfl
@[simp] theorem State.modRoomMotor_inm (n : Room) (m : MotorId) (f : Motor → Motor) : (s.modRoomMotor n m f).inm = s.inm := rfl
@[simp] theorem State.modRoomMotor_clm (n : Room) (m : MotorId) (f : Motor → Motor) : (s.modRoomMotor n m f).clm = s.clm := rfl
@[simp] theorem State.modRoomMotor_liu (n : Room) (m : MotorId) (f : Motor → Motor) : (s.modRoomMotor n m f).liu = s.liu := rfl
@[simp] theorem State.modRoomMotor_ntu (n : Room) (m : MotorId) (f : Motor → Motor) : (s.modRoomMotor n m f).ntu = s.ntu := rfl
@[simp] theorem State.modRoomMotor_ist (n : Room) (m : MotorId) (f : Motor → Motor) : (s.modRoomMotor n m f).ist = s.ist := rfl

@[simp] theorem State.modAwning_pending (f : AwningUnit → AwningUnit) : (s.modAwning f).pending = s.pending := rfl
@[simp] theorem State.modAwning_now (f : AwningUnit → AwningUnit) : (s.modAwning f).now = s.now := rfl
@[simp] theorem State.modAwning_draws (f : AwningUnit → AwningUnit) : (s.modAwning f).draws = s.draws := rfl
@[simp] theorem State.modAwning_opt (f : AwningUnit → AwningUnit) : (s.modAwning f).opt = s.opt := rfl
@[simp] theorem State.modAwning_sta (f : AwningUnit → AwningUnit) : (s.modAwning f).sta = s.sta := rfl
@[simp] theorem State.modAwning_atu (f : AwningUnit → AwningUnit) : (s.modAwning f).atu = s.atu := rfl
@[simp] theorem State.modAwning_lvc (f : AwningUnit → AwningUnit) : (s.modAwning f).lvc = s.lvc := rfl
@[simp] theorem State.modAwning_sdc (f : AwningUnit → AwningUnit) : (s.modAwning f).sdc = s.sdc := rfl
@[simp] theorem State.modAwning_wind (f : AwningUnit → AwningUnit) : (s.modAwning f).wind = s.wind := rfl
@[simp] theorem State.modAwning_inm (f : AwningUnit → AwningUnit) : (s.modAwning f).inm = s.inm := rfl
@[simp] theorem State.modAwning_clm (f : AwningUnit → AwningUnit) : (s.modAwning f).clm = s.clm := rfl
@[simp] theorem State.modAwning_liu (f : AwningUnit → AwningUnit) : (s.modAwning f).liu = s.liu := rfl
@[simp] theorem State.modAwning_ntu (f : AwningUnit → AwningUnit) : (s.modAwning f).ntu = s.ntu := rfl
@[simp] theorem State.modAwning_ist (f : AwningUnit → AwningUnit) : (s.modAwning f).ist = s.ist := rfl

@[simp] theorem State.modAwningMotor_pending (f : Motor → Motor) : (s.modAwningMotor f).pending = s.pending := rfl
@[simp] theorem State.modAwningMotor_now (f : Motor → Motor) : (s.modAwningMotor f).now = s.now := rfl
@[simp] theorem State.modAwningMotor_draws (f : Motor → Motor) : (s.modAwningMotor f).draws = s.draws := rfl
@[simp] theorem State.modAwningMotor_opt (f : Motor → Motor) : (s.modAwningMotor f).opt = s.opt := rfl
@[simp] theorem State.modAwningMotor_sta (f : Motor → Motor) : (s.modAwningMotor f).sta = s.sta := rfl
@[simp] theorem State.modAwningMotor_atu (f : Motor → Motor) : (s.modAwningMotor f).atu = s.atu := rfl
@[simp] theorem State.modAwningMotor_lvc (f : Motor → Motor) : (s.modAwningMotor f).lvc = s.lvc := rfl
@[simp] theorem State.modAwningMotor_sdc (f : Motor → Motor) : (s.modAwningMotor f).sdc = s.sdc := rfl
@[simp] theorem State.modAwningMotor_wind (f : Motor → Motor) : (s.modAwningMotor f).wind = s.wind := rfl
@[simp] theorem State.modAwningMotor_inm (f : Motor → Motor) : (s.modAwningMotor f).inm = s.inm := rfl
@[simp] theorem State.modAwningMotor_clm (f : Motor → Motor) : (s.modAwningMotor f).clm = s.clm := rfl
@[simp] theorem State.modAwningMotor_liu (f : Motor → Motor) : (s.modAwningMotor f).liu = s.liu := rfl
@[simp] theorem State.modAwningMotor_ntu (f : Motor → Motor) : (s.modAwningMotor f).ntu = s.ntu := rfl
@[simp] theorem State.modAwningMotor_ist (f : Motor → Motor) : (s.modAwningMotor f).ist = s.ist := rfl

@[simp] theorem State.modJack_pending (j : Jack) (f : JackUnit → JackUnit) : (s.modJack j f).pending = s.pending := rfl
@[simp] theorem State.modJack_now (j : Jack) (f : JackUnit → JackUnit) : (s.modJack j f).now = s.now := rfl
@[simp] theorem State.modJack_draws (j : Jack) (f : JackUnit → JackUnit) : (s.modJack j f).draws = s.draws := rfl
@[simp] theorem State.modJack_opt (j : Jack) (f : JackUnit → JackUnit) : (s.modJack j f).opt = s.opt := rfl
@[simp] theorem State.modJack_sta (j : Jack) (f : JackUnit → JackUnit) : (s.modJack j f).sta = s.sta := rfl
@[simp] theorem State.modJack_atu (j : Jack) (f : JackUnit → JackUnit) : (s.modJack j f).atu = s.atu := rfl
@[simp] theorem State.modJack_sdc (j : Jack) (f : JackUnit → JackUnit) : (s.modJack j f).sdc = s.sdc := rfl
@[simp] theorem State.modJack_awu (j : Jack) (f : JackUnit → JackUnit) : (s.modJack j f).awu = s.awu := rfl
@[simp] theorem State.modJack_wind (j : Jack) (f : JackUnit → JackUnit) : (s.modJack j f).wind = s.wind := rfl
@[simp] theorem State.modJack_inm (j : Jack) (f : JackUnit → JackUnit) : (s.modJack j f).inm = s.inm := rfl
@[simp] theorem State.modJack_clm (j : Jack) (f : JackUnit → JackUnit) : (s.modJack j f).clm = s.clm := rfl
@[simp] theorem State.modJack_liu (j : Jack) (f : JackUnit → JackUnit) : (s.modJack j f).liu = s.liu := rfl
@[simp] theorem State.modJack_ntu (j : Jack) (f : JackUnit → JackUnit) : (s.modJack j f).ntu = s.ntu := rfl
@[simp] theorem State.modJack_ist (j : Jack) (f : JackUnit → JackUnit) : (s.modJack j f).ist = s.ist := rfl

@[simp] theorem State.modJacks_pending (f : JackUnit → JackUnit) : (s.modJacks f).pending = s.pending := rfl
@[simp] theorem State.modJacks_now (f : JackUnit → JackUnit) : (s.modJacks f).now = s.now := rfl
@[simp] theorem State.modJacks_draws (f : JackUnit → JackUnit) : (s.modJacks f).draws = s.draws := rfl
@[simp] theorem State.modJacks_opt (f : JackUnit → JackUnit) : (s.modJacks f).opt = s.opt := rfl
@[simp] theorem State.modJacks_sta (f : JackUnit → JackUnit) : (s.modJacks f).sta = s.sta := rfl
@[simp] theorem State.modJacks_atu (f : JackUnit → JackUnit) : (s.modJacks f).atu = s.atu := rfl
@[simp] theorem State.modJacks_sdc (f : JackUnit → JackUnit) : (s.modJacks f).sdc = s.sdc := rfl
@[simp] theorem State.modJacks_awu (f : JackUnit → JackUnit) : (s.modJacks f).awu = s.awu := rfl
@[simp] theorem State.modJacks_wind (f : JackUnit → JackUnit) : (s.modJacks f).wind = s.wind := rfl
@[simp] theorem State.modJacks_inm (f : JackUnit → JackUnit) : (s.modJacks f).inm = s.inm := rfl
@[simp] theorem State.modJacks_clm (f : JackUnit → JackUnit) : (s.modJacks f).clm = s.clm := rfl
@[simp] theorem State.modJacks_liu (f : JackUnit → JackUnit) : (s.modJacks f).liu = s.liu := rfl
@[simp] theorem State.modJacks_ntu (f : JackUnit → JackUnit) : (s.modJacks f).ntu = s.ntu := rfl
@[simp] theorem State.modJacks_ist (f : JackUnit → JackUnit) : (s.modJacks f).ist = s.ist := rfl

@[simp] theorem State.modEntry_pending (k : Entry) (f : ClearUnit → ClearUnit) : (s.modEntry k f).pending = s.pending := rfl
@[simp] theorem State.modEntry_now (k : Entry) (f : ClearUnit → ClearUnit) : (s.modEntry k f).now = s.now := rfl
@[simp] theorem State.modEntry_draws (k : Entry) (f : ClearUnit → ClearUnit) : (s.modEntry k f).draws = s.draws := rfl
@[simp] theorem State.modEntry_opt (k : Entry) (f : ClearUnit → ClearUnit) : (s.modEntry k f).opt = s.opt := rfl
@[simp] theorem State.modEntry_sta (k : Entry) (f : ClearUnit → ClearUnit) : (s.modEntry k f).sta = s.sta := rfl
@[simp] theorem State.modEntry_atu (k : Entry) (f : ClearUnit → ClearUnit) : (s.modEntry k f).atu = s.atu := rfl
@[simp] theorem State.modEntry_lvc (k : Entry) (f : ClearUnit → ClearUnit) : (s.modEntry k f).lvc = s.lvc := rfl
@[simp] theorem State.modEntry_sdc (k : Entry) (f : ClearUnit → ClearUnit) : (s.modEntry k f).sdc = s.sdc := rfl
@[simp] theorem State.modEntry_awu (k : Entry) (f : ClearUnit → ClearUnit) : (s.modEntry k f).awu = s.awu := rfl
@[simp] theorem State.modEntry_wind (k : Entry) (f : ClearUnit → ClearUnit) : (s.modEntry k f).wind = s.wind := rfl
@[simp] theorem State.modEntry_inm (k : Entry) (f : ClearUnit → ClearUnit) : (s.modEntry k f).inm = s.inm := rfl
@[simp] theorem State.modEntry_liu (k : Entry) (f : ClearUnit → ClearUnit) : (s.modEntry k f).liu = s.liu := rfl
@[simp] theorem State.modEntry_ntu (k : Entry) (f : ClearUnit → ClearUnit) : (s.modEntry k f).ntu = s.ntu := rfl
@[simp] theorem State.modEntry_ist (k : Entry) (f : ClearUnit → ClearUnit) : (s.modEntry k f).ist = s.ist := rfl

@[simp] theorem State.modSets_pending (f : ChangeSet → ChangeSet) : (s.modSets f).pending = s.pending := rfl
@[simp] theorem State.modSets_now (f : ChangeSet → ChangeSet) : (s.modSets f).now = s.now := rfl
@[simp] theorem State.modSets_draws (f : ChangeSet → ChangeSet) : (s.modSets f).draws = s.draws := rfl
@[simp] theorem State.modSets_opt (f : ChangeSet → ChangeSet) : (s.modSets f).opt = s.opt := rfl
@[simp] theorem State.modSets_sta (f : ChangeSet → ChangeSet) : (s.modSets f).sta = s.sta := rfl
@[simp] theorem State.modSets_atu (f : ChangeSet → ChangeSet) : (s.modSets f).atu = s.atu := rfl
@[simp] theorem State.modSets_lvc (f : ChangeSet → ChangeSet) : (s.modSets f).lvc = s.lvc := rfl
@[simp] theorem State.modSets_sdc (f : ChangeSet → ChangeSet) : (s.modSets f).sdc = s.sdc := rfl
@[simp] theorem State.modSets_awu (f : ChangeSet → ChangeSet) : (s.modSets f).awu = s.awu := rfl
@[simp] theorem State.modSets_wind (f : ChangeSet → ChangeSet) : (s.modSets f).wind = s.wind := rfl
@[simp] theorem State.modSets_inm (f : ChangeSet → ChangeSet) : (s.modSets f).inm = s.inm := rfl
@[simp] theorem State.modSets_clm (f : ChangeSet → ChangeSet) : (s.modSets f).clm = s.clm := rfl
@[simp] theorem State.modSets_liu (f : ChangeSet → ChangeSet) : (s.modSets f).liu = s.liu := rfl
@[simp] theorem State.modSets_ist (f : ChangeSet → ChangeSet) : (s.modSets f).ist = s.ist := rfl

@[simp] theorem State.raise_pending (k : Category) : (s.raise k).pending = s.pending := rfl
@[simp] theorem State.raise_now (k : Category) : (s.raise k).now = s.now := rfl
@[simp] theorem State.raise_draws (k : Category) : (s.raise k).draws = s.draws := rfl
@[simp] theorem State.raise_opt (k : Category) : (s.raise k).opt = s.opt := rfl
@[simp] theorem State.raise_sta (k : Category) : (s.raise k).sta = s.sta := rfl
@[simp] theorem State.raise_atu (k : Category) : (s.raise k).atu = s.atu := rfl
@[simp] theorem State.raise_lvc (k : Category) : (s.raise k).lvc = s.lvc := rfl
@[simp] theorem State.raise_sdc (k : Category) : (s.raise k).sdc = s.sdc := rfl
@[simp] theorem State.raise_awu (k : Category) : (s.raise k).awu = s.awu := rfl
@[simp] theorem State.raise_wind (k : Category) : (s.raise k).wind = s.wind := rfl
@[simp] theorem State.raise_inm (k : Category) : (s.raise k).inm = s.inm := rfl
@[simp] theorem State.raise_clm (k : Category) : (s.raise k).clm = s.clm := rfl
@[simp] theorem State.raise_liu (k : Category) : (s.raise k).liu = s.liu := rfl
@[simp] theorem State.raise_ist (k : Category) : (s.raise k).ist = s.ist := rfl

@[simp] theorem State.latch_pending (k : FaultKind) : (s.latch k).pending = s.pending := rfl
@[simp] theorem State.latch_now (k : FaultKind) : (s.latch k).now = s.now := rfl
@[simp] theorem State.latch_draws (k : FaultKind) : (s.latch k).draws = s.draws := rfl
@[simp] theorem State.latch_opt (k : FaultKind) : (s.latch k).opt = s.opt := rfl
@[simp] theorem State.latch_sta (k : FaultKind) : (s.latch k).sta = s.sta := rfl
@[simp] theorem State.latch_atu (k : FaultKind) : (s.latch k).atu = s.atu := rfl
@[simp] theorem State.latch_lvc (k : FaultKind) : (s.latch k).lvc = s.lvc := rfl
@[simp] theorem State.latch_sdc (k : FaultKind) : (s.latch k).sdc = s.sdc := rfl
@[simp] theorem State.latch_awu (k : FaultKind) : (s.latch k).awu = s.awu := rfl
@[simp] theorem State.latch_wind (k : FaultKind) : (s.latch k).wind = s.wind := rfl
@[simp] theorem State.latch_inm (k : FaultKind) : (s.latch k).inm = s.inm := rfl
@[simp] theorem State.latch_clm (k : FaultKind) : (s.latch k).clm = s.clm := rfl
@[simp] theorem State.latch_liu (k : FaultKind) : (s.latch k).liu = s.liu := rfl
@[simp] theorem State.latch_ist (k : FaultKind) : (s.latch k).ist = s.ist := rfl

@[simp] theorem State.linkError_pending (l : Link) : (s.linkError l).pending = s.pending := rfl
@[simp] theorem State.linkError_now (l : Link) : (s.linkError l).now = s.now := rfl
@[simp] theorem State.linkError_draws (l : Link) : (s.linkError l).draws = s.draws := rfl
@[simp] theorem State.linkError_opt (l : Link) : (s.linkError l).opt = s.opt := rfl
@[simp] theorem State.linkError_sta (l : Link) : (s.linkError l).sta = s.sta := rfl
@[simp] theorem State.linkError_atu (l : Link) : (s.linkError l).atu = s.atu := rfl
@[simp] theorem State.linkError_lvc (l : Link) : (s.linkError l).lvc = s.lvc := rfl
@[simp] theorem State.linkError_sdc (l : Link) : (s.linkError l).sdc = s.sdc := rfl
@[simp] theorem State.linkError_awu (l : Link) : (s.linkError l).awu = s.awu := rfl
@[simp] theorem State.linkError_wind (l : Link) : (s.linkError l).wind = s.wind := rfl
@[simp] theorem State.linkError_inm (l : Link) : (s.linkError l).inm = s.inm := rfl
@[simp] theorem State.linkError_clm (l : Link) : (s.linkError l).clm = s.clm := rfl
@[simp] theorem State.linkError_liu (l : Link) : (s.linkError l).liu = s.liu := rfl
@[simp] theorem State.linkError_ist (l : Link) : (s.linkError l).ist = s.ist := rfl

@[simp] theorem State.noteTag_pending (tag : Nat) : (s.noteTag tag).pending = s.pending := rfl
@[simp] theorem State.noteTag_now (tag : Nat) : (s.noteTag tag).now = s.now := rfl
@[simp] theorem State.noteTag_draws (tag : Nat) : (s.noteTag tag).draws = s.draws := rfl
@[simp] theorem State.noteTag_opt (tag : Nat) : (s.noteTag tag).opt = s.opt := rfl
@[simp] theorem State.noteTag_sta (tag : Nat) : (s.noteTag tag).sta = s.sta := rfl
@[simp] theorem State.noteTag_atu (tag : Nat) : (s.noteTag tag).atu = s.atu := rfl
@[simp] theorem State.noteTag_lvc (tag : Nat) : (s.noteTag tag).lvc = s.lvc := rfl
@[simp] theorem State.noteTag_sdc (tag : Nat) : (s.noteTag tag).sdc = s.sdc := rfl
@[simp] theorem State.noteTag_awu (tag : Nat) : (s.noteTag tag).awu = s.awu := rfl
@[simp] theorem State.noteTag_wind (tag : Nat) : (s.noteTag tag).wind = s.wind := rfl
@[simp] theorem State.noteTag_inm (tag : Nat) : (s.noteTag tag).inm = s.inm := rfl
@[simp] theorem State.noteTag_clm (tag : Nat) : (s.noteTag tag).clm = s.clm := rfl
@[simp] theorem State.noteTag_liu (tag : Nat) : (s.noteTag tag).liu = s.liu := rfl
@[simp] theorem State.noteTag_ist (tag : Nat) : (s.noteTag tag).ist = s.ist := rfl

@[simp] theorem State.setClaim_pending (g : Group) (c : Claim) : (s.setClaim g c).pending = s.pending := rfl
@[simp] theorem State.setClaim_now (g : Group) (c : Claim) : (s.setClaim g c).now = s.now := rfl
@[simp] theorem State.setClaim_draws (g : Group) (c : Claim) : (s.setClaim g c).draws = s.draws := rfl
@[simp] theorem State.setClaim_opt (g : Group) (c : Claim) : (s.setClaim g c).opt = s.opt := rfl
@[simp] theorem State.setClaim_sta (g : Group) (c : Claim) : (s.setClaim g c).sta = s.sta := rfl
@[simp] theorem State.setClaim_atu (g : Group) (c : Claim) : (s.setClaim g c).atu = s.atu := rfl
@[simp] theorem State.setClaim_lvc (g : Group) (c : Claim) : (s.setClaim g c).lvc = s.lvc := rfl
@[simp] theorem State.setClaim_sdc (g : Group) (c : Claim) : (s.setClaim g c).sdc = s.sdc := rfl
@[simp] theorem State.setClaim_awu (g : Group) (c : Claim) : (s.setClaim g c).awu = s.awu := rfl
@[simp] theorem State.setClaim_wind (g : Group) (c : Claim) : (s.setClaim g c).wind = s.wind := rfl
@[simp] theorem State.setClaim_inm (g : Group) (c : Claim) : (s.setClaim g c).inm = s.inm := rfl
@[simp] theorem State.setClaim_clm (g : Group) (c : Claim) : (s.setClaim g c).clm = s.clm := rfl
@[simp] theorem State.setClaim_ntu (g : Group) (c : Claim) : (s.setClaim g c).ntu = s.ntu := rfl
@[simp] theorem State.setClaim_ist (g : Group) (c : Claim) : (s.setClaim g c).ist = s.ist := rfl

@[simp] theorem State.setItems_pending (t : Items) : (s.setItems t).pending = s.pending := rfl
@[simp] theorem State.setItems_now (t : Items) : (s.setItems t).now = s.now := rfl
@[simp] theorem State.setItems_draws (t : Items) : (s.setItems t).draws = s.draws := rfl
@[simp] theorem State.setItems_opt (t : Items) : (s.setItems t).opt = s.opt := rfl
@[simp] theorem State.setItems_sta (t : Items) : (s.setItems t).sta = s.sta := rfl
@[simp] theorem State.setItems_atu (t : Items) : (s.setItems t).atu = s.atu := rfl
@[simp] theorem State.setItems_lvc (t : Items) : (s.setItems t).lvc = s.lvc := rfl
@[simp] theorem State.setItems_sdc (t : Items) : (s.setItems t).sdc = s.sdc := rfl
@[simp] theorem State.setItems_awu (t : Items) : (s.setItems t).awu = s.awu := rfl
@[simp] theorem State.setItems_wind (t : Items) : (s.setItems t).wind = s.wind := rfl
@[simp] theorem State.setItems_inm (t : Items) : (s.setItems t).inm = s.inm := rfl
@[simp] theorem State.setItems_clm (t : Items) : (s.setItems t).clm = s.clm := rfl
@[simp] theorem State.setItems_liu (t : Items) : (s.setItems t).liu = s.liu := rfl
@[simp] theorem State.setItems_ntu (t : Items) : (s.setItems t).ntu = s.ntu := rfl

@[simp] theorem State.pins_pending : (s.pins).pending = s.pending := rfl
@[simp] theorem State.pins_now : (s.pins).now = s.now := rfl
@[simp] theorem State.pins_draws : (s.pins).draws = s.draws := rfl
@[simp] theorem State.pins_opt : (s.pins).opt = s.opt := rfl
@[simp] theorem State.pins_sta : (s.pins).sta = s.sta := rfl
@[simp] theorem State.pins_atu : (s.pins).atu = s.atu := rfl
@[simp] theorem State.pins_lvc : (s.pins).lvc = s.lvc := rfl
@[simp] theorem State.pins_sdc : (s.pins).sdc = s.sdc := rfl
@[simp] theorem State.pins_awu : (s.pins).awu = s.awu := rfl
@[simp] theorem State.pins_wind : (s.pins).wind = s.wind := rfl
@[simp] theorem State.pins_inm : (s.pins).inm = s.inm := rfl
@[simp] theorem State.pins_clm : (s.pins).clm = s.clm := rfl
@[simp] theorem State.pins_liu : (s.pins).liu = s.liu := rfl
@[simp] theorem State.pins_ist : (s.pins).ist = s.ist := rfl

/-! ### What an update writes -/

@[simp] theorem State.setOp_opAt_self (sl : Slot) (o : Op) : (s.setOp sl o).opAt sl = some o := by
  simp [State.opAt, State.setOp]

theorem State.setOp_opAt (sl k : Slot) (o : Op) : (s.setOp sl o).opAt k = if sl = k then some o else s.opAt k := by
  simp [State.opAt, State.setOp, Bank.get_set]

@[simp] theorem State.modJack_jack_self (j : Jack) (f : JackUnit → JackUnit) : (s.modJack j f).jack j = f (s.jack j) := by
  simp [State.jack, State.modJack]

theorem State.modJack_jack (j k : Jack) (f : JackUnit → JackUnit) :
    (s.modJack j f).jack k = if j = k then f (s.jack k) else s.jack k := by
  simp [State.jack, State.modJack, Bank.get_modify]

@[simp] theorem State.modJacks_jack (f : JackUnit → JackUnit) (k : Jack) : (s.modJacks f).jack k = f (s.jack k) := by
  simp [State.jack, State.modJacks]

@[simp] theorem State.modRoom_roomUnit_self (n : Room) (f : RoomUnit → RoomUnit) :
    (s.modRoom n f).roomUnit n = f (s.roomUnit n) := by simp [State.roomUnit, State.modRoom]

theorem State.modRoom_roomUnit (n k : Room) (f : RoomUnit → RoomUnit) :
    (s.modRoom n f).roomUnit k = if n = k then f (s.roomUnit k) else s.roomUnit k := by
  simp [State.roomUnit, State.modRoom, Bank.get_modify]

@[simp] theorem State.modInput_input_self (i : Input) (f : InputUnit → InputUnit) :
    (s.modInput i f).input i = f (s.input i) := by simp [State.input, State.modInput]

theorem State.modInput_input (i k : Input) (f : InputUnit → InputUnit) :
    (s.modInput i f).input k = if i = k then f (s.input k) else s.input k := by
  simp [State.input, State.modInput, Bank.get_modify]

theorem State.modEntry_entryUnit (i k : Entry) (f : ClearUnit → ClearUnit) :
    (s.modEntry i f).entryUnit k = if i = k then f (s.entryUnit k) else s.entryUnit k := by
  simp [State.entryUnit, State.modEntry, Bank.get_modify]

@[simp] theorem State.modEntry_ordered (k : Entry) (f : ClearUnit → ClearUnit) :
    (s.modEntry k f).clm.ordered = s.clm.ordered := rfl

@[simp] theorem State.modLink_link_self (l : Link) (f : LinkUnit → LinkUnit) : (s.modLink l f).link l = f (s.link l) := by
  cases l <;> rfl

theorem State.modLink_link (l k : Link) (f : LinkUnit → LinkUnit) :
    (s.modLink l f).link k = if l = k then f (s.link k) else s.link k := by
  cases l <;> cases k <;> rfl

@[simp] theorem State.modLink_pending (l : Link) (f : LinkUnit → LinkUnit) : (s.modLink l f).pending = s.pending := by
  cases l <;> rfl

@[simp] theorem State.modLink_now (l : Link) (f : LinkUnit → LinkUnit) : (s.modLink l f).now = s.now := by
  cases l <;> rfl

@[simp] theorem State.modLink_draws (l : Link) (f : LinkUnit → LinkUnit) : (s.modLink l f).draws = s.draws := by
  cases l <;> rfl

@[simp] theorem State.modLink_opt (l : Link) (f : LinkUnit → LinkUnit) : (s.modLink l f).opt = s.opt := by
  cases l <;> rfl

@[simp] theorem State.modLink_sta (l : Link) (f : LinkUnit → LinkUnit) : (s.modLink l f).sta = s.sta := by
  cases l <;> rfl

@[simp] theorem State.modLink_atu (l : Link) (f : LinkUnit → LinkUnit) : (s.modLink l f).atu = s.atu := by
  cases l <;> rfl

@[simp] theorem State.modLink_lvc (l : Link) (f : LinkUnit → LinkUnit) : (s.modLink l f).lvc = s.lvc := by
  cases l <;> rfl

@[simp] theorem State.modLink_sdc (l : Link) (f : LinkUnit → LinkUnit) : (s.modLink l f).sdc = s.sdc := by
  cases l <;> rfl

@[simp] theorem State.modLink_awu (l : Link) (f : LinkUnit → LinkUnit) : (s.modLink l f).awu = s.awu := by
  cases l <;> rfl

@[simp] theorem State.modLink_wind (l : Link) (f : LinkUnit → LinkUnit) : (s.modLink l f).wind = s.wind := by
  cases l <;> rfl

@[simp] theorem State.modLink_inm (l : Link) (f : LinkUnit → LinkUnit) : (s.modLink l f).inm = s.inm := by
  cases l <;> rfl

@[simp] theorem State.modLink_clm (l : Link) (f : LinkUnit → LinkUnit) : (s.modLink l f).clm = s.clm := by
  cases l <;> rfl

@[simp] theorem State.modLink_ntu (l : Link) (f : LinkUnit → LinkUnit) : (s.modLink l f).ntu = s.ntu := by
  cases l <;> rfl

@[simp] theorem State.modLink_ist (l : Link) (f : LinkUnit → LinkUnit) : (s.modLink l f).ist = s.ist := by
  cases l <;> rfl

/-! ### Reads that an update of another field leaves -/

@[simp] theorem State.pins_noteN : s.pins.ntu.noteN = s.noteDue := rfl
@[simp] theorem State.pins_alarm : s.pins.ntu.alarm = s.alarmDue := rfl
@[simp] theorem State.pins_coach : s.pins.ntu.coach = s.ntu.coach := rfl
@[simp] theorem State.pins_service : s.pins.ntu.service = s.ntu.service := rfl
@[simp] theorem State.pins_faults : s.pins.ntu.faults = s.ntu.faults := rfl
@[simp] theorem State.pins_mask : s.pins.ntu.mask = s.ntu.mask := rfl
@[simp] theorem State.pins_thermal : s.pins.ntu.thermal = s.ntu.thermal := rfl
@[simp] theorem State.pins_bridges : s.pins.ntu.bridges = s.ntu.bridges := rfl

@[simp] theorem State.raise_coach (k : Category) : (s.raise k).ntu.coach = s.ntu.coach.raise k := rfl
@[simp] theorem State.raise_service (k : Category) : (s.raise k).ntu.service = s.ntu.service.raise k := rfl
@[simp] theorem State.raise_faults (k : Category) : (s.raise k).ntu.faults = s.ntu.faults := rfl
@[simp] theorem State.raise_mask (k : Category) : (s.raise k).ntu.mask = s.ntu.mask := rfl

end Sys2Proof.Machine
end

