-- ==== Sys2Proof/Laws/Settle.lean ====
section
/-! SUPPORT. What the end of an event does: the fault record and the pins, the waiting queue after an
examination, and the whole of it in a calm state. -/

namespace Sys2Proof.Machine

/-! ### Fault record and pins -/

theorem pinsExact_pins (s : State) : s.pins.pinsExact := ⟨rfl, rfl⟩

/-- An update of the pins leaves everything else. -/
theorem pins_frame (s : State) : s.pins = { s with ntu := s.pins.ntu } := rfl

theorem syncFaults_ntu (s : State) :
    s.syncFaults = { s with ntu := s.syncFaults.ntu } := by
  unfold State.syncFaults
  dsimp only
  split <;> rfl

theorem or_or_self_right {w : Nat} (a b : BitVec w) : (a ||| b) ||| a = a ||| b := by
  rw [BitVec.or_comm (a ||| b) a, ← BitVec.or_assoc, BitVec.or_self]

/-- What the update of the fault record does to the Notice Unit. -/
theorem syncFaults_cases (s : State) : ∃ fresh : Word,
    s.syncFaults.ntu.faults.latched = s.ntu.faults.latched ||| fresh
    ∧ s.syncFaults.ntu.faults.present = s.presentNow
    ∧ s.syncFaults.ntu.faults.now = s.detailsNow
    ∧ s.syncFaults.ntu.faults.since = s.ntu.faults.since.join s.detailsNow
    ∧ s.syncFaults.ntu.faults.cause = s.ntu.faults.cause
    ∧ s.syncFaults.ntu.mask = s.ntu.mask ∧ s.syncFaults.ntu.thermal = s.ntu.thermal
    ∧ s.syncFaults.ntu.bridges = s.ntu.bridges
    ∧ ((fresh = 0 ∧ s.syncFaults.ntu.coach = s.ntu.coach ∧ s.syncFaults.ntu.service = s.ntu.service)
      ∨ (fresh ≠ 0 ∧ s.syncFaults.ntu.coach = s.ntu.coach.raise .fault
          ∧ s.syncFaults.ntu.service = s.ntu.service.raise .fault)) := by
  refine ⟨(s.presentNow &&& ~~~ s.ntu.faults.present) ||| (newMembers s.detailsNow s.ntu.faults.now).kinds, ?_⟩
  unfold State.syncFaults
  dsimp only
  split
  · next h => exact ⟨rfl, rfl, rfl, rfl, rfl, rfl, rfl, rfl, Or.inl ⟨h, rfl, rfl⟩⟩
  · next h => exact ⟨rfl, rfl, rfl, rfl, rfl, rfl, rfl, rfl, Or.inr ⟨h, rfl, rfl⟩⟩

theorem presentNow_syncFaults (s : State) : s.syncFaults.presentNow = s.presentNow := by
  obtain ⟨_, _, _, _, _, _, _, ht, hb, _⟩ := syncFaults_cases s
  rw [syncFaults_ntu]
  simp only [State.presentNow, State.detailsNow, State.strayBits, ht, hb]

theorem detailsNow_syncFaults (s : State) : s.syncFaults.detailsNow = s.detailsNow := by
  obtain ⟨_, _, _, _, _, _, _, ht, hb, _⟩ := syncFaults_cases s
  rw [syncFaults_ntu]
  simp only [State.detailsNow, State.strayBits, hb]

/-- The update of fault record and pins moves the Notice Unit alone. -/
theorem sync_frame (s : State) : s.sync = { s with ntu := s.sync.ntu } := by
  unfold State.sync
  rw [pins_frame, syncFaults_ntu]

theorem notices_sync (s : State) : NoticesFollow s s.sync := by
  obtain ⟨fresh, hl, hp, hn, hd, hc, hm, ht, hb, hs⟩ := syncFaults_cases s
  have hpres : s.sync.presentNow = s.presentNow := presentNow_syncFaults s
  have hdet : s.sync.detailsNow = s.detailsNow := detailsNow_syncFaults s
  refine ⟨hm, ⟨ht, hb⟩, hc, ?_, ?_, ?_, ?_, ?_, ?_⟩
  · show s.syncFaults.ntu.faults.latched ||| _ = s.syncFaults.ntu.faults.latched
    rw [hl, or_or_self_right]
  · rw [hpres]; exact hp
  · rw [hdet]; exact hn
  · rw [hdet]; exact hd
  · rcases hs with ⟨h0, h1, h2⟩ | ⟨_, h1, h2⟩
    · left; refine ⟨h1, h2, ?_⟩
      show s.syncFaults.ntu.faults.latched = _
      rw [hl, h0]; simp
    · exact Or.inr ⟨h1, h2⟩
  · exact pinsExact_pins _

theorem and_of_or_left {w : Nat} (a b : BitVec w) : (a ||| b) &&& b = b := by
  ext i
  simp only [BitVec.getElem_and, BitVec.getElem_or, Bool.and_eq_right_iff_imp, Bool.or_eq_true]
  exact Or.inr

/-- A bit set that holds `b` holds the members `c` of `b`. -/
theorem and_of_or {w : Nat} {a b c : BitVec w} (h1 : a ||| b = a) (h2 : b &&& c = c) : a &&& c = c := by
  rw [← h1, ← h2, ← BitVec.and_assoc, and_of_or_left]

/-- A category set before the end of an event stands after it. -/
theorem NoticesFollow.cats {u t : State} (h : NoticesFollow u t) {c : BitVec 8}
    (hc : u.ntu.coach.cats &&& c = c) (hs : u.ntu.service.cats &&& c = c) :
    t.ntu.coach.cats &&& c = c ∧ t.ntu.service.cats &&& c = c := by
  rcases h.sets with ⟨h1, h2, _⟩ | ⟨h1, h2⟩
  · rw [h1, h2]; exact ⟨hc, hs⟩
  · rw [h1, h2]
    exact ⟨and_of_or (or_or_self_right _ _) hc, and_of_or (or_or_self_right _ _) hs⟩

/-- The end of an event that touches measured conditions only. -/
theorem faultsFollow_sync (s : State) : FaultsFollow s s.sync := ⟨sync_frame s, notices_sync s⟩

theorem pinsExact_sync (s : State) : s.sync.pinsExact := pinsExact_pins _

theorem pinsExact_settle (s : State) : s.settle.pinsExact := pinsExact_pins _

/-! ### Clearance flags -/

theorem mem_entryNumbers (k : Entry) : k ∈ entryNumbers := by revert k; decide

theorem foldl_modEntry_frame (g : Entry → ClearUnit → ClearUnit) (l : List Entry) (s : State) :
    l.foldl (fun t k => t.modEntry k (g k)) s
      = { s with clm := { s.clm with entries := (l.foldl (fun t k => t.modEntry k (g k)) s).clm.entries } } := by
  induction l generalizing s with
  | nil => rfl
  | cons k l ih =>
    simp only [List.foldl_cons]
    rw [ih]
    rfl

theorem foldl_modEntry_entryUnit (g : Entry → ClearUnit → ClearUnit) (l : List Entry) (s : State) (hl : l.Nodup)
    (k : Entry) :
    (l.foldl (fun t k => t.modEntry k (g k)) s).entryUnit k
      = if k ∈ l then g k (s.entryUnit k) else s.entryUnit k := by
  induction l generalizing s with
  | nil => simp
  | cons a l ih =>
    simp only [List.foldl_cons]
    rw [ih _ hl.of_cons, State.modEntry_entryUnit]
    have ha : a ∉ l := (List.nodup_cons.mp hl).1
    by_cases h : k = a
    · subst h; simp [ha]
    · have h' : ¬ a = k := fun e => h e.symm
      simp [h, h']

/-- The flags derived afresh, before any judgement. -/
def State.flagged (s : State) : State :=
  entryNumbers.foldl (fun t k =>
    t.modEntry k (fun u => { u with active := s.activeNow (s.entryItem k), inside := s.insideNow (s.entryItem k) })) s

theorem flagged_frame (s : State) :
    s.flagged = { s with clm := { s.clm with entries := s.flagged.clm.entries } } :=
  foldl_modEntry_frame _ _ _

theorem flagged_entryUnit (s : State) (k : Entry) :
    s.flagged.entryUnit k
      = { s.entryUnit k with active := s.activeNow (s.entryItem k), inside := s.insideNow (s.entryItem k) } := by
  unfold State.flagged
  rw [foldl_modEntry_entryUnit _ _ _ (by decide)]
  simp [mem_entryNumbers]

theorem sendOrder_nil (s : State) (g : Group) : s.sendOrder g [] = s := by simp [State.sendOrder]

theorem sendOrder_unjudged (s : State) (g : Group) (l : List Entry) (h : s.judged g = false) : s.sendOrder g l = s := by
  simp [State.sendOrder, h]

theorem find_pred {α : Type} {p : α → Bool} {l : List α} {a : α} (h : l.find? p = some a) : p a = true :=
  List.find?_some h

theorem busySlot_some {s : State} {g : Group} {sl : Slot} (h : s.busySlot g = some sl) :
    ∃ o, s.opAt sl = some o ∧ o.job.group = g ∧ o.state.isEnded = false := by
  have := find_pred h
  rw [Option.any_eq_true] at this
  obtain ⟨o, ho, h2⟩ := this
  simp only [Bool.and_eq_true, beq_iff_eq, Bool.not_eq_true'] at h2
  exact ⟨o, ho, h2.1, h2.2⟩

theorem activeOp_some {s : State} {g : Group} {sl : Slot} {o : Op} (h : s.activeOp g = some (sl, o)) :
    s.opAt sl = some o ∧ o.job.group = g ∧ o.state.active = true := by
  unfold State.activeOp at h
  split at h
  · cases h
  · next sl' hb =>
    obtain ⟨o', ho', hg, _⟩ := busySlot_some hb
    rw [ho'] at h
    dsimp only at h
    split at h
    · next ha => cases h; exact ⟨ho', hg, ha⟩
    · cases h

theorem runningOp_some {s : State} {g : Group} {sl : Slot} {o : Op} (h : s.runningOp g = some (sl, o)) :
    s.opAt sl = some o ∧ o.job.group = g ∧ o.state.isRunning = true := by
  unfold State.runningOp at h
  split at h
  · next sl' o' ha =>
    obtain ⟨h1, h2, _⟩ := activeOp_some ha
    split at h
    · next hr => cases h; exact ⟨h1, h2, hr⟩
    · cases h
  · cases h

/-- No operation of a group runs where every RUNNING operation is of another. -/
theorem runningOp_none {s : State} {p : Group → Bool} {g : Group} (h : s.runsOnly p) (hg : p g = false) :
    s.runningOp g = none := by
  cases hr : s.runningOp g with
  | none => rfl
  | some x =>
    obtain ⟨h1, h2, h3⟩ := runningOp_some (o := x.2) (sl := x.1) hr
    have := h _ _ h1 h3
    rw [h2, hg] at this
    cases this

theorem judged_false {s : State} {g : Group} (h : s.runningOp g = none) : s.judged g = false := by
  simp [State.judged, h]

theorem activeNow_disabled {s : State} {e : ClearEntry} (h : e.enabled = false) : s.activeNow e = false := by
  simp [State.activeNow, h]

theorem judgeStanding_quiet {s : State} (g : Group) (l : List Entry)
    (h : l = [] ∨ g = .jacks ∨ s.runningOp g = none) : s.judgeStanding g l = s := by
  unfold State.judgeStanding
  rcases h with h | h | h
  · subst h; simp [sendOrder_nil]
  · subst h; simp [State.subjectMotors, sendOrder_nil]
  · exact sendOrder_unjudged _ _ _ (judged_false h)

theorem foldl_same {α : Type} (l : List α) (f : State → α → State) (s : State) (h : ∀ a ∈ l, f s a = s) :
    l.foldl f s = s := by
  induction l with
  | nil => rfl
  | cons a l ih =>
    simp only [List.foldl_cons]
    rw [h a (by simp)]
    exact ih (fun b hb => h b (by simp [hb]))

/-- A subject with no enabled entry has no count change to judge (R158). -/
theorem judgeMove_noEntries {s : State} {g : Group} (m : MotorId) (r : MotorRef) (was : Nat) (byReference : Bool)
    (h : s.entriesOf g = []) : s.judgeMove g m r was byReference = s := by
  unfold State.judgeMove
  split
  · simp [h, State.protecting, judgeStanding_quiet, sendOrder_nil]
  · rfl

/-- Where every count stands as before, there is no change to judge (R158). -/
theorem judgeChanged_same {s before : State} {g : Group}
    (h : ∀ p ∈ s.subjectMotors g, (s.motor p.2).count = (before.motor p.2).count) : s.judgeChanged before g = s := by
  unfold State.judgeChanged
  apply foldl_same
  intro p hp
  simp [h p hp]

/-- The counts of a subject with no enabled entry change without a judgement (R158). -/
theorem judgeChanged_noEntries {s before : State} {g : Group} (h : s.entriesOf g = []) : s.judgeChanged before g = s := by
  unfold State.judgeChanged
  apply foldl_same
  intro p _
  simp [judgeMove_noEntries _ _ _ _ h]

/-- Undisturbed, the derivation of the clearance flags sends no order. -/
theorem deriveClearance_undisturbed {s : State} (h : s.Undisturbed) :
    s.deriveClearance = if s.inm.notReady then s else s.flagged := by
  unfold State.deriveClearance
  split
  · rfl
  · dsimp only
    have key : ∀ g ∈ groups,
        s.flagged.judgeStanding g
          ((entryNumbers.filter (fun k => s.activeNow (s.entryItem k) && !(s.entryUnit k).active
              && (s.entryItem k).action == .protect)).filter (fun k => (s.flagged.entryItem k).subject == g))
          = s.flagged := by
      intro g _
      apply judgeStanding_quiet
      rcases h.edges with he | hr
      · left
        simp [activeNow_disabled, he]
      · by_cases hg : g = .jacks
        · exact Or.inr (Or.inl hg)
        · refine Or.inr (Or.inr ?_)
          rw [flagged_frame]
          exact runningOp_none (p := fun g => g == .jacks) (s := s) hr (by simpa using hg)
    exact foldl_same _ _ _ key

theorem examineQueue_noneWaiting {s : State} (h : s.noneWaiting) : s.examineQueue = s := by
  unfold State.examineQueue
  cases hq : s.sta.queue with
  | nil => rfl
  | cons sl behind =>
    simp only [List.length_cons, State.examine, hq]
    cases ho : s.opAt sl with
    | none => rfl
    | some o => simp [h _ _ ho]

/-- A head that fails a test gets its wait reason, and nothing else changes. -/
theorem examineQueue_headBlocked {s : State} {sl : Slot} {o : Op} {w : WaitReason} (h : s.headBlocked sl o w) :
    s.examineQueue = s.setOp sl { o with state := .admitted w } := by
  obtain ⟨hq, ho, ha, hb⟩ := h
  unfold State.examineQueue
  simp [State.examine, hq, ho, ha, hb, State.setWait]

/-- A record written over itself leaves the state. -/
theorem setOp_same {s : State} {sl : Slot} {o : Op} (h : s.opAt sl = some o) : s.setOp sl o = s := by
  unfold State.setOp
  rw [← h, State.opAt, Bank.set_get]

/-- A wait reason that stands already is written to no effect. -/
theorem setWait_same {s : State} {sl : Slot} {o : Op} {w : WaitReason} (h : s.opAt sl = some o)
    (hw : o.state = .admitted w) : s.setWait sl w = s := by
  have ho : ({ o with state := .admitted w } : Op) = o := by rw [← hw]
  simp [State.setWait, h, hw, OpState.isAdmitted, ho, setOp_same h]

/-- A queue that waits as an examination left it is left alone by the next one (R30). -/
theorem examineQueue_headWaits {s : State} (h : s.headWaits) : s.examineQueue = s := by
  unfold State.examineQueue
  cases hq : s.sta.queue with
  | nil => rfl
  | cons sl behind =>
    obtain ⟨⟨o, w, ho, hs, hb⟩, hrest⟩ := h sl behind hq
    simp only [List.length_cons, State.examine, hq, ho, hs, OpState.isAdmitted, hb, Bool.not_true, Bool.false_eq_true,
      if_false]
    rw [setWait_same ho hs]
    apply foldl_same
    intro k hk
    obtain ⟨p, hp, hps⟩ := hrest k hk
    exact setWait_same hp hps

theorem watchRetract_undisturbed {s : State} (h : s.Undisturbed) : s.watchRetract = s := by
  unfold State.watchRetract
  rcases h.retract with hr | hr
  · simp only [hr]
    split <;> simp
  · have : s.jacksJudging = none := by
      unfold State.jacksJudging
      split
      · rfl
      · exact runningOp_none hr (by simp)
    simp [this]

/-- The state with the monitor's own flags of the entries replaced. -/
def State.withEntries (s : State) (e : Bank ClearUnit 8) : State := { s with clm := { s.clm with entries := e } }

/-- Being undisturbed does not depend on the clearance flags. -/
theorem undisturbed_entries {s : State} (h : s.Undisturbed) (e : Bank ClearUnit 8) : (s.withEntries e).Undisturbed :=
  ⟨h.edges, h.retract⟩

/-- What the derivation writes: for each entry its flags, its judged positions as they stood. -/
structure Flagged (s : State) (e : Bank ClearUnit 8) : Prop where
  judged : ∀ k, (e.get k).lastA = (s.entryUnit k).lastA ∧ (e.get k).lastB = (s.entryUnit k).lastB
  flags : s.inm.notReady = false → ∀ k, (e.get k).active = s.activeNow (s.entryItem k)
    ∧ (e.get k).inside = s.insideNow (s.entryItem k)

theorem derive_flagged {s : State} (h : s.Undisturbed) :
    ∃ e, s.deriveClearance = s.withEntries e ∧ Flagged s e := by
  rw [deriveClearance_undisturbed h]
  by_cases hn : s.inm.notReady = true
  · refine ⟨s.clm.entries, ?_, fun k => ⟨rfl, rfl⟩, fun hf => by simp [hn] at hf⟩
    simp only [hn, if_true]; rfl
  · refine ⟨s.flagged.clm.entries, ?_, ?_, ?_⟩
    · simp only [hn]
      exact flagged_frame s
    · intro k
      have := flagged_entryUnit s k
      unfold State.entryUnit at this
      rw [this]; exact ⟨rfl, rfl⟩
    · intro _ k
      have := flagged_entryUnit s k
      unfold State.entryUnit at this
      rw [this]; exact ⟨rfl, rfl⟩

/-- The end of an event up to the fault record, where the examination of the queue leaves `u`. -/
theorem settle_examined {s u : State} (h : s.Undisturbed) (hu : u.Undisturbed)
    (hx : ∀ e, (s.withEntries e).examineQueue = u.withEntries e) (hj : u.clm = s.clm) :
    ∃ e, s.settle = (u.withEntries e).driftIdle.deriveCoach.followIdle.sync ∧ Flagged u e := by
  obtain ⟨e1, he1, hf1⟩ := derive_flagged h
  obtain ⟨e2, he2, hf2⟩ := derive_flagged (undisturbed_entries hu e1)
  refine ⟨e2, ?_, ?_, ?_⟩
  · unfold State.settle
    rw [watchRetract_undisturbed h, he1, hx, he2]
    rfl
  · intro k
    have h1 := hf1.judged k
    have h2 := hf2.judged k
    have hc : (u.entryUnit k) = s.entryUnit k := by unfold State.entryUnit; rw [hj]
    rw [hc]
    exact ⟨h2.1.trans h1.1, h2.2.trans h1.2⟩
  · intro hn k
    exact hf2.flags hn k

theorem driftIdle_eq (s : State) :
    s.driftIdle = { s with atu := { s.atu with drift := if s.watching then s.atu.drift else none } } := by
  unfold State.driftIdle
  split <;> rfl

theorem deriveCoach_eq (s : State) :
    s.deriveCoach = { s with inm := { s.inm with coach := if s.inm.parked then s.inm.coach else s.coachNow } } := by
  unfold State.deriveCoach
  split <;> rfl

theorem followIdle_eq (s : State) :
    ∃ timer : Option Nat, s.followIdle = { s with inm := { s.inm with idle := s.idleNow, idleTimer := timer } } := by
  unfold State.followIdle
  split
  · next h =>
    split
    · next h2 => exact ⟨s.inm.idleTimer, by rw [h, ← h2]⟩
    · exact ⟨_, by rw [h]⟩
  · next h =>
    have : s.idleNow = false := by simpa using h
    exact ⟨none, by rw [this]⟩

/-- A state with the clearance flags, the drift timer, the coach condition record and idle brought up to
date. -/
def State.refreshed (s : State) (e : Bank ClearUnit 8) (timer : Option Nat) : State :=
  { s with clm := { s.clm with entries := e }
           atu := { s.atu with drift := if s.watching then s.atu.drift else none }
           inm := { s.inm with coach := if s.inm.parked then s.inm.coach else s.coachNow
                               idle := s.idleNow, idleTimer := timer } }

theorem tail_refreshed (s : State) (e : Bank ClearUnit 8) :
    ∃ timer, (s.withEntries e).driftIdle.deriveCoach.followIdle = s.refreshed e timer := by
  obtain ⟨timer, ht⟩ := followIdle_eq (s.withEntries e).driftIdle.deriveCoach
  refine ⟨timer, ?_⟩
  rw [ht, deriveCoach_eq, driftIdle_eq]
  rfl

/-- What the notices follow does not depend on the state beside the Notice Unit. -/
theorem notices_of_ntu {u w t : State} (hw : w.ntu = u.ntu) (h : NoticesFollow w t) : NoticesFollow u t :=
  ⟨hw ▸ h.mask, hw ▸ h.measured, hw ▸ h.cause, hw ▸ h.latched, h.present, h.members, hw ▸ h.details, hw ▸ h.sets, h.pins⟩

/-- The end of an event, where the examination of the queue leaves `u`. -/
theorem follows_examined {s u : State} (h : s.Undisturbed) (hu : u.Undisturbed)
    (hx : ∀ e, (s.withEntries e).examineQueue = u.withEntries e) (hj : u.clm = s.clm) : Follows u s.settle := by
  obtain ⟨e, he, hf⟩ := settle_examined h hu hx hj
  obtain ⟨timer, ht⟩ := tail_refreshed u e
  rw [he, ht]
  have hn : NoticesFollow u (u.refreshed e timer).sync :=
    notices_of_ntu (w := u.refreshed e timer) rfl (notices_sync _)
  rw [sync_frame] at hn ⊢
  exact ⟨⟨rfl, rfl, rfl⟩, rfl, rfl, rfl, rfl, rfl, rfl, rfl, rfl, rfl, rfl, rfl, rfl, rfl, hf.judged, hf.flags, hn⟩

/-- The end of an event in a calm state: what follows is brought up to date and nothing else moves. -/
theorem follows_settle {s : State} (h : s.Calm) : Follows s s.settle :=
  follows_examined h.toUndisturbed h.toUndisturbed
    (fun e => examineQueue_noneWaiting (s := s.withEntries e) h.waiting) rfl

/-- The end of an event with a head that fails a test: it gets its wait reason. -/
theorem follows_headBlocked {s : State} {sl : Slot} {o : Op} {w : WaitReason} (h : s.Undisturbed)
    (hb : s.headBlocked sl o w) (hu : (s.setOp sl { o with state := .admitted w }).Undisturbed) :
    Follows (s.setOp sl { o with state := .admitted w }) s.settle :=
  follows_examined h hu (fun e => examineQueue_headBlocked (s := s.withEntries e) hb) rfl

/-- The end of an event with a queue that waits as an examination left it. -/
theorem follows_headWaits {s : State} (h : s.Undisturbed) (hw : s.headWaits) : Follows s s.settle :=
  follows_examined h h (fun e => examineQueue_headWaits (s := s.withEntries e) hw) rfl

/-! ### Staying calm -/

/-- Whether a room is out follows from the items, the room units and the inputs alone. -/
theorem someRoomOut_congr {s t : State} (hi : t.ist = s.ist) (hr : t.sdc = s.sdc) (hn : t.inm.inputs = s.inm.inputs) :
    t.someRoomOut = s.someRoomOut := by
  have key : ∀ x : State, x.someRoomOut
      = ({ State.reset with ist := x.ist, sdc := x.sdc, inm := { Inm.reset with inputs := x.inm.inputs } } : State).someRoomOut :=
    fun _ => rfl
  rw [key t, key s, hi, hr, hn]

/-- Being undisturbed follows from the table, the items, the rooms and the inputs alone. -/
theorem undisturbed_congr {s t : State} (h : s.Undisturbed) (ho : t.opt = s.opt) (hi : t.ist = s.ist)
    (hr : t.sdc = s.sdc) (hn : t.inm.inputs = s.inm.inputs) : t.Undisturbed := by
  have hop : ∀ sl, t.opAt sl = s.opAt sl := fun sl => by simp [State.opAt, ho]
  refine ⟨?_, ?_⟩
  · rcases h.edges with h | h
    · left; intro k; simpa [State.entryItem, State.items, hi] using h k
    · right; intro sl o; rw [hop]; exact h sl o
  · rcases h.retract with h | h
    · left; rw [someRoomOut_congr hi hr hn]; exact h
    · right; intro sl o; rw [hop]; exact h sl o

/-- Being calm follows from the table, the items, the rooms and the inputs alone. -/
theorem calm_congr {s t : State} (h : s.Calm) (ho : t.opt = s.opt) (hi : t.ist = s.ist) (hr : t.sdc = s.sdc)
    (hn : t.inm.inputs = s.inm.inputs) : t.Calm := by
  refine ⟨undisturbed_congr h.toUndisturbed ho hi hr hn, ?_⟩
  intro sl o
  simp only [State.opAt, ho]
  exact h.waiting sl o

/-- A table in which every record has ended is calm. -/
theorem calm_allEnded {s : State} (h : s.allEnded) : s.Calm := by
  have hr : ∀ sl, ∀ o ∈ s.opAt sl, o.state.isRunning = true → False := by
    intro sl o ho hrun
    have := h sl o ho
    cases hs : o.state <;> simp_all [OpState.isEnded, OpState.isRunning]
  refine ⟨⟨Or.inr (fun sl o ho hrun => (hr sl o ho hrun).elim), Or.inr (fun sl o ho hrun => (hr sl o ho hrun).elim)⟩, ?_⟩
  intro sl o ho
  have := h sl o ho
  cases hs : o.state <;> simp_all [OpState.isEnded, OpState.isAdmitted]

end Sys2Proof.Machine
end

