-- ==== Sys2Proof/Laws/Links.lean ====
section
/-! SUPPORT. What a request does where the LIU takes it as it comes, and what a built reply leaves. -/

namespace Sys2Proof.Machine

/-- A frame's start leaves an awake part as it is (R152). -/
theorem wakeOnFrame_awake {s : State} (h : s.inm.parked = false) (l : Link) : s.wakeOnFrame l = s := by
  simp [State.wakeOnFrame, h]

/-- A request on a link that takes frames is served at once (R169). -/
theorem request_taken {s : State} {l : Link} (h : s.takes l) (kind : Byte) (p : List Byte) (f : Handler) :
    s.request l kind p f = s.serve l kind p f := by
  unfold State.request
  rw [wakeOnFrame_awake h.1]
  simp [h.2]

/-- A served request: the handler's state with the handler's answer replied (R170). -/
theorem serve_eq {s t : State} {l : Link} {kind : Byte} {p : List Byte} {f : Handler} {a : Answer}
    (h : f s l p = (t, a)) : s.serve l kind p f = t.reply l kind a := by
  simp [State.serve, h]

@[simp] theorem reply_ok (s : State) (l : Link) (kind : Byte) (data : List Byte) :
    s.reply l kind (Answer.ok data) = s.pushReply l kind 0 data .nothing := rfl

@[simp] theorem reply_accepted (s : State) (l : Link) (kind : Byte) (data : List Byte) (k : After) :
    s.reply l kind (.accepted data k) = s.pushReply l kind 0 data k := rfl

@[simp] theorem reply_refused (s : State) (l : Link) (kind : Byte) (r : Refuse) :
    s.reply l kind (.refused r) = s.pushReply l kind (BitVec.ofNat 8 r.code) [] .nothing := rfl

@[simp] theorem reply_later (s : State) (l : Link) (kind : Byte) : s.reply l kind .later = s := rfl

/-- A request without a payload, its payload empty. -/
@[simp] theorem noPayload_nil (s : State) (k : State × Answer) : noPayload [] s k = k := rfl

@[simp] theorem oneByte_single (s : State) (b : Byte) (k : Byte → State × Answer) : oneByte [b] s k = k b := rfl

/-- A built reply touches the replies of its link alone. -/
theorem pushReply_link (s : State) (l k : Link) (kind outcome : Byte) (data : List Byte) (after : After) :
    (s.pushReply l kind outcome data after).link k
      = if l = k then
          { s.link k with replies := (s.link k).replies ++
              [{ kind := kind ||| 0x80#8, summary := s.summary l, outcome := outcome, data := data, after := after }] }
        else s.link k := by
  unfold State.pushReply
  rw [State.modLink_link]

theorem pushReply_frame (s : State) (l : Link) (kind outcome : Byte) (data : List Byte) (after : After) :
    s.pushReply l kind outcome data after
      = { s with liu := (s.pushReply l kind outcome data after).liu } := by
  cases l <;> rfl

end Sys2Proof.Machine
end

