-- ==== Sys2Proof/WellFormed.lean ====
section
/-! DEFINITION. What a command's operands may be beyond what their types say: the payload of a frame holds
at most 64 bytes (R167), and a frame of no known KIND has a KIND that R174 does not list. -/

namespace Sys2Proof

/-- A payload fits a frame (R167). -/
def payloadOk (p : List Byte) : Bool := decide (p.length ≤ 64)

/-- A KIND is one of the request codes of R174. -/
def kindKnown (k : Byte) : Bool := decide (1 ≤ k.toNat ∧ k.toNat ≤ 0x19)

/-- A command is well formed. -/
def Instr.wellFormed : Instr → Bool
  | .ident _ p => payloadOk p
  | .status _ p => payloadOk p
  | .submit _ p => payloadOk p
  | .stop _ p => payloadOk p
  | .haltAll _ p => payloadOk p
  | .resume _ p => payloadOk p
  | .dismiss _ p => payloadOk p
  | .readOp _ p => payloadOk p
  | .listOps _ p => payloadOk p
  | .readChanges _ p => payloadOk p
  | .readFaults _ p => payloadOk p
  | .readAttitude _ p => payloadOk p
  | .readInputs _ p => payloadOk p
  | .readMotion _ p => payloadOk p
  | .readWind _ p => payloadOk p
  | .setItem _ p => payloadOk p
  | .getItem _ p => payloadOk p
  | .storeItems _ p => payloadOk p
  | .setReference _ p => payloadOk p
  | .setNoticeMask _ p => payloadOk p
  | .postNotice _ p => payloadOk p
  | .park _ p => payloadOk p
  | .restart _ p => payloadOk p
  | .claim _ p => payloadOk p
  | .release _ p => payloadOk p
  | .unknownKind _ k p => payloadOk p && !kindKnown k
  | .receiveByte _ _ => true
  | .gapTimerExpiry _ => true
  | .wakeOnFrameStart _ => true
  | .replySent _ => true
  | .reset _ => true
  | .storeEnd _ => true
  | .watchdogExpiry => true
  | .serviceSilenceExpiry => true
  | .staggerExpiry => true
  | .supplySample _ => true
  | .holdTimerExpiry => true
  | .attitudeSample _ _ _ => true
  | .driftTimerExpiry => true
  | .jackSample _ => true
  | .contactTimerExpiry _ => true
  | .pumpRampTick => true
  | .groundTimerExpiry => true
  | .settleTimerExpiry => true
  | .liftTimerExpiry => true
  | .touchdownTimerExpiry => true
  | .stowTimerExpiry => true
  | .jackJogTimerExpiry => true
  | .roomHallPulse _ => true
  | .roomTick _ _ _ => true
  | .roomBreakawayExpiry _ _ => true
  | .roomStallWindowExpiry _ => true
  | .roomJogTimerExpiry _ => true
  | .roomCoastExpiry _ => true
  | .awningHallPulse => true
  | .awningTick _ => true
  | .awningBreakawayExpiry => true
  | .awningStallWindowExpiry => true
  | .awningJogTimerExpiry => true
  | .awningCoastExpiry => true
  | .windPulse => true
  | .windGateEnd => true
  | .lockoutExpiry => true
  | .inputSample _ => true
  | .debounceExpiry _ => true
  | .firstDebounceExpiry _ => true
  | .faultTimerExpiry _ => true
  | .idleTimerExpiry => true
  | .parkPoll _ => true
  | .thermalSample _ => true
  | .bridgeFaultSample _ => true

end Sys2Proof
end

