-- ==== Sys2Proof/Laws/PerInstr.lean ====
section
/-! SUPPORT. A law of every command as syntax: what a well-formed request frame carries fits a frame. -/

namespace Sys2Proof.Laws.Shape

/-- The payload of the frame a command is, for the requests of R174 and the frame of an unknown KIND. -/
def carried : Instr → Option (List Byte)
  | .ident _ p => some p
  | .status _ p => some p
  | .submit _ p => some p
  | .stop _ p => some p
  | .haltAll _ p => some p
  | .resume _ p => some p
  | .dismiss _ p => some p
  | .readOp _ p => some p
  | .listOps _ p => some p
  | .readChanges _ p => some p
  | .readFaults _ p => some p
  | .readAttitude _ p => some p
  | .readInputs _ p => some p
  | .readMotion _ p => some p
  | .readWind _ p => some p
  | .setItem _ p => some p
  | .getItem _ p => some p
  | .storeItems _ p => some p
  | .setReference _ p => some p
  | .setNoticeMask _ p => some p
  | .postNotice _ p => some p
  | .park _ p => some p
  | .restart _ p => some p
  | .claim _ p => some p
  | .release _ p => some p
  | .unknownKind _ _ p => some p
  | _ => none

/-- A well-formed command carries at most the 64 payload bytes of a frame (R167); a command that carries no frame is
well formed with every operand its type admits. -/
def Statement (i : Instr) : Prop :=
  (i.wellFormed = true → ∀ p, carried i = some p → p.length ≤ 64)
  ∧ (carried i = none → i.wellFormed = true)

/-- A command that is a frame, and is well formed only with a payload that fits. -/
theorem of_frame {i : Instr} {p : List Byte} (hc : carried i = some p) (hw : i.wellFormed = true → payloadOk p = true) :
    Statement i := by
  unfold Statement
  constructor
  · intro h q hq
    rw [hc] at hq; cases hq
    exact of_decide_eq_true (hw h)
  · intro h
    rw [h] at hc; cases hc

/-- A command that carries no frame is well formed. -/
theorem of_event {i : Instr} (hc : carried i = none) (hw : i.wellFormed = true) : Statement i :=
  ⟨fun _ p hp => (by rw [hc] at hp; cases hp), fun _ => hw⟩

theorem ident (link : Link) (payload : List Byte) : Statement (.ident link payload) := of_frame rfl id
theorem status (link : Link) (payload : List Byte) : Statement (.status link payload) := of_frame rfl id
theorem submit (link : Link) (payload : List Byte) : Statement (.submit link payload) := of_frame rfl id
theorem stop (link : Link) (payload : List Byte) : Statement (.stop link payload) := of_frame rfl id
theorem haltAll (link : Link) (payload : List Byte) : Statement (.haltAll link payload) := of_frame rfl id
theorem resume (link : Link) (payload : List Byte) : Statement (.resume link payload) := of_frame rfl id
theorem dismiss (link : Link) (payload : List Byte) : Statement (.dismiss link payload) := of_frame rfl id
theorem readOp (link : Link) (payload : List Byte) : Statement (.readOp link payload) := of_frame rfl id
theorem listOps (link : Link) (payload : List Byte) : Statement (.listOps link payload) := of_frame rfl id
theorem readChanges (link : Link) (payload : List Byte) : Statement (.readChanges link payload) := of_frame rfl id
theorem readFaults (link : Link) (payload : List Byte) : Statement (.readFaults link payload) := of_frame rfl id
theorem readAttitude (link : Link) (payload : List Byte) : Statement (.readAttitude link payload) := of_frame rfl id
theorem readInputs (link : Link) (payload : List Byte) : Statement (.readInputs link payload) := of_frame rfl id
theorem readMotion (link : Link) (payload : List Byte) : Statement (.readMotion link payload) := of_frame rfl id
theorem readWind (link : Link) (payload : List Byte) : Statement (.readWind link payload) := of_frame rfl id
theorem setItem (link : Link) (payload : List Byte) : Statement (.setItem link payload) := of_frame rfl id
theorem getItem (link : Link) (payload : List Byte) : Statement (.getItem link payload) := of_frame rfl id
theorem storeItems (link : Link) (payload : List Byte) : Statement (.storeItems link payload) := of_frame rfl id
theorem setReference (link : Link) (payload : List Byte) : Statement (.setReference link payload) := of_frame rfl id
theorem setNoticeMask (link : Link) (payload : List Byte) : Statement (.setNoticeMask link payload) := of_frame rfl id
theorem postNotice (link : Link) (payload : List Byte) : Statement (.postNotice link payload) := of_frame rfl id
theorem park (link : Link) (payload : List Byte) : Statement (.park link payload) := of_frame rfl id
theorem restart (link : Link) (payload : List Byte) : Statement (.restart link payload) := of_frame rfl id
theorem claim (link : Link) (payload : List Byte) : Statement (.claim link payload) := of_frame rfl id
theorem release (link : Link) (payload : List Byte) : Statement (.release link payload) := of_frame rfl id
theorem receiveByte (link : Link) (byte : Byte) : Statement (.receiveByte link byte) := of_event rfl rfl
theorem gapTimerExpiry (link : Link) : Statement (.gapTimerExpiry link) := of_event rfl rfl
theorem wakeOnFrameStart (link : Link) : Statement (.wakeOnFrameStart link) := of_event rfl rfl
theorem replySent (link : Link) : Statement (.replySent link) := of_event rfl rfl
theorem reset (cause : SupplyReset) : Statement (.reset cause) := of_event rfl rfl
theorem storeEnd (readBack : Option Image) : Statement (.storeEnd readBack) := of_event rfl rfl
theorem watchdogExpiry : Statement .watchdogExpiry := of_event rfl rfl
theorem serviceSilenceExpiry : Statement .serviceSilenceExpiry := of_event rfl rfl
theorem staggerExpiry : Statement .staggerExpiry := of_event rfl rfl
theorem supplySample (tenths : Nat) : Statement (.supplySample tenths) := of_event rfl rfl
theorem holdTimerExpiry : Statement .holdTimerExpiry := of_event rfl rfl
theorem attitudeSample (ready : Byte) (a b : Word) : Statement (.attitudeSample ready a b) := of_event rfl rfl
theorem driftTimerExpiry : Statement .driftTimerExpiry := of_event rfl rfl
theorem jackSample (readings : Bank JackReading 6) : Statement (.jackSample readings) := of_event rfl rfl
theorem contactTimerExpiry (jack : Jack) : Statement (.contactTimerExpiry jack) := of_event rfl rfl
theorem pumpRampTick : Statement .pumpRampTick := of_event rfl rfl
theorem groundTimerExpiry : Statement .groundTimerExpiry := of_event rfl rfl
theorem settleTimerExpiry : Statement .settleTimerExpiry := of_event rfl rfl
theorem liftTimerExpiry : Statement .liftTimerExpiry := of_event rfl rfl
theorem touchdownTimerExpiry : Statement .touchdownTimerExpiry := of_event rfl rfl
theorem stowTimerExpiry : Statement .stowTimerExpiry := of_event rfl rfl
theorem jackJogTimerExpiry : Statement .jackJogTimerExpiry := of_event rfl rfl
theorem roomHallPulse (channel : Channel) : Statement (.roomHallPulse channel) := of_event rfl rfl
theorem roomTick (room : Room) (ampsA ampsB : Nat) : Statement (.roomTick room ampsA ampsB) := of_event rfl rfl
theorem roomBreakawayExpiry (room : Room) (late : Bool) : Statement (.roomBreakawayExpiry room late) := of_event rfl rfl
theorem roomStallWindowExpiry (room : Room) : Statement (.roomStallWindowExpiry room) := of_event rfl rfl
theorem roomJogTimerExpiry (room : Room) : Statement (.roomJogTimerExpiry room) := of_event rfl rfl
theorem roomCoastExpiry (channel : Channel) : Statement (.roomCoastExpiry channel) := of_event rfl rfl
theorem awningHallPulse : Statement .awningHallPulse := of_event rfl rfl
theorem awningTick (amps : Nat) : Statement (.awningTick amps) := of_event rfl rfl
theorem awningBreakawayExpiry : Statement .awningBreakawayExpiry := of_event rfl rfl
theorem awningStallWindowExpiry : Statement .awningStallWindowExpiry := of_event rfl rfl
theorem awningJogTimerExpiry : Statement .awningJogTimerExpiry := of_event rfl rfl
theorem awningCoastExpiry : Statement .awningCoastExpiry := of_event rfl rfl
theorem windPulse : Statement .windPulse := of_event rfl rfl
theorem windGateEnd : Statement .windGateEnd := of_event rfl rfl
theorem lockoutExpiry : Statement .lockoutExpiry := of_event rfl rfl
theorem inputSample (levels : Bank Level 24) : Statement (.inputSample levels) := of_event rfl rfl
theorem debounceExpiry (input : Input) : Statement (.debounceExpiry input) := of_event rfl rfl
theorem firstDebounceExpiry (input : Input) : Statement (.firstDebounceExpiry input) := of_event rfl rfl
theorem faultTimerExpiry (input : Input) : Statement (.faultTimerExpiry input) := of_event rfl rfl
theorem idleTimerExpiry : Statement .idleTimerExpiry := of_event rfl rfl
theorem parkPoll (levels : Bank Level 24) : Statement (.parkPoll levels) := of_event rfl rfl
theorem thermalSample (celsius : Int) : Statement (.thermalSample celsius) := of_event rfl rfl
theorem bridgeFaultSample (asserted : Bank Bool 10) : Statement (.bridgeFaultSample asserted) := of_event rfl rfl
theorem unknownKind (link : Link) (kind : Byte) (payload : List Byte) : Statement (.unknownKind link kind payload) := of_frame rfl (fun h => (Bool.and_eq_true_iff.mp h).1)

end Sys2Proof.Laws.Shape
end

