-- ==== Sys2Proof/Laws/Table.lean ====
section
/-! SUPPORT. What the Operation Table's own operations leave: the writing of an end, a hold, and what they mean
for the end of an event. -/

namespace Sys2Proof.Machine

/-! ### Rooms home, and staying undisturbed -/

/-- A room is IN exactly while its ROOM_IN input reads closed (R93). -/
theorem roomCondition_inside (s : State) (n : Room) : (s.roomCondition n == .inside) = s.shut (.roomIn n) := by
  unfold State.roomCondition
  by_cases h : s.shut (.roomIn n) = true
  · simp [h]
  · simp only [Bool.not_eq_true] at h
    simp only [h]
    split
    · rfl
    · simp only [Bool.false_eq_true, if_false]
      split <;> rfl

/-- Some room is out while some configured room's ROOM_IN input reads open. -/
theorem someRoomOut_eq (s : State) : s.someRoomOut = s.items.rooms.any (fun n => !s.shut (.roomIn n)) := by
  unfold State.someRoomOut
  simp only [roomCondition_inside]

/-- Being undisturbed follows from the items, the inputs and the groups that run. -/
theorem undisturbed_of {s t : State} (h : s.Undisturbed) (hi : t.ist = s.ist) (hn : t.inm.inputs = s.inm.inputs)
    (hr : ∀ sl, ∀ o ∈ t.opAt sl, o.state.isRunning = true →
      ∃ k, ∃ p ∈ s.opAt k, p.state.isRunning = true ∧ p.job.group = o.job.group) : t.Undisturbed := by
  have key : ∀ p : Group → Bool, s.runsOnly p → t.runsOnly p := by
    intro p hs sl o ho hrun
    obtain ⟨k, q, hq, hqr, hg⟩ := hr sl o ho hrun
    rw [← hg]; exact hs k q hq hqr
  have hsh : ∀ f, t.shut f = s.shut f := by
    intro f
    have keep : ∀ x : State, x.shut f
        = ({ State.reset with ist := x.ist, inm := { Inm.reset with inputs := x.inm.inputs } } : State).shut f :=
      fun _ => rfl
    rw [keep t, keep s, hi, hn]
  refine ⟨?_, ?_⟩
  · rcases h.edges with h | h
    · left; intro k; simpa [State.entryItem, State.items, hi] using h k
    · right; exact key _ h
  · rcases h.retract with h | h
    · left; rw [someRoomOut_eq] at h ⊢
      simpa [State.items, hi, hsh] using h
    · right; exact key _ h

/-- Being calm follows from the items, the inputs, the groups that run and no operation waiting. -/
theorem calm_of {s t : State} (h : s.Undisturbed) (hi : t.ist = s.ist) (hn : t.inm.inputs = s.inm.inputs)
    (hr : ∀ sl, ∀ o ∈ t.opAt sl, o.state.isRunning = true →
      ∃ k, ∃ p ∈ s.opAt k, p.state.isRunning = true ∧ p.job.group = o.job.group) (hw : t.noneWaiting) : t.Calm :=
  ⟨undisturbed_of h hi hn hr, hw⟩

/-- A calm state stays so where the table, the items and the inputs stay. -/
theorem calm_same {s t : State} (h : s.Calm) (ho : t.opt = s.opt) (hi : t.ist = s.ist)
    (hn : t.inm.inputs = s.inm.inputs) : t.Calm := by
  have hop : ∀ sl, t.opAt sl = s.opAt sl := fun sl => by simp [State.opAt, ho]
  refine calm_of h.toUndisturbed hi hn (fun sl o hm hr => ⟨sl, o, by rw [← hop]; exact hm, hr, rfl⟩) ?_
  intro sl o hm
  rw [hop] at hm
  exact h.waiting sl o hm

/-! ### Slots -/

@[simp] theorem opAt_setOp_self (s : State) (sl : Slot) (o : Op) : (s.setOp sl o).opAt sl = some o := by
  simp [State.opAt, State.setOp]

theorem opAt_setOp (s : State) (sl k : Slot) (o : Op) :
    (s.setOp sl o).opAt k = if sl = k then some o else s.opAt k := by
  simp [State.opAt, State.setOp, Bank.get_set]

theorem opAt_setOp_ne (s : State) {sl k : Slot} (o : Op) (h : k ≠ sl) : (s.setOp sl o).opAt k = s.opAt k := by
  rw [opAt_setOp, if_neg (Ne.symm h)]

/-- A record written twice in one slot is the last one. -/
theorem setOp_setOp_opt (s : State) (sl : Slot) (o p : Op) : ((s.setOp sl o).setOp sl p).opt = (s.setOp sl p).opt := by
  have : ((s.opt.slots.set sl (some o)).set sl (some p)) = s.opt.slots.set sl (some p) := by
    apply Bank.cells_inj; simp [Bank.set]
  simp [State.setOp, this]

/-! ### Claims and groups -/

/-- Settling the claims touches the claims map alone (R183). -/
theorem settleClaims_eq (s : State) :
    s.settleClaims = { s with liu := { s.liu with claims := s.settleClaims.liu.claims } } := by
  unfold State.settleClaims
  have key : ∀ (l : List Group) (u : State),
      l.foldl (fun s g => if s.claimOf g == .pending && !s.hostBusy g then s.setClaim g .claimed else s) u
        = { u with liu := { u.liu with claims :=
            (l.foldl (fun s g => if s.claimOf g == .pending && !s.hostBusy g then s.setClaim g .claimed else s) u).liu.claims } } := by
    intro l
    induction l with
    | nil => intro u; rfl
    | cons g l ih =>
      intro u
      simp only [List.foldl_cons]
      split
      · rw [ih]; rfl
      · exact ih u
  exact key groups s

theorem noteTag_told (c : ChangeSet) (tag : Nat) : (c.noteTag tag).cats = c.cats ||| Category.ops.bit := by
  unfold ChangeSet.noteTag
  dsimp only
  by_cases h : (c.raise .ops).tags.contains tag = true
  · rw [if_pos h]; rfl
  · rw [if_neg h]
    by_cases h2 : (c.raise .ops).tags.length < 8
    · rw [if_pos h2]; rfl
    · rw [if_neg h2]; rfl

/-- Forgetting a group's operation touches its controller alone. -/
theorem forgetGroup_frame (s : State) (g : Group) :
    s.forgetGroup g = { s with lvc := (s.forgetGroup g).lvc, sdc := (s.forgetGroup g).sdc, awu := (s.forgetGroup g).awu } := by
  cases g <;> rfl

theorem forgetGroup_levelled (s : State) (g : Group) : (s.forgetGroup g).lvc.levelled = s.lvc.levelled := by
  cases g <;> rfl

/-- A hold touches the group's controller alone. -/
theorem restGroup_frame (s : State) (g : Group) :
    s.restGroup g = { s with lvc := (s.restGroup g).lvc, sdc := (s.restGroup g).sdc, awu := (s.restGroup g).awu } := by
  cases g <;> rfl

theorem restGroup_levelled (s : State) (g : Group) : (s.restGroup g).lvc.levelled = s.lvc.levelled := by
  cases g <;> rfl

@[simp] theorem RoomUnit.rest_creeping (r : RoomUnit) : r.rest.creeping = r.creeping := rfl
@[simp] theorem RoomUnit.rest_blind (r : RoomUnit) : r.rest.blind = r.blind := rfl
@[simp] theorem RoomUnit.forget_creeping (r : RoomUnit) : r.forget.creeping = false := rfl
@[simp] theorem RoomUnit.forget_blind (r : RoomUnit) : r.forget.blind = false := rfl
@[simp] theorem AwningUnit.rest_creeping (a : AwningUnit) : a.rest.creeping = a.creeping := rfl
@[simp] theorem AwningUnit.forget_creeping (a : AwningUnit) : a.forget.creeping = false := rfl

/-- A release touches the sums and the order record alone. -/
theorem release_frame (s : State) (o : Op) :
    s.release o = { s with
      sta := { s.sta with
        resSum := if o.state.active then s.sta.resSum - o.reservation else s.sta.resSum
        normalSum := if o.state.active && o.opClass == .normal then s.sta.normalSum - o.reservation else s.sta.normalSum }
      clm := (s.release o).clm } := by
  unfold State.release
  by_cases ha : o.state.active = true
  · simp [ha]
  · simp [ha]

theorem release_entries (s : State) (o : Op) : (s.release o).clm.entries = s.clm.entries := by
  unfold State.release; split <;> rfl

/-- A state that `f` gives for every claims map written in is, settled, what `f` gives for one of them. -/
theorem settleClaims_of {u : State} {f : Bank Claim 6 → State}
    (h : ∀ c, { u with liu := { u.liu with claims := c } } = f c) : ∃ c, u.settleClaims = f c :=
  ⟨_, (settleClaims_eq u).trans (h _)⟩

/-- The whole of the writing of an end (R15): the record, the table's counters and list, the sums and the queue, the
order record, the group's controller, the tag, and the claims map settled. -/
theorem writeEnd_eq {s : State} {sl : Slot} {o : Op} (h : s.opAt sl = some o) (r : Result) (rem : Option Remaining) :
    ∃ claims, s.writeEnd sl r rem =
      { s with
        opt := { s.opt with
          slots := s.opt.slots.set sl (some { o with state := .ended r rem (s.opt.ends + 1), resumed := false })
          ends := s.opt.ends + 1, endedList := s.opt.endedList ++ [o.tag] }
        sta := { s.sta with
          queue := s.sta.queue.filter (fun q => q != sl)
          resSum := if o.state.active then s.sta.resSum - o.reservation else s.sta.resSum
          normalSum := if o.state.active && o.opClass == .normal then s.sta.normalSum - o.reservation
            else s.sta.normalSum }
        clm := (s.release o).clm
        lvc := { (s.forgetGroup o.job.group).lvc with
          levelled := s.lvc.levelled || (o.job.kind == .level && r == .complete) }
        sdc := (s.forgetGroup o.job.group).sdc
        awu := (s.forgetGroup o.job.group).awu
        ntu := (s.noteTag o.tag).ntu
        liu := { s.liu with claims := claims } } := by
  unfold State.writeEnd
  rw [h]
  dsimp only
  rw [release_frame]
  apply settleClaims_of
  intro c
  by_cases hk : (o.job.kind == OpKind.level && r == .complete) = true
  · rw [if_pos hk]
    cases hg : o.job.group <;> simp [State.unqueue, State.setOp, State.forgetGroup, State.noteTag, State.modSets,
      State.modRoom, State.modAwning, Lvc.standDown, hk]
  · rw [if_neg hk]
    simp only [Bool.not_eq_true] at hk
    cases hg : o.job.group <;> simp [State.unqueue, State.setOp, State.forgetGroup, State.noteTag, State.modSets,
      State.modRoom, State.modAwning, Lvc.standDown, Lvc.closeValves, hk]

/-- The whole of an entry to HELD (R16, R20): the record, the sums and the queue, the order record, the group's controller
at rest, the tag, and the claims map settled. -/
theorem moveHeld_eq {s : State} {sl : Slot} {o : Op} (h : s.opAt sl = some o) (r : HoldReason) :
    ∃ claims, s.moveHeld sl r =
      { s with
        opt := { s.opt with slots := s.opt.slots.set sl (some { o with state := .held r, resumed := false }) }
        sta := { s.sta with
          queue := s.sta.queue.filter (fun q => q != sl)
          resSum := if o.state.active then s.sta.resSum - o.reservation else s.sta.resSum
          normalSum := if o.state.active && o.opClass == .normal then s.sta.normalSum - o.reservation
            else s.sta.normalSum }
        clm := (s.release o).clm
        lvc := (s.restGroup o.job.group).lvc
        sdc := (s.restGroup o.job.group).sdc
        awu := (s.restGroup o.job.group).awu
        ntu := (s.noteTag o.tag).ntu
        liu := { s.liu with claims := claims } } := by
  unfold State.moveHeld
  rw [h]
  dsimp only
  rw [release_frame]
  apply settleClaims_of
  intro c
  cases hg : o.job.group <;> simp [State.unqueue, State.setOp, State.restGroup, State.noteTag, State.modSets,
    State.modRoom, State.modAwning]

end Sys2Proof.Machine
end

