-- ==== Sys2Proof/Tests/Slice0.lean ====
section
/-! SUPPORT. Tests: ill-formed commands are refused by the check, worked examples from the manual, and for each
statement with hypotheses a concrete state and operands that meet them, clause by clause. -/

namespace Sys2Proof.Tests

-- Each theorem evaluates whole states: one at a time, so that the memory they take stays small.
set_option Elab.async false

open Sys2Proof.Machine

/-! ### States to start from -/

/-- Every debounced input closed but the ignition's: brake set, E-stop normal, rooms home, jacks up, awning in. -/
def homeInputs : Bank InputUnit 24 :=
  (Bank.fill 24 { InputUnit.reset with debounced := some .closed, firstDone := true }).modify 1
    (fun u => { u with debounced := some .opened })

/-- A part that has started up with an image, at home, with a normal supply. -/
def ready : State :=
  { State.reset with
    now := 1000
    sta := { Sta.reset with filtered := some 125, supply := .normal }
    inm := { Inm.reset with
      notReady := false, inputs := homeInputs
      coach := { Coach.startUp with brake := .set, door := .closed, eStop := .normal, allStowed := true } }
    ist := { State.reset.ist with source := .image } }

/-- An operation of the coach link. -/
def job (k : OpKind) (g : Group) : Job :=
  { kind := k, group := g, sub := none, dir := none, value := none, origin := .link, bestEffort := false, override := false }

/-- A record of a job in a state. -/
def record (j : Job) (st : OpState) : Op :=
  { tag := 33, job := j, state := st, pass := 0, admission := 1, reservation := 25, resumed := false }

/-- The ready part with a record in the first slot. -/
def withOp (j : Job) (st : OpState) : State := ready.setOp 0 (record j st)

/-- The ready part with a record ADMITTED and alone in the queue. -/
def queued (j : Job) : State := { withOp j (.admitted .queue) with sta := { ready.sta with queue := [0] } }

/-- A room operation that runs in a phase. -/
def roomRun (k : OpKind) (ph : Phase) : State := withOp (job k (.room 0)) (.running (some ph))

/-- A JACKS operation that runs in a phase. -/
def jacksRun (k : OpKind) (ph : Phase) : State := withOp (job k .jacks) (.running (some ph))

/-- A motor that is driven outward, past its breakaway. -/
def outwardMotor : Motor := { Motor.reset with dir := some .outward, driven := true, applied := 850, tally := 2 }

/-- With no entry enabled, every room home and nothing waiting, a state is calm. -/
theorem calm_home {s : State} (h1 : ∀ k, (s.entryItem k).enabled = false) (h2 : s.someRoomOut = false)
    (h3 : s.noneWaiting) : s.Calm :=
  ⟨⟨Or.inl h1, Or.inl h2⟩, h3⟩

/-- With no entry enabled and every room home, a state is undisturbed. -/
theorem undisturbed_home {s : State} (h1 : ∀ k, (s.entryItem k).enabled = false) (h2 : s.someRoomOut = false) :
    s.Undisturbed := ⟨Or.inl h1, Or.inl h2⟩

theorem ready_calm : ready.Calm := calm_home (by decide +kernel) (by decide +kernel) (by decide +kernel)

/-! ### The check on commands refuses what is ill formed -/

theorem test_wellFormed_refuses_long_payload :
    (Instr.submit .coach (List.replicate 65 0)).wellFormed = false
    ∧ (Instr.submit .coach (List.replicate 64 0)).wellFormed = true := by decide +kernel

theorem test_wellFormed_refuses_known_kind :
    (Instr.unknownKind .coach 0x19#8 []).wellFormed = false ∧ (Instr.unknownKind .coach 0x1A#8 []).wellFormed = true
    ∧ (Instr.unknownKind .coach 0#8 (List.replicate 65 0)).wellFormed = false := by decide +kernel

/-! ### Worked examples -/

/-- R168: the check of the frame fields, here of the ASCII digits 1 to 9, the check value of its polynomial. -/
theorem test_check_word : crc16 [0x31#8, 0x32#8, 0x33#8, 0x34#8, 0x35#8, 0x36#8, 0x37#8, 0x38#8, 0x39#8] = 0x29B1#16 := by
  decide +kernel

/-- R35: the manual's eight samples give 118. -/
theorem test_supply_filter :
    (match exec (.supplySample 118) { ready with sta := { ready.sta with
        samples := [118, 118, 117, 119, 118, 116, 117], filtered := none } } with
      | .next t => t.sta.filtered
      | _ => none) = some 118 := by decide +kernel

/-- R46, the manual's window: pitch −121, roll 45. -/
theorem test_filtered_value :
    filterTilt [⟨-121, 44⟩, ⟨-119, 46⟩, ⟨-120, 45⟩, ⟨-122, 45⟩, ⟨-118, 47⟩, ⟨-121, 44⟩, ⟨-121, 43⟩, ⟨-122, 45⟩]
      = ⟨-121, 45⟩ ∧ rotate 90 (-45) (-122) = ⟨-122, 45⟩ := by decide +kernel

/-- The points of section 4.5, in micrometres, with the available stroke of LF. -/
def corners (lf : Nat) : List JackPoint :=
  [⟨0, -102887, lf⟩, ⟨1, -85608, 537⟩, ⟨4, 70948, 550⟩, ⟨5, 88226, 555⟩]

/-- Section 4.5: the four-jack pass, and the short stroke without and with BEST_EFFORT. -/
theorem test_solver_cases :
    solve 150 3 false (corners 533) = .lifts [(0, 150), (1, 136), (4, 13), (5, 0)] false
    ∧ solve 150 3 false (corners 115) = .short [0]
    ∧ solve 150 3 true (corners 115) = .lifts [(0, 115), (1, 136), (4, 13), (5, 0)] true := by decide +kernel

/-- Section 4.5, four and six jacks: the lifts of the attitude −120, +45 from the jacks' places. -/
theorem test_solver_from_attitude :
    (let put := fun (count : Nat) => ({ ready with ist := { ready.ist with items := { ready.items with jack :=
        { ready.items.jack with count := count } } } } : State)
     ((put 4).runSolver ⟨-120, 45⟩ false = .lifts [(0, 150), (1, 136), (4, 13), (5, 0)] false)
     ∧ ((put 6).runSolver ⟨-120, 45⟩ false
        = .lifts [(0, 150), (1, 136), (2, 51), (3, 37), (4, 13), (5, 0)] false)) := by decide +kernel

/-- R91: counts 612 and 598 of 1200 are positions 510 and 498; R105's middle. -/
theorem test_positions : permilleOf 612 1200 = 510 ∧ permilleOf 598 1200 = 498 ∧ permilleOf 1400 1200 = 1000 := by decide

/-- R128: two gates with speeds 91 and 84 have the average 88; R127: 13 pulses at 700 are 91. -/
theorem test_wind : (match exec .windGateEnd { ready with now := 2000, wind := { ready.wind with
        gateCount := 12, window := [91] } } with
      | .next t => some (t.wind.window, t.wind.lastSpeed, averageSpeed t.wind.window)
      | _ => none) = some ([91, 84], 84, some 88) ∧ gateSpeed 700 13 = 91 := by decide +kernel

/-- R44, R96: a sensor_rotation of 100 is taken as 90, a breakaway time of 700 as 500, a stall count of 0 as 1. -/
theorem test_fitted_values :
    ItemKey.rotation.domain.fit 100 = 90 ∧ (ItemKey.roomProfile 3).domain.fit 700 = 500
    ∧ (ItemKey.roomProfile 9).domain.fit 0 = 1 := by decide +kernel

/-- R195: an input_function number with a code beyond the table, an argument where none belongs, or bits above the
second byte names no function. -/
theorem test_function_numbers :
    Func.ofNumber 9 = Option.none ∧ Func.ofNumber 0x0102 = Option.none ∧ Func.ofNumber 0x10001 = Option.none
    ∧ Func.ofNumber 0x0506 = Option.none ∧ Func.ofNumber 0x0406 = some (.roomIn 3) ∧ Func.ofNumber 8 = some .awningIn := by
  decide +kernel

/-! ### Witnesses: states and operands that meet the hypotheses of the statements -/

/-- An empty queue with a timer due, and with none due. -/
theorem test_witness_stepOnEmptyQueue :
    ({ State.reset with now := 1000 } : State).pending = []
    ∧ ({ State.reset with now := 1000 } : State).dueCommand = some .windGateEnd
    ∧ State.reset.pending = [] ∧ State.reset.dueCommand = none := by decide +kernel

/-- A command that has a next state. -/
theorem test_witness_execKeeps : ∃ t, exec .windPulse ready = .next t := ⟨_, rfl⟩

/-- Both invariants hold at reset, and a step follows. -/
theorem test_witness_invariants :
    State.reset.pinsExact ∧ State.reset.onePerGroup ∧ (∃ t, step State.reset = .next t)
    ∧ (roomRun .roomOut .run).onePerGroup ∧ ∃ t, step (roomRun .roomOut .run) = .next t :=
  ⟨by decide +kernel, by decide +kernel, ⟨_, rfl⟩, by decide +kernel, ⟨_, rfl⟩⟩

/-- A part that runs a ROOM_OUT, its reservation in both sums. -/
def moving : State :=
  let s := (roomRun .roomOut .run).modRoom 0 (fun r => { r with a := outwardMotor, demanded := 850, ramped := 850 })
  { s with sta := { s.sta with resSum := 25, normalSum := 25 } }

/-- The waiting queue read: every entry in ADMITTED, the head under the first test it fails, QUEUE behind, where each entry
is a NORMAL one. -/
def queueRight (s : State) : Bool :=
  (s.sta.queue.drop 1).all (fun sl => (s.opAt sl).any (fun o => o.opClass == .normal))
  && match s.sta.queue with
    | [] => true
    | sl :: behind =>
      (s.opAt sl).any (fun o => match o.state with
        | .admitted w => decide (s.blockedBy o = some w)
        | _ => false)
      && behind.all (fun k => (s.opAt k).any (fun o => decide (o.state = .admitted .queue)))

theorem headWaits_of {s : State} (h : queueRight s = true) : s.headWaits := by
  intro sl behind hq
  simp only [queueRight, hq, Bool.and_eq_true, List.all_eq_true, Option.any_eq_true] at h
  obtain ⟨-, ⟨o, ho, hs⟩, hrest⟩ := h
  constructor
  · cases hw : o.state with
    | admitted w => exact ⟨o, w, ho, hw, by simpa [hw] using hs⟩
    | _ => simp [hw] at hs
  · intro k hk
    obtain ⟨p, hp, hps⟩ := hrest k hk
    exact ⟨p, hp, by simpa using hps⟩

/-- With no record ended, no group claimed and no SAFETY operation waiting behind the head, the books agree where what can be
read off the state does. -/
theorem books_of {s : State}
    (h : (∀ sl k, ∀ o ∈ s.opAt sl, ∀ p ∈ s.opAt k, o.tag = p.tag → sl = k) ∧ s.opt.internalTag = 240
      ∧ (s.opt.endedList = [] ∧ ∀ sl, ∀ o ∈ s.opAt sl, o.state.isEnded = false) ∧ s.onePerGroup ∧ s.normalCount ≤ 3
      ∧ (∀ sl, ∀ o ∈ s.opAt sl, o.job.kind.fits o.job.group = true))
    (sums : s.sta.resSum = s.reserved (fun _ => true) ∧ s.sta.normalSum = s.reserved (fun o => o.opClass == .normal)
      ∧ s.sta.resSum ≤ s.items.supply.budgetLimit ∧ s.sta.normalSum ≤ s.items.normalBudget)
    (queue : s.sta.queue.Nodup ∧ (∀ sl, sl ∈ s.sta.queue ↔ (s.opAt sl).any (fun o => o.state.isAdmitted) = true)
      ∧ queueRight s = true ∧ (s.jacksMoving && s.roomMoving) = false)
    (free : (∀ i, s.liu.claims.get i = .free) ∧ (s.link .coach).buffer = [] ∧ (s.link .service).buffer = []) : s.Books := by
  obtain ⟨tags, counter, ⟨list, live⟩, groups, normal, kinds⟩ := h
  obtain ⟨sum, normalSum, budget, normalBudget⟩ := sums
  obtain ⟨nodup, mem, right, frame⟩ := queue
  refine ⟨tags, by omega, ⟨by rw [list]; exact .nil, fun x => ?_⟩, groups, normal, kinds, ⟨sum, normalSum⟩,
    ⟨budget, normalBudget⟩, ⟨nodup, fun sl => ?_⟩, ?_, headWaits_of right, frame, fun g => ?_, fun l => ?_⟩
  · rw [list]
    refine ⟨fun hx => absurd hx List.not_mem_nil, fun ⟨sl, o, ho, he, _⟩ => ?_⟩
    rw [live sl o ho] at he
    exact absurd he (by decide)
  · rw [mem sl, Option.any_eq_true]
  · have behind : ∀ y ∈ s.sta.queue.drop 1, ∀ p ∈ s.opAt y, p.opClass = .normal := by
      simp only [queueRight, Bool.and_eq_true, List.all_eq_true, Option.any_eq_true] at right
      intro y hy p hp
      obtain ⟨q, hq, hn⟩ := right.1 y hy
      rw [hp] at hq
      obtain rfl := Option.some.inj hq
      exact eq_of_beq hn
    cases hq : s.sta.queue with
    | nil => exact .nil
    | cons sl rest =>
      rw [hq, List.drop_succ_cons, List.drop_zero] at behind
      refine List.pairwise_cons.mpr ⟨fun y hy o p _ hp hs => ?_, ?_⟩
      · exact absurd ((behind y hy p hp).symm.trans hs) (by decide)
      · refine List.Pairwise.imp_of_mem (R := fun _ _ => True) (fun _ hy _ o p _ hp hs => ?_)
          (List.pairwise_of_forall (fun _ _ => trivial))
        exact absurd ((behind _ hy p hp).symm.trans hs) (by decide)
  · have hf : s.claimOf g = .free := free.1 g.idx
    exact ⟨fun hc => (by rw [hf] at hc; exact absurd hc (by decide)), fun hc => (by rw [hf] at hc; exact absurd hc (by decide))⟩
  · cases l
    · rw [free.2.1]; exact ⟨by decide, fun _ => rfl⟩
    · rw [free.2.2]; exact ⟨by decide, fun _ => rfl⟩

/-- A part in motion whose GROUND waits, stopped by the frame rule. -/
def frameWaits : State :=
  let s := moving.setOp 1 { record (job .ground .jacks) (.admitted .frame) with tag := 34 }
  { s with sta := { s.sta with queue := [1] } }

/-- The same with a ROOM_IN of the other room behind the GROUND. -/
def waiting : State :=
  let s := frameWaits.setOp 2 { record (job .roomIn (.room 1)) (.admitted .queue) with tag := 35 }
  { s with sta := { s.sta with queue := [1, 2] } }

/-- The books of a part in motion agree, with no operation waiting and with two. -/
theorem test_witness_books : (moving.Books ∧ ∃ t, step moving = .next t) ∧ waiting.Books ∧ ∃ t, step waiting = .next t :=
  ⟨⟨books_of (by decide +kernel) (by decide +kernel) (by decide +kernel) (by decide +kernel), _, rfl⟩,
    books_of (by decide +kernel) (by decide +kernel) (by decide +kernel) (by decide +kernel), _, rfl⟩

/-- The interlocks hold of a part in motion. -/
theorem test_witness_guarded : moving.Guarded := by
  have coasts : moving.awu.motor.driven = false := rfl
  have ready' : moving.inm.notReady = false := rfl
  have idle : moving.inm.idleTimer = none := rfl
  have parked' : moving.inm.parked = false := rfl
  refine ⟨fun n m => ?_, fun h => ?_, by decide +kernel, by decide +kernel, by decide +kernel, fun j h => ?_, fun h => ?_,
    fun g h => ?_, by decide +kernel,
    fun h => absurd h (by decide +kernel), fun h => ?_, by decide +kernel, fun h => ?_, fun h => ?_⟩
  · cases m <;> revert n <;> decide +kernel
  · rw [coasts] at h; exact absurd h (by decide)
  · have off : ∀ j, (moving.jack j).retracting = false := by decide +kernel
    rw [off j] at h; exact absurd h (by decide)
  · rw [coasts] at h; exact absurd h (by decide)
  · have clear : moving.clm.ordered.get g.idx = false := by
      cases g with
      | room n => revert n; decide +kernel
      | jacks => decide +kernel
      | awning => decide +kernel
    rw [clear] at h; exact absurd h (by decide)
  · rw [ready'] at h; exact absurd h (by decide)
  · rw [idle] at h; exact absurd h (by decide)
  · rw [parked'] at h; exact absurd h (by decide)

/-- The longest payload, and the longest reply; R167: the bytes of an empty STATUS frame around its check word. -/
theorem test_witness_frameRoundTrip :
    (List.replicate 64 (0xA5#8 : Byte)).length ≤ 64 ∧ (⟨0x82#8, 0, 0, List.replicate 62 0, .nothing⟩ : Reply).data.length ≤ 62
    ∧ (frameBytes 0x02#8 []).take 3 = [0xC3#8, 0x00#8, 0x02#8] := by decide +kernel

/-- A state with an assembler at work on the coach link. -/
def receiving (a : Assembler) : State := ready.modLink .coach (fun u => { u with assembler := a, gap := some 1020 })

theorem test_witness_brokenFrames :
    BitVec.ofNat 16 (num16 0#8 0#8) ≠ frameCheck (BitVec.ofNat 8 ([] : List Byte).length) 0x02#8 []
    ∧ 64 < (65#8 : Byte).toNat
    ∧ ((receiving .len).link .coach).gap.isSome = true
    ∧ (receiving .len).inm.parked = false ∧ ((receiving .len).link .coach).assembler.step 65#8 = .discarded := by
  decide +kernel

theorem test_witness_receiveByte :
    (receiving .hunt).inm.parked = false ∧ ((receiving .hunt).link .coach).assembler = .hunt
    ∧ ((receiving .len).link .coach).assembler = .len ∧ (64#8 : Byte).toNat ≤ 64
    ∧ ((receiving (.kind 0)).link .coach).assembler = .kind 0#8
    ∧ ((receiving (.payload 1 2 [])).link .coach).assembler = .payload 1#8 2#8 []
    ∧ ((receiving (.crc 0 2 [] none)).link .coach).assembler = .crc 0#8 2#8 [] none := by decide +kernel

/-- The low check byte of an empty STATUS frame. -/
def statusLow : Byte := BitVec.ofNat 8 (frameCheck 0 2 []).toNat

/-- The high check byte of an empty STATUS frame. -/
def statusHigh : Byte := BitVec.ofNat 8 ((frameCheck 0 2 []).toNat / 256)

/-- A store of a link in progress, with the last check byte of a STATUS due on that link. -/
def storing (l : Link) : State :=
  ({ ready with ist := { ready.ist with storing := some l } } : State).modLink l
    (fun u => { u with assembler := .crc 0 2 [] (some statusLow) })

theorem storing_calm (l : Link) : (storing l).Calm := by
  cases l <;> exact calm_home (by decide +kernel) (by decide +kernel) (by decide +kernel)

theorem test_witness_frameWaitsDuringStore :
    (∀ l, (storing l).inm.parked = false ∧ (storing l).Calm)
    ∧ BitVec.ofNat 16 (num16 statusLow statusHigh) = frameCheck 0 2 []
    ∧ ((storing .coach).link .coach).assembler = .crc 0 2 [] (some statusLow)
    ∧ (storing .coach).ist.storing = some .coach ∧ (storing .coach).liu.coach.buffer.length < 2
    ∧ (storing .coach).liu.service.buffer = [] ∧ (storing .coach).items.linkWatchdog ≠ 0
    ∧ ((storing .service).link .service).assembler = .crc 0 2 [] (some statusLow)
    ∧ (storing .service).ist.storing = some .service ∧ (storing .service).liu.service.buffer.length < 2
    ∧ (storing .service).liu.coach.buffer = [] ∧ (storing .service).liu.connected = false := by
  refine ⟨fun l => ⟨?_, storing_calm l⟩, ?_⟩
  · cases l <;> decide +kernel
  · decide +kernel

/-- Both links take frames, and do so after start-up and before. -/
theorem test_witness_takes : (∀ l, ready.takes l) ∧ ∀ l, State.reset.takes l := by
  constructor <;> intro l <;> cases l <;> decide +kernel

theorem test_witness_selectiveReads :
    (roomRun .roomOut .run).takes .coach
    ∧ (roomRun .roomOut .run).slotOfTag (33#8 : Byte).toNat = some 0
    ∧ (roomRun .roomOut .run).opAt 0 = some (record (job .roomOut (.room 0)) (.running (some .run)))
    ∧ ready.slotOfTag (33#8 : Byte).toNat = none
    ∧ (2#8 : Byte).toNat ≤ 2 ∧ (3#8 : Byte).toNat ≤ 3 ∧ 3 < (4#8 : Byte).toNat ∧ 7 < (8#8 : Byte).toNat
    ∧ ((6#8 : Byte).toNat ≤ 7 ∧ sectionGroup (6#8 : Byte).toNat = none)
    ∧ (sectionGroup (1#8 : Byte).toNat = some (.room 0) ∧ ready.items.configured (.room 0) = true)
    ∧ (sectionGroup (4#8 : Byte).toNat = some (.room 3) ∧ ready.items.configured (.room 3) = false)
    ∧ (ItemKey.ofNumber (num16 0#8 0#8) (0#8 : Byte).toNat).isNone = true
    ∧ ((List.range 300).any (fun n => (ItemKey.ofNumber n 0).isSome)) = true := by decide +kernel

theorem test_witness_requests :
    ready.takes .coach ∧ ready.takes .service ∧ ([0#8] : List Byte).length ≠ 0 ∧ ([] : List Byte).length ≠ 1
    ∧ ([0#8] : List Byte).length ≠ 2 ∧ ([0#8] : List Byte).length ≠ 3 ∧ ([0#8] : List Byte).length ≠ 11
    ∧ ([0#8, 0#8] : List Byte).length < 3
    ∧ (ItemKey.ofNumber (num16 10#8 0#8) (0#8 : Byte).toNat = some .vAdmit ∧ ItemKey.vAdmit.domain ≠ .record
        ∧ ([0#8] : List Byte).length ≠ 4)
    ∧ (∃ n : Byte, ItemKey.ofNumber (num16 n 0#8) (1#8 : Byte).toNat = some (.clearance 0)
        ∧ (ItemKey.clearance 0).domain = .record ∧ ([0#8] : List Byte).length ≠ 16)
    ∧ ItemKey.ofNumber (num16 0#8 0#8) (0#8 : Byte).toNat = none
    ∧ (0x0F#8, Instr.readWind .coach []) ∈ requestRows .coach [] := by
  refine ⟨?_, ?_, ?_, ?_, ?_, ?_, ?_, ?_, ?_, ⟨120#8, ?_⟩, ?_, ?_⟩ <;> decide +kernel

theorem test_witness_heldFrame :
    (storing .coach).inm.parked = false ∧ (storing .coach).mayTake .coach = false
    ∧ ((storing .coach).link .coach).buffer.length < 2
    ∧ (let full := (storing .coach).modLink .coach (fun u => { u with buffer := [⟨1, []⟩, ⟨1, []⟩] })
       full.inm.parked = false ∧ full.mayTake .coach = false ∧ 2 ≤ (full.link .coach).buffer.length) := by
  decide +kernel

theorem test_witness_noticeMask : ready.takes .service ∧ (7#8 : Byte).toNat ≤ 7 ∧ 7 < (8#8 : Byte).toNat := by
  decide +kernel

theorem test_witness_items :
    (ItemKey.vAdmit.domain ≠ .record ∧ ItemKey.vAdmit.domain.holds 118 = true)
    ∧ ((ItemKey.function 0).domain ≠ .record ∧ (ItemKey.function 0).domain.holds 2 = true
        ∧ (Func.ofNumber 2).isSome = true)
    ∧ ItemKey.vAdmit ≠ .faultAction := by decide +kernel

/-- v_admit, whose number and index the item table gives. -/
theorem test_witness_setItem :
    ∃ n0 n1 : Byte, ItemKey.ofNumber (num16 n0 n1) 0 = some .vAdmit ∧ ready.takes .coach ∧ ready.ist.storing = none
      ∧ ItemKey.vAdmit.plain = true ∧ ready.itemGroupActive ItemKey.vAdmit.group = false
      ∧ ready.itemRefusal .vAdmit (int32 118 0 0 0) = none
      ∧ ready.items.put .vAdmit (ItemKey.vAdmit.domain.fit (int32 118 0 0 0)) = ready.items
      ∧ ready.items.put .vAdmit (ItemKey.vAdmit.domain.fit (int32 119 0 0 0)) ≠ ready.items
      ∧ (ready.setItems (ready.items.put .vAdmit (ItemKey.vAdmit.domain.fit (int32 119 0 0 0)))).Calm := by
  refine ⟨10#8, 0#8, ?_, ?_, ?_, ?_, ?_, ?_, ?_, ?_, calm_home ?_ ?_ ?_⟩ <;> decide +kernel

/-- The refusals of SET_ITEM: no such item, a store in progress, and room_count while a room operation runs. -/
theorem test_witness_setItem_refusals :
    ItemKey.ofNumber (num16 0#8 0#8) (0#8 : Byte).toNat = none
    ∧ ((storing .service).takes .coach ∧ (storing .service).ist.storing.isSome = true)
    ∧ ItemKey.ofNumber (num16 50#8 0#8) (0#8 : Byte).toNat = some .roomCount ∧ ItemKey.roomCount.domain ≠ .record
    ∧ (roomRun .roomOut .run).takes .coach ∧ (roomRun .roomOut .run).ist.storing = none
    ∧ (roomRun .roomOut .run).itemRefusal .roomCount (int32 1 0 0 0) = none
    ∧ (roomRun .roomOut .run).itemGroupActive ItemKey.roomCount.group = true := by decide +kernel

/-- The fit at the ends of each kind of domain. -/
theorem test_witness_fit :
    (ItemKey.rotation.domain = .floorSet [0, 90, 180, 270] ∧ (∃ m ∈ ([0, 90, 180, 270] : List Int), m ≤ 0)
        ∧ (∀ m ∈ ([0, 90, 180, 270] : List Int), -1 < m))
    ∧ ItemKey.jackCount.domain = .jackCount ∧ ItemKey.linkWatchdog.domain = .watchdog
    ∧ (∃ lo hi, ItemKey.vAdmit.domain = .range lo hi ∧ lo - 1 < lo ∧ hi < hi + 1) := by
  refine ⟨by decide +kernel, by decide +kernel, by decide +kernel, _, _, rfl, by decide +kernel, by decide +kernel⟩

/-- An item of each kind whose taking does more than keep the value, with a value that changes it. -/
theorem test_witness_setItem_effects :
    ∀ p ∈ ([(.rotation, 90), (.refPitch, 100), (.refRoll, -100), (.jackCount, 6), (.roomCount, 1), (.roomTravel 0, 50),
        (.awningTravel, 100), (.function 20, 1), (.invert 3, 1), (.autoPark, 0), (.linkWatchdog, 2)] : List (ItemKey × Int)),
      ready.itemRefusal p.1 p.2 = none ∧ ready.itemGroupActive p.1.group = false
      ∧ ready.items.put p.1 (p.1.domain.fit p.2) ≠ ready.items := by decide +kernel

/-- link_watchdog at the value it holds, from the service link, while the watchdog timer runs. -/
def watched : State := { ready with liu := { ready.liu with watchdog := some 5000 } }

theorem test_witness_setItem_held :
    (ItemKey.ofNumber (num16 130#8 0#8) (0#8 : Byte).toNat = some .linkWatchdog ∧ ItemKey.linkWatchdog.domain ≠ .record)
    ∧ watched.takes .service ∧ watched.ist.storing = none ∧ watched.itemRefusal .linkWatchdog (int32 10 0 0 0) = none
    ∧ watched.itemGroupActive ItemKey.linkWatchdog.group = false
    ∧ watched.items.put .linkWatchdog (ItemKey.linkWatchdog.domain.fit (int32 10 0 0 0)) = watched.items := by decide +kernel

/-- The refusals of an item's own: slide_fault_action above 2, and a function that another input holds. -/
theorem test_witness_setItem_conflict :
    (2 : Int) < 3 ∧ Func.ofNumber 2 = some .parkBrake ∧ (5 : Input) ≠ 0 ∧ ready.funcOf 0 = .parkBrake := by decide +kernel

/-- R178: the record of a clearance entry by its columns, read and written: a GROUP condition with ROOM1, the action in
byte 7, the condition group in byte 8. -/
theorem test_clearance_record_layout :
    ((RawEntry.read [1, 5, 100, 0, 0xE8, 3, 0, 1, 1, 0, 0, 0xF4, 1, 3, 0, 0]).isSome = true)
    ∧ (⟨true, .awning, 100, 1000, .group (.room 0) 0 500, .detect⟩ : ClearEntry).write.take 13
        = [1, 5, 100, 0, 0xE8, 3, 0, 1, 1, 0, 0, 0xF4, 1] := by decide +kernel

/-- A clearance entry on the ready part, at the ends of its ranges. -/
theorem test_witness_setItem_entry :
    ready.takes .coach ∧ ready.ist.storing = none ∧ Group.ofCode 5#8 = some .awning ∧ Group.ofCode 1#8 = some (.room 0)
    ∧ (∃ f, Func.ofCode 3 0 = some f ∧ f ≠ .none ∧ f ≠ .generic) ∧ Func.ofCode 0 0 = some .none
    ∧ ready.anyNonEnded = false ∧ moving.anyNonEnded = true
    ∧ (⟨true, .awning, 0, 0, .group (.room 0) 0 1000, .protect⟩ : ClearEntry) ≠ ready.items.clearance.get 0 := by
  refine ⟨?_, ?_, ?_, ?_, ⟨_, rfl, ?_⟩, ?_, ?_, ?_, ?_⟩ <;> decide +kernel

/-- A store begins on the ready part, and ends with no frame waiting. -/
theorem test_witness_store :
    (ready.takes .coach ∧ ready.ist.storing = none ∧ ready.Calm)
    ∧ ((storing .service).takes .coach ∧ (storing .service).ist.storing.isSome = true)
    ∧ ((storing .coach).Calm ∧ (storing .coach).liu.coach.buffer = [] ∧ (storing .coach).liu.service.buffer = []
        ∧ (storing .coach).ist.storing = some .coach)
    ∧ ∃ found : Image, found.check = 1 ∧ found ≠ (storing .coach).items.image :=
  ⟨⟨by decide +kernel, by decide +kernel, ready_calm⟩, by decide +kernel,
    ⟨storing_calm _, by decide +kernel, by decide +kernel, by decide +kernel⟩,
    ⟨[], 1⟩, rfl, fun h => by
      have := congrArg (fun i => i.bytes.length) h
      revert this; decide +kernel⟩

/-- A part with a filtered attitude. -/
def tilted (p r : Int) : State := { ready with atu := { ready.atu with filtered := some ⟨p, r⟩ } }

theorem tilted_calm (p r : Int) : (tilted p r).Calm := by
  refine calm_home ?_ ?_ ?_
  · intro k; revert k; exact (by decide +kernel : ∀ k, (ready.entryItem k).enabled = false)
  · exact (by decide +kernel : ready.someRoomOut = false)
  · exact (by decide +kernel : ready.noneWaiting)

theorem test_witness_setReference :
    ((storing .service).takes .coach ∧ (storing .service).ist.storing.isSome = true)
    ∧ (ready.ist.storing = none ∧ ready.atu.filtered = none)
    ∧ (let s : State := { roomRun .roomOut .run with atu := (tilted 1 1).atu }
       s.takes .coach ∧ s.atu.filtered = some ⟨1, 1⟩ ∧ (s.jacksMoving || s.roomMoving) = true)
    ∧ ((tilted 501 0).atu.filtered = some ⟨501, 0⟩ ∧ (501 : Int).natAbs > 500)
    ∧ ((tilted 500 (-500)).takes .coach ∧ (tilted 500 (-500)).ist.storing = none
        ∧ ((tilted 500 (-500)).jacksMoving || (tilted 500 (-500)).roomMoving) = false
        ∧ (500 : Int).natAbs ≤ 500 ∧ (-500 : Int).natAbs ≤ 500) ∧ (tilted 500 (-500)).Calm :=
  ⟨by decide +kernel, by decide +kernel, by decide +kernel, by decide +kernel, by decide +kernel, tilted_calm _ _⟩

/-- A reset without and during a store; a table in range, an image with a wrong check word, which no table makes. -/
theorem test_witness_reset :
    (ready.ist.storing = none ∧ (storing .service).ist.storing = some .service)
    ∧ Items.default.InRange
    ∧ (let m : Image := { bytes := [], check := 0 }
       crc16 m.bytes ≠ m.check ∧ ∀ t : Items, t.InRange → t.image ≠ m) := by
  have wrong : crc16 [] ≠ (0 : Word) := by decide
  have conds : ∀ k, (Items.default.clearance.get k).cond = .input .door .opened := by decide
  refine ⟨by decide +kernel, ⟨by decide +kernel, by decide, by decide, ?_, ?_⟩, wrong, ?_⟩
  · intro k g lo hi h; rw [conds] at h; cases h
  · intro k f st h; rw [conds] at h; cases h; decide
  · intro t _ h
    obtain ⟨hb, hc⟩ := Image.mk.inj h
    exact wrong (by rw [← hb, ← hc])

theorem load_of_unread (t : Items) (h : Items.readImage itemOrder Items.default t.imageBytes = none) :
    t.image.check = crc16 t.image.bytes ∧ loadImage t.image = (Items.default, .defaulted) := by
  simp [loadImage, Items.image, h]

/-- R197: an item at a value outside its range, in an image with a matching check word, gives every default. -/
theorem test_load_out_of_range :
    (let t := { Items.default with supply := { Items.default.supply with staggerTime := 2001 } }
     t.image.check = crc16 t.image.bytes ∧ loadImage t.image = (Items.default, .defaulted)) :=
  load_of_unread _ (by decide +kernel)

/-- The payload of a SUBMIT without presence fields. -/
def asks (tag kind group : Byte) : List Byte := [tag, kind, group, 0, 0, 0, 0, 0, 0, 0, 0]

/-- The part with a room out: its IN switch reads open and its position is known. -/
def roomAway (s : State) : State :=
  (s.modInput 4 (fun u => { u with debounced := some .opened })).modRoom 0
    (fun r => { r with referenced := true, a := { r.a with count := 600 } })

/-- The part with its awning out at 1200 of 2400. -/
def awningAway (s : State) : State :=
  { s.modInput 10 (fun u => { u with debounced := some .opened }) with
    awu := { s.awu with referenced := true, motor := { s.awu.motor with count := 1200 } } }

/-- ROOM1 and the awning referenced at 1300 counts, each the subject of an entry that last judged them at 400. -/
def beyond : State :=
  let s := (roomAway (awningAway ready)).modRoom 0 (fun r => { r with a := { r.a with count := 1300 } })
  let e := fun (g : Group) => ({ enabled := true, subject := g, lo := 500, hi := 700, cond := .input .door .closed
                                 action := .detect } : ClearEntry)
  { s with
    awu := { s.awu with motor := { s.awu.motor with count := 1300 } }
    ist := { s.ist with items := { s.items with clearance := (s.items.clearance.set 0 (e (.room 0))).set 1 (e .awning) } }
    clm := { s.clm with entries := (s.clm.entries.set 0 ⟨true, false, some 400, none⟩).set 1 ⟨true, false, some 400, none⟩ } }

/-- R158: a travel that lowers a count has the monitor judge the change, at 1000; one 200 below the count or more leaves
the last judged position. -/
theorem test_lowered_travel_is_judged :
    (∀ p ∈ ([(52, 1, 1099, some 1000), (52, 1, 1100, some 400), (81, 0, 1099, some 1000), (81, 0, 1100, some 400)]
        : List (Nat × Nat × Nat × Option Nat)),
      (match exec (.setItem .coach [BitVec.ofNat 8 p.1, 0, BitVec.ofNat 8 p.2.1, BitVec.ofNat 8 p.2.2.1,
          BitVec.ofNat 8 (p.2.2.1 / 256), 0, 0]) beyond with
        | .next t => (t.entryUnit (if p.1 = 52 then 0 else 1)).lastA
        | _ => none) = p.2.2.2)
    ∧ (beyond.takes .coach ∧ beyond.ist.storing = none
        ∧ ItemKey.ofNumber (num16 52#8 0#8) (1#8 : Byte).toNat = some (.roomTravel 0)
        ∧ ItemKey.ofNumber (num16 81#8 0#8) (0#8 : Byte).toNat = some .awningTravel
        ∧ beyond.itemRefusal (.roomTravel 0) 1099 = none ∧ beyond.itemGroupActive (.room 0) = false
        ∧ beyond.items.put (.roomTravel 0) 1099 ≠ beyond.items ∧ beyond.items.put .awningTravel 1099 ≠ beyond.items) := by
  decide +kernel

/-- SUBMIT's tests, step by step, each with a state in which it is the first to fail. -/
theorem test_witness_submitTests :
    (∃ q, Submit.read (asks 1 0 0) = some q ∧ State.reset.takes .coach ∧ State.reset.inm.notReady = true)
    ∧ (∃ q, Submit.read (asks 1 9 0) = some q ∧ ready.takes .coach ∧ ready.inm.notReady = false ∧ 8 < q.kind.toNat)
    ∧ (∃ q, Submit.read (asks 1 8 6) = some q ∧ q.kind.toNat ≤ 8 ∧ 5 < q.group.toNat)
    ∧ (∃ q, Submit.read (asks 1 1 0) = some q ∧ ready.readJob .coach q = .ok (job .ground .jacks) ∧ ready.step3 = none
        ∧ ready.claimed .jacks = false ∧ ready.step4 .link .jacks = none ∧ ready.slotOfTag q.tag.toNat = none
        ∧ ready.busySlot .jacks = none ∧ ready.normalCount < 3 ∧ ready.step8 (job .ground .jacks) = none
        ∧ ready.step9 (job .ground .jacks) = none ∧ ready.targetBarred (job .ground .jacks) = false) := by
  refine ⟨⟨_, rfl, ?_⟩, ⟨_, rfl, ?_⟩, ⟨_, rfl, ?_⟩, ⟨_, rfl, ?_⟩⟩ <;> decide +kernel

/-- The later refusals: defaulted items, a claimed group, a tag or a group in use, three operations, the interlocks, a
step 9 test, and a budget too small. -/
theorem test_witness_submitRefusals :
    (let s : State := { ready with ist := { ready.ist with source := .defaulted } }
     s.inm.notReady = false ∧ s.ist.source = .defaulted)
    ∧ (ready.setClaim .jacks .claimed).claimed .jacks = true
    ∧ ((roomRun .roomOut .run).slotOfTag 33).isSome = true ∧ ((roomRun .roomOut .run).busySlot (.room 0)).isSome = true
    ∧ 3 ≤ (((roomRun .roomOut .run).setOp 1 (record (job .roomIn (.room 1)) (.held .linkSilent))).setOp 2
        (record (job .awningSet .awning) (.held .supplyLow))).normalCount
    ∧ (({ ready.inm.coach with eStop := .stop } : Coach).eStop = .stop ∧ ready.inm.coach.brake = .set)
    ∧ ready.deploying (job .level .jacks) = true ∧ ready.items.room.withIgnition = false
    ∧ ready.step9 (job .level .jacks) = some .attitude
    ∧ (let s : State := { ready with ist := { ready.ist with items := { ready.items with supply :=
          { ready.items.supply with budgetLimit := 60 } } } }
       s.items.normalBudget < s.items.reservation (job .ground .jacks) ∧ s.step9 (job .ground .jacks) = none) := by
  decide +kernel

/-- The tests of step 2, each with a payload that is the first to fail it, and a JACK_JOG that passes. -/
theorem test_witness_submitFields :
    (OpKind.jackJog.code = 3 ∧ Group.jacks.code = 0 ∧ (Group.room 3).code = 4 ∧ OpKind.roomJog.code = 6)
    ∧ (∀ p ∈ ([([1, 1, 1, 0, 0, 0, 0, 0, 0, 0, 0], Refuse.badKind), ([1, 3, 0, 0, 0, 1, 0, 0, 0, 0, 0], .badKind),
          ([1, 3, 0, 2, 1, 1, 0, 0, 0, 0, 0], .badRange), ([1, 3, 0, 1, 0, 1, 0, 0, 0, 0, 0], .badRange),
          ([1, 3, 0, 1, 7, 1, 0, 0, 0, 0, 0], .badRange), ([1, 3, 0, 1, 1, 0, 0, 0, 0, 0, 0], .badKind),
          ([1, 3, 0, 1, 1, 1, 2, 0, 0, 0, 0], .badRange), ([1, 7, 5, 0, 0, 0, 0, 0, 0, 0, 0], .badKind),
          ([1, 0, 0, 0, 0, 0, 0, 2, 0, 0, 0], .badRange), ([1, 4, 4, 0, 0, 0, 0, 0, 0, 0, 0], .badGroup),
          ([1, 3, 0, 1, 3, 1, 0, 0, 0, 0, 0], .badGroup), ([0, 1, 0, 0, 0, 0, 0, 0, 0, 0, 0], .badRange),
          ([240, 1, 0, 0, 0, 0, 0, 0, 0, 0, 0], .badRange)] : List (List Byte × Refuse)),
        (Submit.read p.1).map (ready.readJob .coach) = some (.error p.2))
    ∧ (Submit.read [239, 3, 0, 1, 1, 1, 1, 1, 0x10, 0x27, 0]).map (ready.readJob .service)
        = some (.ok { job .jackJog .jacks with sub := some 0, dir := some .inward, value := some 5000, origin := .service })
    ∧ (let s : State := { ready with ist := { ready.ist with items := { ready.items with inp := { ready.items.inp with
          function := ready.items.inp.function.set 3 .none } } } }
       ∀ i, s.funcOf i ≠ .eStop) := by decide +kernel

/-- Step 9 by kind, a job for each refusal and one that passes; and a target inside a PROTECT range. -/
theorem test_witness_submitPreconditions :
    (tilted 0 0).atu.filtered.isSome = true
    ∧ (ready.step9 (job .level .jacks) = some .attitude ∧ (tilted 900 0).step9 (job .level .jacks) = some .tooSteep
        ∧ (tilted 0 0).step9 (job .level .jacks) = none)
    ∧ (let s := ready.modJack 0 (fun u => { u with sensorFault := true })
       s.step9 (job .ground .jacks) = some .jackSensor
       ∧ s.step9 { job .jackJog .jacks with dir := some .outward, sub := some 0 } = some .jackSensor)
    ∧ ((roomAway ready).step9 (job .ground .jacks) = none ∨ (roomAway ready).step9 (job .ground .jacks) = some .slidesOut)
    ∧ (roomAway ready).step9 (job .jacksStow .jacks) = some .slidesOut
    ∧ (roomAway ready).step9 { job .jacksStow .jacks with origin := .service, override := true } = none
    ∧ (let s := ready.modInput 4 (fun u => { u with debounced := some .opened })
       s.step9 (job .roomOut (.room 0)) = some .unreferenced
       ∧ s.step9 { job .roomJog (.room 0) with dir := some .inward } = none)
    ∧ (let s : State := { awningAway ready with wind := { ready.wind with trigger := true } }
       s.step9 { job .awningSet .awning with value := some 501 } = some .windLockout
       ∧ s.step9 { job .awningSet .awning with value := some 500 } = none
       ∧ s.step9 { job .awningJog .awning with dir := some .outward } = some .windLockout)
    ∧ (let e : ClearEntry := { enabled := true, subject := .room 0, lo := 1000, hi := 1000, cond := .input .door .closed
                               action := .protect }
       let s : State := { ready with
          ist := { ready.ist with items := { ready.items with clearance := ready.items.clearance.set 0 e } }
          clm := { ready.clm with entries := ready.clm.entries.set 0 ⟨true, false, none, none⟩ } }
       s.targetBarred (job .roomOut (.room 0)) = true ∧ s.targetBarred (job .roomIn (.room 0)) = false) := by decide +kernel

/-- A GROUND that must wait: the supply state is HOLD. -/
def lowSupply : State := { ready with sta := { ready.sta with supply := .hold } }

theorem lowSupply_calm : lowSupply.Calm := calm_home (by decide +kernel) (by decide +kernel) (by decide +kernel)

theorem test_witness_submitJoins :
    (∃ q, Submit.read (asks 1 1 0) = some q ∧ lowSupply.takes .coach ∧ lowSupply.inm.notReady = false
      ∧ lowSupply.readJob .coach q = .ok (job .ground .jacks)
      ∧ lowSupply.admissionRefusal .link (some q.tag.toNat) (job .ground .jacks) = none
      ∧ lowSupply.placeSlot = some 0 ∧ (∀ o ∈ lowSupply.opAt 0, o.state.isEnded = true)
      ∧ lowSupply.idleJob (job .ground .jacks) = false ∧ lowSupply.sta.queue = []
      ∧ lowSupply.blockedBy (lowSupply.newRecord q.tag.toNat (job .ground .jacks)) = some .supply)
    ∧ lowSupply.Calm := by
  refine ⟨⟨_, rfl, ?_⟩, lowSupply_calm⟩
  decide +kernel

/-- SUBMIT of a GROUND that passes at once, and of an outward AWNING_JOG behind a waiting GROUND. -/
theorem test_witness_submitGrants :
    (∃ q, Submit.read (asks 1 1 0) = some q ∧ ready.takes .coach ∧ ready.inm.notReady = false
      ∧ ready.readJob .coach q = .ok (job .ground .jacks)
      ∧ ready.admissionRefusal .link (some q.tag.toNat) (job .ground .jacks) = none ∧ ready.placeSlot = some 0
      ∧ ready.opAt 0 = none ∧ ready.idleJob (job .ground .jacks) = false ∧ ready.sta.queue = []
      ∧ (∀ k, (ready.entryItem k).enabled = false)
      ∧ ready.blockedBy (ready.newRecord q.tag.toNat (job .ground .jacks)) = none)
    ∧ (∃ q, Submit.read [1, 8, 5, 0, 0, 1, 0, 1, 100, 0, 0] = some q ∧ frameWaits.takes .coach ∧ frameWaits.inm.notReady = false
      ∧ (let j := { job .awningJog .awning with dir := some .outward, value := some 100 }
         frameWaits.readJob .coach q = .ok j ∧ frameWaits.admissionRefusal .link (some q.tag.toNat) j = none
         ∧ frameWaits.placeSlot = some 2 ∧ frameWaits.opAt 2 = none ∧ frameWaits.idleJob j = false)
      ∧ frameWaits.sta.queue ≠ [])
    ∧ ready.Calm ∧ frameWaits.Undisturbed ∧ frameWaits.Books :=
  ⟨⟨_, rfl, by decide +kernel⟩, ⟨_, rfl, by decide +kernel⟩, ready_calm,
    undisturbed_home (by decide +kernel) (by decide +kernel),
    books_of (by decide +kernel) (by decide +kernel) (by decide +kernel) (by decide +kernel)⟩

/-- The slot of an admission: the lowest free one, and with all in use that of the oldest ENDED record. -/
theorem test_witness_placeSlot :
    ((moving.opAt 1 = none ∧ ∀ k, k < (1 : Slot) → (moving.opAt k).isSome = true) ∧ moving.placeSlot = some 1)
    ∧ (let ended := fun (t : Nat) => { record (job .ground .jacks) (.ended .complete none 1) with tag := t }
       let s := (((ready.setOp 0 (ended 1)).setOp 1 (ended 2)).setOp 2 (ended 3)).setOp 3 (ended 4)
       let s : State := { s with opt := { s.opt with endedList := [3, 1, 2, 4] } }
       (∀ k, (s.opAt k).isSome = true) ∧ s.opt.endedList = 3 :: [1, 2, 4] ∧ s.opAt 2 = some (ended 3)
       ∧ s.placeSlot = some 2) := by decide +kernel

/-- A JACKS_STOW with the jacks stowed. -/
theorem test_witness_submitNeedsNoMotion :
    (∃ q, Submit.read (asks 1 2 0) = some q ∧ ready.takes .coach ∧ ready.inm.notReady = false
      ∧ ready.readJob .coach q = .ok (job .jacksStow .jacks)
      ∧ ready.admissionRefusal .link (some q.tag.toNat) (job .jacksStow .jacks) = none
      ∧ ready.placeSlot = some 0 ∧ (∀ o ∈ ready.opAt 0, o.state.isEnded = true)
      ∧ ready.idleJob (job .jacksStow .jacks) = true)
    ∧ ready.Calm := by
  refine ⟨⟨_, rfl, ?_⟩, ready_calm⟩
  decide +kernel

/-- Jobs that need no motion, and one that does. -/
theorem test_witness_idleJobs :
    OpKind.jacksStow.fits .jacks = true ∧ OpKind.roomIn.fits (.room 0) = true ∧ OpKind.awningSet.fits .awning = true
    ∧ ready.idleJob (job .roomIn (.room 0)) = true
    ∧ (awningAway ready).idleJob { job .awningSet .awning with value := some 500 } = true
    ∧ (awningAway ready).idleJob { job .awningSet .awning with value := some 600 } = false
    ∧ ready.idleJob (job .roomOut (.room 0)) = false := by decide +kernel

/-- An operation that holds its record in a state, ready to be stopped. -/
theorem test_witness_stop :
    (let s := withOp (job .roomOut (.room 0)) (.held .linkSilent)
     s.takes .coach ∧ s.slotOfTag (33#8 : Byte).toNat = some 0
     ∧ s.opAt 0 = some (record (job .roomOut (.room 0)) (.held .linkSilent))
     ∧ s.stopRefusal .coach (record (job .roomOut (.room 0)) (.held .linkSilent)) = none
     ∧ (∀ k, k ≠ 0 → ∀ p ∈ s.opAt k, p.state.isAdmitted = false)
     ∧ (∀ k, (s.entryItem k).enabled = false) ∧ s.someRoomOut = false)
    ∧ (let s := (roomRun .roomOut .run).modRoom 0 (fun r => { r with a := outwardMotor })
       (s.roomUnit 0).atRest = false ∧ (∀ k, (s.entryItem k).enabled = false) ∧ s.someRoomOut = false ∧ s.noneWaiting)
    ∧ (let s : State := { withOp (job .awningSet .awning) (.running (some .run)) with
          awu := { ready.awu with motor := outwardMotor } }
       s.awu.motor.moving = true ∧ s.someRoomOut = false ∧ s.noneWaiting)
    ∧ (let s : State := { jacksRun .ground .ground with lvc := { ready.lvc with pump := 1000 } }
       s.lvc.pump ≠ 0 ∧ s.someRoomOut = false ∧ s.noneWaiting)
    ∧ (let s := withOp (job .roomOut (.room 0)) (.stopping (.held .linkSilent) (some .run))
       s.stopRefusal .coach (record (job .roomOut (.room 0)) (.stopping (.held .linkSilent) (some .run))) = none
       ∧ s.noneWaiting) := by decide +kernel

/-- A STOP by group, of a waiting operation and of one that runs. -/
theorem test_witness_stopByGroup :
    (∀ st ∈ ([.held .linkSilent, .running (some .run)] : List OpState),
      let s := withOp (job .roomOut (.room 0)) st
      let o := record (job .roomOut (.room 0)) st
      s.opAt 0 = some o ∧ (Group.room 0).code = (1#8 : Byte).toNat ∧ s.items.configured (.room 0) = true
      ∧ o.job.group = .room 0 ∧ o.state.isEnded = false
      ∧ (∀ k, ∀ p ∈ s.opAt k, p.job.group = .room 0 → p.state.isEnded = false → k = 0)
      ∧ s.stopRefusal .coach o = none)
    ∧ (let s := (withOp stowJob (.running none)).setClaim .awning .claimed
       s.claimOf .awning ≠ .free ∧ s.stopRefusal .coach (record stowJob (.running none)) = some .notOwner
       ∧ s.stopRefusal .service (record stowJob (.running none)) = some .safetyOp) := by decide +kernel

/-- R18: a STOP by group ends a held operation of the group as one by its tag does. -/
theorem test_stop_by_group :
    (∀ p ∈ [[1#8, 1#8], [0#8, 33#8]],
      (match exec (.stop .coach p) (withOp (job .roomOut (.room 0)) (.held .linkSilent)) with
        | .next t => (t.opAt 0).bind (fun o => o.state.result)
        | _ => none) = some (.cancelled .stop)) := by decide +kernel

/-- The refusals of STOP: each with a state that meets its hypotheses and none before. -/
theorem test_witness_stopRefusals :
    1 < (2#8 : Byte).toNat ∧ ready.slotOfTag (33#8 : Byte).toNat = none ∧ Group.ofCode 6#8 = none
    ∧ (Group.ofCode 3#8 = some (.room 2) ∧ ready.items.configured (.room 2) = false)
    ∧ (Group.ofCode 0#8 = some .jacks ∧ ready.items.configured .jacks = true ∧ ready.busySlot .jacks = none)
    ∧ ((withOp stowJob (.running none)).claimed .awning = false ∧ stowJob.kind = .awningStow)
    ∧ (∃ o, (withOp (job .ground .jacks) (.ended .complete none 1)).opAt 0 = some o ∧ o.state.isEnded = true
        ∧ o.job.kind ≠ .awningStow)
    ∧ (job .ground .jacks).origin ≠ .service := by
  refine ⟨?_, ?_, ?_, ?_, ?_, ?_, ⟨_, rfl, ?_⟩, ?_⟩ <;> decide +kernel

theorem test_witness_haltAll :
    (roomRun .roomOut .run).takes .service ∧ (roomRun .roomOut .run).opAt 1 = none
    ∧ (roomRun .roomOut .run).opAt 0 = some (record (job .roomOut (.room 0)) (.running (some .run)))
    ∧ (roomRun .roomOut .run).awu.motor.driven = false ∧ (roomRun .roomOut .run).awu.ramped = 0
    ∧ ∀ sl ∈ (roomRun .roomOut .run).sta.queue, ((roomRun .roomOut .run).opAt sl).isSome = true := by decide +kernel

/-- RESUME: a held GROUND, refused while claimed, refused by a test, and returned to a queue that must wait. -/
theorem test_witness_resume :
    (let s := withOp (job .ground .jacks) (.held .supplyLow)
     s.takes .coach ∧ s.slotOfTag (33#8 : Byte).toNat = some 0
     ∧ s.opAt 0 = some (record (job .ground .jacks) (.held .supplyLow))
     ∧ (s.setClaim .jacks .claimed).claimed .jacks = true
     ∧ s.resumeRefusal .link (job .level .jacks) = some .attitude
     ∧ s.resumeRefusal .link (job .ground .jacks) = none ∧ s.sta.queue = []
     ∧ ({ s with sta := lowSupply.sta } : State).blockedBy (record (job .ground .jacks) (.held .supplyLow)) = some .supply
     ∧ (∀ k, (s.entryItem k).enabled = false) ∧ s.someRoomOut = false ∧ s.noneWaiting)
    ∧ (record (job .ground .jacks) (.running (some .ground))).state.isHeld = false := by decide +kernel

/-- RESUME at each repeated step in turn: not the owner, from either link; the E-stop; no attitude; an active PROTECT entry
about the target; and the pass. -/
theorem test_witness_resumeSteps :
    (let held := fun (j : Job) (s : State) => s.takes .coach ∧ s.slotOfTag (33#8 : Byte).toNat = some 0
       ∧ s.opAt 0 = some (record j (.held .supplyLow))
     let owns := fun (g : Group) (s : State) => s.claimOf g = .free
     let free := fun (s : State) => s.inm.coach.eStop ≠ .stop ∧ s.inm.coach.brake ≠ .released ∧ s.inm.coach.ignition = false
     let ground := withOp (job .ground .jacks) (.held .supplyLow)
     let stopped : State := { ground with inm := { ground.inm with coach := { ground.inm.coach with eStop := .stop } } }
     let level := withOp (job .level .jacks) (.held .supplyLow)
     let set : Job := { job .awningSet .awning with value := some 600 }
     let away := withOp set (.held .supplyLow)
     let e : ClearEntry := { enabled := true, subject := .awning, lo := 500, hi := 1000, cond := .input .door .closed
                             action := .protect }
     let fenced : State := { away with
       ist := { away.ist with items := { away.items with clearance := away.items.clearance.set 0 e } }
       clm := { away.clm with entries := away.clm.entries.set 0 ⟨true, false, none, none⟩ } }
     (held (job .ground .jacks) (ground.setClaim .jacks .claimed) ∧ ¬ owns .jacks (ground.setClaim .jacks .claimed)
      ∧ ground.takes .service)
     ∧ (held (job .ground .jacks) stopped ∧ owns .jacks stopped ∧ stopped.inm.coach.eStop = .stop)
     ∧ (held (job .level .jacks) level ∧ owns .jacks level ∧ free level ∧ level.step9 (job .level .jacks) = some .attitude)
     ∧ (held set fenced ∧ owns .awning fenced ∧ free fenced ∧ fenced.step9 set = none ∧ fenced.targetBarred set = true)
     ∧ (held (job .ground .jacks) ground ∧ owns .jacks ground ∧ free ground ∧ ground.step9 (job .ground .jacks) = none
        ∧ ground.targetBarred (job .ground .jacks) = false)) := by decide +kernel

/-- RESUME of a GROUND that passes at once, and of an AWNING_JOG behind a waiting GROUND. -/
theorem test_witness_resumeGrants :
    (let o := record (job .ground .jacks) (.held .supplyLow)
     let s := withOp (job .ground .jacks) (.held .supplyLow)
     s.takes .coach ∧ s.slotOfTag (33#8 : Byte).toNat = some 0 ∧ s.opAt 0 = some o
     ∧ s.resumeRefusal .link o.job = none ∧ s.sta.queue = [] ∧ s.noneWaiting ∧ s.onePerGroup
     ∧ (∀ k, (s.entryItem k).enabled = false) ∧ s.blockedBy o = none ∧ s.someRoomOut = false)
    ∧ (let j := { job .awningJog .awning with dir := some .outward, value := some 100 }
       let o := { record j (.held .linkSilent) with tag := 35 }
       let s := frameWaits.setOp 2 o
       (s.takes .coach ∧ s.slotOfTag (35#8 : Byte).toNat = some 2 ∧ s.opAt 2 = some o ∧ o.state.isHeld = true
        ∧ s.resumeRefusal .link j = none ∧ s.sta.queue ≠ [] ∧ o.opClass = .normal)
       ∧ s.Undisturbed ∧ s.Books) :=
  ⟨by decide +kernel, by decide +kernel, undisturbed_home (by decide +kernel) (by decide +kernel),
    books_of (by decide +kernel) (by decide +kernel) (by decide +kernel) (by decide +kernel)⟩

theorem test_witness_dismiss :
    (let s := withOp (job .ground .jacks) (.ended .complete none 1)
     s.takes .coach ∧ (33#8 : Byte).toNat ≠ 0 ∧ s.slotOfTag (33#8 : Byte).toNat = some 0
     ∧ s.opAt 0 = some (record (job .ground .jacks) (.ended .complete none 1))
     ∧ (∀ k, (s.entryItem k).enabled = false) ∧ s.someRoomOut = false ∧ s.noneWaiting)
    ∧ ready.slotOfTag (33#8 : Byte).toNat = none
    ∧ (record (job .ground .jacks) (.held .supplyLow)).state.isEnded = false := by decide +kernel

theorem test_witness_claims :
    ready.takes .coach ∧ ready.takes .service ∧ ready.claimSetOk 0x40#8 = false ∧ ready.claimSetOk 0x27#8 = true
    ∧ (∀ g ∈ groupsOf 0x27#8, ready.hostBusy g = false) ∧ ready.Calm :=
  ⟨by decide +kernel, by decide +kernel, by decide +kernel, by decide +kernel, by decide +kernel, ready_calm⟩

/-- R5: a CLAIM of ROOM1 and JACKS ends the ROOM1 operation of slot 1 before the JACKS operation of slot 3. -/
def hosts : State :=
  (ready.setOp 1 { record (job .roomIn (.room 0)) (.held .linkSilent) with tag := 50 }).setOp 3
    { record (job .ground .jacks) (.held .linkSilent) with tag := 51 }

theorem test_claim_ends_in_slot_order :
    (match exec (.claim .service [0x03#8]) hosts with
      | .next t => t.opt.endedList
      | _ => []) = [50, 51] := by decide +kernel

theorem test_witness_claim_hosts :
    hosts.takes .service ∧ hosts.claimSetOk 0x03#8 = true ∧ hosts.Undisturbed
    ∧ (∀ g ∈ groups, hosts.claimOf g = .free) ∧ hosts.noneWaiting
    ∧ (Group.room 0 ∈ groupsOf 0x03#8 ∧ (job .roomIn (.room 0)).origin = .link) :=
  ⟨by decide +kernel, by decide +kernel, undisturbed_home (by decide +kernel) (by decide +kernel), by decide +kernel,
    by decide +kernel, by decide +kernel⟩

/-- A pending group whose cancelled operation is about to come to rest. -/
theorem test_witness_claim_pending :
    (let s := ((withOp (job .roomIn (.room 0)) (.stopping (.ended (.cancelled .claimed)) (some .run))).setClaim (.room 0)
          .pending).modRoom 0 (fun r => { r with a := { r.a with coast := some 900 } })
     s.claimOf (.room 0) = .pending ∧ s.hostBusy (.room 0) = true ∧ s.onePerGroup ∧ s.noneWaiting
     ∧ (∀ g ∈ groups, g ≠ .room 0 → s.claimOf g = .free)
     ∧ s.activeOp (.room 0)
        = some (0, record (job .roomIn (.room 0)) (.stopping (.ended (.cancelled .claimed)) (some .run)))
     ∧ ((s.roomUnit 0).motor .a).coast.isSome = true
     ∧ ((s.modRoomMotor 0 .a (fun x => { x with coast := none })).roomUnit 0).atRest = true) := by decide +kernel

theorem test_witness_park :
    State.reset.inm.notReady = true
    ∧ ((roomRun .roomOut .run).inm.notReady = false ∧ (roomRun .roomOut .run).anyNonEnded = true)
    ∧ (let s : State := { ready with liu := { ready.liu with connected := true } }
       s.takes .service ∧ s.anyNonEnded = false ∧ s.liu.connected = true)
    ∧ (ready.takes .service ∧ ready.anyNonEnded = false ∧ ready.shut .ignition = false ∧ ready.liu.connected = false
        ∧ ready.ist.storing = none)
    ∧ (storing .service).ist.storing.isSome = true := by decide +kernel

/-- A part that is sending a reply. -/
def replying (k : After) (connected : Bool) : State :=
  let s := ready.modLink .coach (fun u => { u with replies := [⟨0x96#8, 0, 0, [], k⟩] })
  { s with liu := { s.liu with connected := connected, parkWait := true } }

theorem test_witness_replySent :
    (ready.link .coach).replies = []
    ∧ (∀ k b, ((replying k b).link .coach).replies = [⟨0x96#8, 0, 0, [], k⟩])
    ∧ (∀ b, (replying .park b).inm.parked = false ∧ (replying .park b).anyNonEnded = false
        ∧ (replying .park b).liu.connected = b ∧ (replying .park b).liu.coach.buffer = []
        ∧ (replying .park b).liu.service.buffer = []) := by
  refine ⟨by decide +kernel, fun k b => rfl, fun b => ?_⟩
  cases b <;> decide +kernel

/-- A parked part with its poll timer running. -/
def parked : State := { ready with inm := { ready.inm with parked := true, pollTimer := some 1064, pollCount := 3 } }

theorem parked_calm : parked.Calm := calm_home (by decide +kernel) (by decide +kernel) (by decide +kernel)

theorem test_witness_parking :
    (let s : State := { ready with inm := { ready.inm with idleTimer := some 5000 } }
     s.inm.idleTimer.isSome = true ∧ s.allEnded ∧ s.liu.coach.buffer = [] ∧ s.liu.service.buffer = [])
    ∧ ready.inm.idleTimer = none ∧ ready.inm.parked = false
    ∧ (parked.inm.parked = true ∧ ∀ i, (parked.input i).lastPoll = none ∧ (parked.input i).pending = none)
    ∧ parked.Calm := ⟨by decide +kernel, by decide +kernel, by decide +kernel, by decide +kernel, parked_calm⟩

/-- A parked part with a polled change of the door pending, and a reading of the ignition seen once. -/
theorem test_witness_wakeChanges :
    (let s := (parked.modInput 2 (fun u => { u with pending := some .opened, lastPoll := some .opened })).modInput 1
        (fun u => { u with lastPoll := some .closed })
     (∀ i, (s.input i).pending.isSome = true → s.funcOf i = .generic ∨ s.funcOf i = .door ∨ s.funcOf i = .ignition)
     ∧ (s.input 2).fault = false ∧ s.items.inp.notice.get 2 = s.items.inp.notice.get 2
     ∧ (s.input 1).pending = none ∧ (s.input 1).lastPoll = some .closed ∧ (s.input 1).debounced ≠ some .closed
     ∧ (∀ k, (s.entryItem k).enabled = false) ∧ s.someRoomOut = false ∧ s.noneWaiting) := by decide +kernel

/-- The levels that read as every debounced state of the ready part. -/
def homeLevels : Bank Level 24 := (Bank.fill 24 Level.low).modify 1 (fun _ => .pullUp)

/-- A parked part whose twelfth input is GENERIC, wakes it, and read open at its last poll. -/
def aboutToWake : State :=
  let inp := { parked.items.inp with function := parked.items.inp.function.set 11 .generic
                                     wake := parked.items.inp.wake.set 11 true }
  ({ parked with ist := { parked.ist with items := { parked.items with inp := inp } } } : State).modInput 11
    (fun u => { u with lastPoll := some .opened })

/-- Both cases of a fourth poll: every reading agrees, and the twelfth input differs for the second time. -/
theorem test_witness_parkPoll :
    (∀ i, parked.funcOf i ≠ .none ∧ ((4 : Nat) = 4 ∨ parked.items.inp.slow.get i = false) →
      (readLevel (parked.items.inp.invert.get i) (homeLevels.get i)).contact
        = some ((parked.input i).debounced.getD .opened))
    ∧ (aboutToWake.inm.pollTimer.isSome = true ∧ aboutToWake.inm.pollCount = 3 ∧ aboutToWake.funcOf 11 = .generic
        ∧ (readLevel (aboutToWake.items.inp.invert.get 11) Level.pullUp).contact = some .opened
        ∧ (aboutToWake.input 11).debounced.getD .opened ≠ .opened ∧ (aboutToWake.input 11).fault = false
        ∧ (aboutToWake.input 11).lastPoll = some .opened ∧ aboutToWake.items.inp.wake.get 11 = true
        ∧ (∀ i, i ≠ 11 → (aboutToWake.input i).pending = none ∧ (aboutToWake.input i).lastPoll = none)
        ∧ (∀ i, i ≠ 11 → aboutToWake.funcOf i ≠ .none →
            (readLevel (aboutToWake.items.inp.invert.get i) ((homeLevels.set 11 .pullUp).get i)).contact
              = some ((aboutToWake.input i).debounced.getD .opened)))
    ∧ aboutToWake.Calm :=
  ⟨by decide +kernel, by decide +kernel, calm_home (by decide +kernel) (by decide +kernel) (by decide +kernel)⟩

/-- Running watchdog, hold and silence timers over operations that they reach. -/
theorem test_witness_holds :
    ready.liu.watchdog = none ∧ ready.sta.holdTimer = none ∧ ready.liu.silence = none
    ∧ (let s : State := { queued (job .ground .jacks) with
          liu := { ready.liu with watchdog := some 900, silence := some 900, connected := true }
          sta := { (queued (job .ground .jacks)).sta with holdTimer := some 900 } }
       s.liu.watchdog.isSome = true ∧ s.items.awn.stowOnLinkLoss = false ∧ s.sta.holdTimer.isSome = true
       ∧ s.sta.flags.cutSet = false ∧ s.sta.supply ≠ .hold
       ∧ (∀ k, (s.entryItem k).enabled = false) ∧ s.someRoomOut = false
       ∧ (∀ sl, ∀ o ∈ s.opAt sl, o.state.isAdmitted = true → o.job.origin = .link ∧ o.opClass = .normal))
    ∧ (let s := withOp { job .ground .jacks with origin := .service } (.running (some .ground))
       s.opAt 0 = some (record { job .ground .jacks with origin := .service } (.running (some .ground)))
       ∧ s.noneWaiting ∧ s.someRoomOut = false)
    ∧ (let s : State := { ready with sta := { ready.sta with
          supply := .cut, flags := { ready.sta.flags with cutSet := true }, holdTimer := some 900 } }
       s.sta.holdTimer.isSome = true ∧ s.sta.flags.cutSet = true ∧ s.sta.supply = .cut ∧ s.noneWaiting) := by
  decide +kernel

/-- Windows of six, seven and eight samples, and the eighth at each threshold. -/
theorem test_witness_supply :
    (let s : State := { ready with sta := { ready.sta with samples := [118, 118, 118, 118, 118, 118] } }
     s.sta.samples.length < 7)
    ∧ (let s : State := { ready with sta := { ready.sta with samples := [94, 94, 94, 94, 94, 94, 94] } }
       s.sta.samples.length = 7 ∧ ((s.sta.samples ++ [94]).sum + 4) / 8 < s.items.supply.vCut)
    ∧ (let s : State := { ready with sta := { ready.sta with samples := [118, 118, 118, 118, 118, 118, 118, 118] } }
       s.sta.samples.length = 8 ∧ s.items.supply.vAdmit ≤ ((s.sta.samples.drop 1 ++ [118]).sum + 4) / 8)
    ∧ ready.Calm :=
  ⟨by decide +kernel, by decide +kernel, by decide +kernel, ready_calm⟩

/-- A running stagger timer: with none waiting, with a head that must wait, with a head that passes. -/
theorem test_witness_stagger :
    (let s : State := { ready with sta := { ready.sta with stagger := some 900 } }
     s.sta.stagger.isSome = true ∧ s.noneWaiting ∧ s.someRoomOut = false)
    ∧ (let s : State := { queued (job .roomOut (.room 0)) with
          sta := { (queued (job .roomOut (.room 0))).sta with stagger := some 900 } }
       let o := record (job .roomOut (.room 0)) (.admitted .queue)
       s.sta.stagger.isSome = true ∧ s.sta.queue = [0] ∧ s.opAt 0 = some o ∧ o.state.isAdmitted = true ∧ o.resumed = false
       ∧ s.items.room.motors.get 0 = 1 ∧ (∀ k, (s.entryItem k).enabled = false) ∧ s.someRoomOut = false
       ∧ ({ s with sta := { s.sta with stagger := none } } : State).blockedBy o = none
       ∧ ({ s with sta := { s.sta with stagger := none, supply := .hold } } : State).headBlocked 0 o .supply) := by
  decide +kernel

/-- The part with slide_fault_action ROOM and this stagger time. -/
def lone (s : State) (time : Nat) : State :=
  { s with ist := { s.ist with items := { s.items with
      supply := { s.items.supply with staggerTime := time }, room := { s.items.room with faultAction := .room } } } }

/-- A GROUND at the head of the queue under this reason, an inward AWNING_JOG behind it. -/
def standing (w : WaitReason) (time : Nat) : State :=
  let s := (ready.setOp 0 (record (job .ground .jacks) (.admitted w))).setOp 1
    { record { job .awningJog .awning with dir := some .inward, value := some 500 } (.admitted .queue) with tag := 34 }
  lone { s with sta := { s.sta with queue := [0, 1] } } time

/-- The two with the stagger timer running; the two in LOW. -/
def staggered (time : Nat) : State :=
  { standing .stagger time with sta := { (standing .stagger time).sta with stagger := some 900 } }

def inLow (time : Nat) : State :=
  { standing .supply time with sta := { (standing .supply time).sta with
      supply := .low, flags := { ready.sta.flags with underSet := true }, samples := List.replicate 8 125 } }

/-- A state with no entry enabled, every room home and slide_fault_action ROOM. -/
theorem plain_of {s : State} (h : (∀ k, (s.entryItem k).enabled = false) ∧ s.someRoomOut = false
    ∧ s.items.room.faultAction = .room) : s.Plain := ⟨undisturbed_home h.1 h.2.1, h.1, h.2.2⟩

/-- A head that passes at the stagger timer's expiry with one behind it, the stagger time 0 and not; one waiting for
NORMAL, which the next sample gives. -/
theorem test_witness_examined :
    (∀ time ∈ [0, 500],
      ((staggered time).sta.stagger.isSome = true ∧ (staggered time).sta.queue = 0 :: [1]
        ∧ (staggered time).opAt 0 = some (record (job .ground .jacks) (.admitted .stagger)) ∧ (staggered time).onePerGroup
        ∧ ({ staggered time with sta := { (staggered time).sta with stagger := none } } : State).blockedBy
            (record (job .ground .jacks) (.admitted .stagger)) = none)
      ∧ (staggered time).Books ∧ (staggered time).Plain ∧ (inLow time).Books ∧ (inLow time).Plain) := by
  intro time ht
  simp only [List.mem_cons, List.not_mem_nil, or_false] at ht
  rcases ht with rfl | rfl
  all_goals exact ⟨by decide +kernel,
    books_of (by decide +kernel) (by decide +kernel) (by decide +kernel) (by decide +kernel), plain_of (by decide +kernel),
    books_of (by decide +kernel) (by decide +kernel) (by decide +kernel) (by decide +kernel), plain_of (by decide +kernel)⟩

/-- In CUT a stow and a GROUND behind it wait; the next sample is one of HOLD. -/
def leavesCut : State :=
  let s := (ready.setOp 0 (record (job .ground .jacks) (.admitted .queue))).setOp 1
    { record stowJob (.admitted .supply) with tag := 240 }
  lone { s with sta := { s.sta with
    queue := [1, 0], supply := .cut, samples := List.replicate 8 101, filtered := some 101
    flags := { s.sta.flags with cutSet := true, holdSet := true, underSet := true } } } 500

/-- R39, R41: at the entry to HOLD the GROUND is held and the stow granted. -/
theorem test_leaving_cut_into_hold :
    (match exec (.supplySample 101) leavesCut with
      | .next t => some (t.sta.supply, (t.opAt 0).map (fun o => o.state), (t.opAt 1).map (fun o => o.state))
      | _ => none)
      = some (.hold, some (.held .supplyLow), some (.running (some .move))) := by decide +kernel

theorem test_witness_leavingCut :
    leavesCut.Books ∧ leavesCut.Plain ∧ leavesCut.sta.supply ≠ .hold
    ∧ leavesCut.sta.resSum + 25 ≤ leavesCut.items.supply.budgetLimit :=
  ⟨books_of (by decide +kernel) (by decide +kernel) (by decide +kernel) (by decide +kernel), plain_of (by decide +kernel),
    by decide +kernel, by decide +kernel⟩

/-- R30, R34, R38: with a stagger time of 0 both are granted in one event, otherwise the second waits for the timer; the
same at the sample that gives NORMAL. -/
theorem test_heads_granted_in_one_event :
    (let states := fun (c : Instr) (s : State) => match exec c s with
      | .next t => (t.opAt 0).bind (fun o => (t.opAt 1).map (fun p => (o.state, p.state)))
      | _ => none
     (∀ s ∈ [(Instr.staggerExpiry, staggered 0), (.supplySample 125, inLow 0)],
        states s.1 s.2 = some (.running (some .ground), .running (some .move)))
     ∧ ∀ s ∈ [(Instr.staggerExpiry, staggered 500), (.supplySample 125, inLow 500)],
        states s.1 s.2 = some (.running (some .ground), .admitted .stagger)) := by decide +kernel

/-- R31: the first test that a head fails, each in turn. -/
theorem test_witness_startTests :
    (let o := record (job .roomOut (.room 0)) (.admitted .queue)
     let put := fun (f : Sta → Sta) => ({ ready with sta := f ready.sta } : State)
     ready.blockedBy o = none
     ∧ (put (fun a => { a with resSum := 200, supply := .cut, stagger := some 5 })).blockedBy o = some .budget
     ∧ ({ jacksRun .ground .ground with sta := { ready.sta with supply := .cut, stagger := some 5 } } : State).blockedBy o
        = some .frame
     ∧ (put (fun a => { a with supply := .cut, stagger := some 5 })).blockedBy o = some .stagger
     ∧ (put (fun a => { a with supply := .hold })).blockedBy o = some .supply
     ∧ (put (fun a => { a with supply := .hold, stagger := some 5 })).blockedBy (record stowJob (.admitted .queue)) = none) := by
  decide +kernel

/-- Samples of the inclinometer in each row of R45. -/
theorem test_witness_attitude :
    parked.inm.parked = true ∧ ready.inm.parked = false ∧ ready.runningOp .jacks = none
    ∧ (ready.atu.filtered = none ∧ ready.atu.validRun < 7)
    ∧ (∃ s : State, s = { ready with atu := { ready.atu with validRun := 7 } } ∧ s.atu.validRun = 7)
    ∧ ((tilted 0 0).atu.filtered.isSome = true ∧ (tilted 0 0).atu.invalidRun < 3)
    ∧ ((3000#16 : Word).toInt.natAbs ≤ 3000 ∧ ¬ (3001#16 : Word).toInt.natAbs ≤ 3000)
    ∧ ready.Calm ∧ (tilted 0 0).Calm :=
  ⟨by decide +kernel, by decide +kernel, by decide +kernel, by decide +kernel, ⟨_, rfl, rfl⟩, by decide +kernel,
    by decide +kernel, ready_calm, tilted_calm _ _⟩

/-- A LEVEL in TOUCHDOWN with the lowest jack coming down, this many invalid samples taken, the pump at a duty. -/
def landingLevel (invalid pump : Nat) : State :=
  let s := (jacksRun .level .touchdown).modJack 0 (fun u => { u with extending := true, taken := true })
  { s with atu := { (tilted 0 0).atu with invalidRun := invalid, window := List.replicate 8 ⟨0, 0⟩ }
           lvc := { s.lvc with landing := some (0, 5), pump := pump } }

theorem test_witness_touchdown :
    ∀ invalid ∈ [0, 3], ∀ pump ∈ [0, 600],
      (landingLevel invalid pump).inm.parked = false ∧ (landingLevel invalid pump).Calm
      ∧ (landingLevel invalid pump).runningOp .jacks = some (0, record (job .level .jacks) (.running (some .touchdown)))
      ∧ (landingLevel invalid pump).lvc.pend = none ∧ (landingLevel invalid pump).atu.filtered.isSome = true
      ∧ (landingLevel invalid pump).atu.invalidRun = invalid ∧ (landingLevel invalid pump).lvc.pump = pump := by
  intro i hi p hp
  simp only [List.mem_cons, List.not_mem_nil, or_false] at hi hp
  rcases hi with rfl | rfl <;> rcases hp with rfl | rfl
  all_goals exact ⟨by decide +kernel, calm_home (by decide +kernel) (by decide +kernel) (by decide +kernel),
    by decide +kernel, by decide +kernel, by decide +kernel, by decide +kernel, by decide +kernel⟩

/-- R71: a LEVEL in TOUCHDOWN at a sample within its tolerance of 20, one beyond it, and the fourth invalid one; the end is
written at once with the pump off and pending with it on. Eight times 21 cdeg come from a sample of 168. -/
theorem test_touchdown_attitude :
    (let ends := fun (c : Instr) (s : State) => match exec c s with
      | .next t => ((t.opAt 0).bind (fun o => o.state.result), t.lvc.pend, (t.jack 0).extending)
      | _ => (none, none, false)
     ends (.attitudeSample 0xA6#8 163#16 0) (landingLevel 0 0) = (none, none, true)
     ∧ ends (.attitudeSample 0xA6#8 164#16 0) (landingLevel 0 0) = (some (.partly .disturbed), none, false)
     ∧ ends (.attitudeSample 0xA6#8 164#16 0) (landingLevel 0 600) = (none, some (.partly .disturbed), false)
     ∧ ends (.attitudeSample 0#8 0 0) (landingLevel 3 0) = (some (.failed .attitude), none, false)
     ∧ ends (.attitudeSample 0#8 0 0) (landingLevel 2 0) = (none, none, true)) := by decide +kernel

/-- A running drift timer, the relevel that is skipped, and one that must wait. -/
theorem test_witness_drift :
    ready.atu.drift = none
    ∧ (let s : State := { tilted 90 0 with
          atu := { (tilted 90 0).atu with drift := some 900 }
          sta := lowSupply.sta
          ist := { ready.ist with items := { ready.items with att := { ready.items.att with autoRelevel := true } } } }
       let u : State := { s with atu := { s.atu with drift := none }, lvc := { s.lvc with levelled := false } }
       s.atu.drift.isSome = true ∧ s.items.att.autoRelevel = true ∧ s.someRoomOut = false ∧ u.relevelRefusal = none
       ∧ s.placeSlot = some 0 ∧ s.sta.queue = [] ∧ u.blockedBy (u.newRecord u.internalTag relevelJob) = some .supply
       ∧ (∀ k, (s.entryItem k).enabled = false) ∧ s.noneWaiting)
    ∧ ready.items.att.autoRelevel = false ∧ ready.relevelRefusal.isSome = true := by decide +kernel

/-- R4: the internal tag from the counter on, a tag in use passed over, and 255 followed by 240. -/
theorem test_internal_tags :
    ready.opt.internalTag = 240 + 0
    ∧ ready.internalTag = 240
    ∧ (ready.setOp 0 { record stowJob (.held .linkSilent) with tag := 240 }).internalTag = 241
    ∧ nextTag 255 = 240 := by decide +kernel

theorem test_witness_layouts :
    ready.opt.endedList.length ≤ 4 ∧ ready.wind.window.length ≤ 10 ∧ ready.ntu.coach.tags.length ≤ 8
    ∧ (roomRun .roomOut .run).activeOp (.room 0) = some (0, record (job .roomOut (.room 0)) (.running (some .run)))
    ∧ (0 : Jack) ∈ ready.items.jacks ∧ (2 : Jack) ∉ ready.items.jacks ∧ ready.awningPosition = none
    ∧ (awningAway ready).awningPosition = some 500 := by decide +kernel

/-- R175, R26: the record of an ENDED GROUND whose jacks LF and RR lack contact, at its places; the reservations of a
one-motor room and of the pump. -/
theorem test_operation_record :
    (let o := record (job .ground .jacks) (.ended (.failed .groundTimeout) (some (.jacks [0, 5])) 300)
     o.write.take 5 = [33, 1, 0, 0, 0] ∧ (o.write.drop 13).take 1 = [4]
     ∧ o.write.drop 26 = [1, 2, 1, 14, 1, 0x21, 0, 0, 0, 1, 44, 1]
     ∧ OpKind.ground.fits .jacks = true ∧ Items.default.reservation (job .ground .jacks) = 110
     ∧ Items.default.reservation (job .roomOut (.room 0)) = 25) := by decide +kernel

theorem test_witness_solver : corners 533 ≠ [] ∧ 150 < greatest (liftStage (corners 533)) ∧ greatest [150, 3] ≤ 150 := by
  decide +kernel

/-- A part with LEVELLED set and LF in contact, at the jack sample's boundaries. -/
theorem test_witness_jackSample :
    parked.inm.parked = true ∧ ready.runningOp .jacks = none ∧ ready.Calm ∧ (0 : Jack) ∈ ready.items.jacks
    ∧ (2 : Jack) ∉ ready.items.jacks ∧ ready.items.jack.strokeMax.get 0 = 610
    ∧ (let s : State := { ready.modJack 0 (fun u => { u with contact := true }) with
          lvc := { (ready.modJack 0 (fun u => { u with contact := true })).lvc with levelled := true } }
       (s.jack 0).contact = true ∧ s.lvc.levelled = true ∧ s.noneWaiting ∧ s.someRoomOut = false) :=
  ⟨by decide +kernel, by decide +kernel, ready_calm, by decide +kernel, by decide +kernel, by decide +kernel,
    by decide +kernel⟩

/-- GROUND with LF about to make contact as the last of its jacks. -/
theorem test_witness_contactTimer :
    (ready.jack 0).contactTimer = none
    ∧ (let s := ready.modJack 0 (fun u => { u with contactTimer := some 900 })
       (s.jack 0).contactTimer.isSome = true ∧ s.runningOp .jacks = none ∧ s.noneWaiting)
    ∧ (let s := ((jacksRun .level .ground).modJacks (fun u => { u with goal := true })).modJack 0
          (fun u => { u with contactTimer := some 900, extending := true, goal := false })
       s.lvc.pend = none
       ∧ s.runningOp .jacks = some (0, record (job .level .jacks) (.running (some .ground)))
       ∧ (0 : Jack) ∈ s.items.jacks ∧ (s.jack 0).contactTimer.isSome = true ∧ (s.jack 0).extending = true
       ∧ (∀ k ∈ s.items.jacks, k ≠ 0 → (s.jack k).goal = true)
       ∧ (∀ k, (s.entryItem k).enabled = false) ∧ s.someRoomOut = false ∧ s.noneWaiting) := by decide +kernel

/-- The pump at its ramp: rising, falling, and the last step with each state of the operation. -/
theorem test_witness_pump :
    (ready.activeOp .jacks = none ∧ ready.Calm)
    ∧ (let s := ready.modJack 0 (fun u => { u with extending := true })
       s.pumpDemand = 1000 ∧ s.lvc.pump < 1000)
    ∧ (let s : State := { jacksRun .level .settle with lvc := { ready.lvc with pump := 100, pend := some .complete } }
       s.pumpDemand = 0 ∧ s.lvc.pump ≤ s.items.jack.rampDown
       ∧ s.activeOp .jacks = some (0, record (job .level .jacks) (.running (some .settle))) ∧ s.lvc.pend = some .complete)
    ∧ (let s : State := { jacksRun .level .settle with lvc := { ready.lvc with pump := 100 } }
       s.lvc.pend = none ∧ s.lvc.timers.settle = none ∧ s.noneWaiting)
    ∧ (let s : State := { withOp (job .level .jacks) (.stopping (.held .supplyLow) (some .lift)) with
          lvc := { ready.lvc with pump := 100 } }
       s.activeOp .jacks = some (0, record (job .level .jacks) (.stopping (.held .supplyLow) (some .lift)))) :=
  ⟨⟨by decide +kernel, ready_calm⟩, by decide +kernel, by decide +kernel, by decide +kernel, by decide +kernel⟩

/-- A phase timer over a JACKS operation, with the pump running and at rest. -/
theorem test_witness_jackTimers :
    JackTimers.ground ready.lvc.timers = none
    ∧ (let s : State := { jacksRun .ground .ground with lvc := { ready.lvc with
          pump := 1000, timers := { JackTimers.stopped with ground := some 900 } } }
       (JackTimers.ground s.lvc.timers).isSome = true ∧ s.lvc.pend = none ∧ s.lvc.pump ≠ 0
       ∧ s.runningOp .jacks = some (0, record (job .ground .jacks) (.running (some .ground)))
       ∧ (∀ k, (s.entryItem k).enabled = false) ∧ s.someRoomOut = false ∧ s.noneWaiting)
    ∧ (let s : State := { jacksRun .jackJog .ground with lvc := { ready.lvc with
          timers := { JackTimers.stopped with jog := some 900 } } }
       (JackTimers.jog s.lvc.timers).isSome = true ∧ s.lvc.pump = 0
       ∧ s.runningOp .jacks = some (0, record (job .jackJog .jacks) (.running (some .ground)))) := by decide +kernel

/-- A SETTLE about to end, with this attitude and every jack in contact or not. -/
def settling (k : OpKind) (p r : Int) (down : Bool) : State :=
  let s : State := { jacksRun k .settle with atu := (tilted p r).atu }
  let jacks := s.lvc.jacks.map (fun u => { u with contact := down, stroke := 50 })
  { s with lvc := { s.lvc with jacks := jacks, timers := { JackTimers.stopped with settle := some 900 } } }

/-- SETTLE's end in each row: within tolerance, too steep, and the solver's results. -/
theorem test_witness_settle :
    ready.lvc.timers.settle = none
    ∧ (let s := settling .level 20 (-20) true
       s.lvc.timers.settle.isSome = true ∧ s.lvc.pend = none ∧ s.lvc.pump = 0
       ∧ s.runningOp .jacks = some (0, record (job .level .jacks) (.running (some .settle)))
       ∧ s.reported = some ⟨20, -20⟩ ∧ s.allContact = true
       ∧ (⟨20, -20⟩ : Tilt).within (s.tolerance (record (job .level .jacks) (.running (some .settle)))) = true
       ∧ (∀ k, (s.entryItem k).enabled = false) ∧ s.someRoomOut = false ∧ s.noneWaiting)
    ∧ (settling .level 20 (-20) false).items.jacks.find? (fun k => !((settling .level 20 (-20) false).jack k).contact) = some 0
    ∧ (settling .ground 0 0 false).allContact = false
    ∧ (⟨801, 0⟩ : Tilt).within ready.items.jack.maxSolveTilt = false
    ∧ (⟨800, 0⟩ : Tilt).within ready.items.jack.maxSolveTilt = true
    ∧ (settling .level (-120) 45 true).runSolver ⟨-120, 45⟩ false = .lifts [(0, 150), (1, 136), (4, 13), (5, 0)] false
    ∧ solve 150 3 true [⟨0, 0, 0⟩, ⟨1, 150000, 5⟩] = .lifts [(0, 0), (1, 0)] true
    ∧ solve 150 3 false [⟨0, 148000, 9⟩, ⟨1, 150000, 9⟩] = .lifts [(0, 0), (1, 0)] false := by decide +kernel

/-- A ROOM_OUT in a phase whose motor drives outward at a count, its room referenced. -/
def roomOutAt (ph : Phase) (count : Nat) : State :=
  (roomRun .roomOut ph).modRoom 0
    (fun r => { r with a := { outwardMotor with count := count }, referenced := true, demanded := 850, ramped := 850 })

/-- Pulses of a room: not watched, stray, coasting, driven short of a target, into creep, and at its travel. -/
theorem test_witness_roomPulse :
    (ready.Calm ∧ (∀ k, (ready.entryItem k).enabled = false) ∧ ready.items.configured (.room 3) = false)
    ∧ (channelRoom 0 = 0 ∧ channelMotor 0 = .a ∧ ready.items.configured (.room 0) = true
        ∧ MotorId.a ∈ ready.items.motors 0 ∧ ready.inm.parked = false ∧ ((ready.roomUnit 0).motor .a).driven = false
        ∧ ((ready.roomUnit 0).motor .a).coast = none)
    ∧ ∀ ph ∈ [Phase.run, Phase.creep], ∀ n ∈ [1098, 1138, 1139, 1198, 1199],
      (let s := roomOutAt ph n
       (s.roomUnit 0).a.driven = true ∧ s.items.room.motors.get 0 = 1 ∧ (s.roomUnit 0).b.driven = false
       ∧ (s.roomUnit 0).b.late = false ∧ (s.roomUnit 0).a.late = false ∧ (s.roomUnit 0).breaking = false
       ∧ (s.roomUnit 0).breakTimer = none ∧ (s.roomUnit 0).pend = none ∧ (s.roomUnit 0).referenced = true
       ∧ s.runningOp (.room 0) = some (0, record (job .roomOut (.room 0)) (.running (some ph)))
       ∧ (s.roomUnit 0).a.dir = some (job .roomOut (.room 0)).roomDir
       ∧ (∀ k, (s.entryItem k).enabled = false) ∧ s.someRoomOut = false ∧ s.noneWaiting) :=
  ⟨⟨ready_calm, by decide +kernel, by decide +kernel⟩, by decide +kernel, by decide +kernel⟩

/-- A two-motor ROOM_IN in CREEP whose motors stand 41 counts apart after the next pulse. -/
def apart : State :=
  let m : Motor := { Motor.reset with dir := some .inward, driven := true, applied := 350, tally := 5, count := 100 }
  let s := (roomRun .roomIn .creep).modRoom 0
    (fun r => { r with a := { m with count := 60 }, b := m, referenced := true, demanded := 350, ramped := 350 })
  { s with ist := { s.ist with items := { s.items with room := { s.items.room with motors := Bank.fill 4 2 } } } }

theorem test_witness_roomSync :
    apart.items.room.motors.get 0 = 2 ∧ (apart.roomUnit 0).a.driven = true ∧ (apart.roomUnit 0).b.driven = true
    ∧ (apart.roomUnit 0).a.atEnd = false ∧ (apart.roomUnit 0).b.atEnd = false
    ∧ apart.runningOp (.room 0) = some (0, record (job .roomIn (.room 0)) (.running (some .creep)))
    ∧ apart.items.room.syncLimit
        < ((apart.roomUnit 0).modMotor .a (fun x => { x with count := 59, run := 0, tally := 6, pulsed := true })).spread
    ∧ (∀ k, (apart.entryItem k).enabled = false) ∧ apart.someRoomOut = false ∧ apart.noneWaiting := by decide +kernel

/-- Ticks of a room: none driven, a single motor at the foot of its ramp and above it, two motors with A in the lead. -/
theorem test_witness_roomTick :
    (ready.roomUnit 0).noneDriven = true
    ∧ (let s := (roomOutAt .run 600).modRoom 0 (fun r => { r with demanded := 0, ramped := 50 })
       s.inm.parked = false ∧ s.items.configured (.room 0) = true ∧ (s.roomUnit 0).a.driven = true
       ∧ (s.roomUnit 0).breaking = false ∧ (s.roomUnit 0).demanded = 0
       ∧ max (s.roomUnit 0).demanded ((s.roomUnit 0).ramped - s.roomProfile.rampDown) = 0
       ∧ s.someRoomOut = false ∧ s.noneWaiting)
    ∧ ((roomOutAt .run 600).roomUnit 0).demanded ≠ 0
    ∧ ((apart.roomUnit 0).a.late = false ∧ (apart.roomUnit 0).b.late = false ∧ (apart.roomUnit 0).demanded ≠ 0
        ∧ (apart.roomUnit 0).a.dir = some .inward ∧ (apart.roomUnit 0).b.dir = some .inward
        ∧ (apart.roomUnit 0).a.count < (apart.roomUnit 0).b.count) := by decide +kernel

/-- A stall at the edge of the end zone and one short of it, and the other timers of a room. -/
theorem test_witness_roomTimers :
    ((ready.roomUnit 0).stallTimer = none ∧ (ready.roomUnit 0).breakTimer = none ∧ (ready.roomUnit 0).lateTimer = none
      ∧ (ready.roomUnit 0).jogTimer = none)
    ∧ (let s := (roomOutAt .creep 1175).modRoom 0
          (fun r => { r with stallTimer := some 900, jogTimer := some 900, breakTimer := some 900 })
       (s.roomUnit 0).stallTimer.isSome = true ∧ (s.roomUnit 0).jogTimer.isSome = true
       ∧ (s.roomUnit 0).breakTimer.isSome = true ∧ (s.roomUnit 0).a.pulsed = false ∧ 2 ≤ (s.roomUnit 0).a.tally
       ∧ (s.roomUnit 0).a.applied ≠ 0 ∧ (s.roomUnit 0).a.run + 1 < s.roomProfile.stallCount
       ∧ s.items.room.travel.get 0 - s.roomProfile.endZone ≤ (s.roomUnit 0).a.count
       ∧ ¬ s.items.room.travel.get 0 - s.roomProfile.endZone ≤ 1174
       ∧ s.roomProfile.stallCount ≤ 1 + 1 ∧ s.someRoomOut = false ∧ s.noneWaiting) := by decide +kernel

/-- A room whose last motor coasts, with each end before it. -/
theorem test_witness_roomCoast :
    ((ready.roomUnit 0).motor .a).coast = none
    ∧ (let s := (roomRun .roomIn .creep).modRoom 0
          (fun r => { r with a := { r.a with coast := some 900 }, pend := some .bySwitch })
       let u := s.modRoomMotor 0 .a (fun x => { x with coast := none })
       ((s.roomUnit 0).motor .a).coast.isSome = true ∧ (u.roomUnit 0).atRest = true
       ∧ s.activeOp (.room 0) = some (0, record (job .roomIn (.room 0)) (.running (some .creep)))
       ∧ (s.roomUnit 0).pend = some .bySwitch ∧ s.shut (.roomIn 0) = true ∧ s.items.room.faultAction ≠ .room
       ∧ (∀ k, (s.entryItem k).enabled = false) ∧ s.someRoomOut = false ∧ s.noneWaiting)
    ∧ (let s := (withOp (job .roomIn (.room 0)) (.stopping (.held .linkSilent) (some .run))).modRoom 0
          (fun r => { r with a := { r.a with coast := some 900 } })
       s.activeOp (.room 0) = some (0, record (job .roomIn (.room 0)) (.stopping (.held .linkSilent) (some .run)))) := by
  decide +kernel

/-- A room and an awning in CREEP, stopped toward HELD, their motors coasting. -/
def creepHeld (j : Job) : State :=
  ((withOp j (.stopping (.held .linkSilent) (some .creep))).modRoom 0 (fun r => { r with
    a := { r.a with coast := some 900 }, creeping := true })).modAwning (fun a => { a with
      motor := { a.motor with coast := some 900 }, creeping := true })

theorem test_witness_creepHeld :
    (let j := job .roomOut (.room 0)
     let s := creepHeld j
     ((s.roomUnit 0).motor .a).coast.isSome = true
     ∧ ((s.modRoomMotor 0 .a (fun x => { x with coast := none })).roomUnit 0).atRest = true
     ∧ s.activeOp (.room 0) = some (0, record j (.stopping (.held .linkSilent) (some .creep)))
     ∧ (∀ k, (s.entryItem k).enabled = false) ∧ s.someRoomOut = false ∧ s.noneWaiting)
    ∧ (let j := { job .awningSet .awning with value := some 500 }
       let s := creepHeld j
       s.awu.motor.coast.isSome = true ∧ s.awu.motor.driven = false
       ∧ s.activeOp .awning = some (0, record j (.stopping (.held .linkSilent) (some .creep)))
       ∧ (∀ k, (s.entryItem k).enabled = false) ∧ s.someRoomOut = false ∧ s.noneWaiting) := by decide +kernel

/-- R20, R99, R122: a hold keeps the CREEP of a room and the creep window of the awning, a STOP of the HELD operation, which
ends it, clears them. -/
theorem test_hold_keeps_creep :
    (let after := fun (c : Instr) (s : State) => match exec c s with
      | .next t => t
      | _ => s
     let t := after (.roomCoastExpiry 0) (creepHeld (job .roomOut (.room 0)))
     let u := after .awningCoastExpiry (creepHeld { job .awningSet .awning with value := some 500 })
     (t.opAt 0).map (fun o => o.state) = some (.held .linkSilent) ∧ (t.roomUnit 0).creeping = true ∧ u.awu.creeping = true
     ∧ ((after (.stop .coach [0, 33]) t).roomUnit 0).creeping = false
     ∧ (after (.stop .coach [0, 33]) u).awu.creeping = false) := by decide +kernel

/-- One entry with ROOM1 as its subject and the range 500 to 700, the motor at 599 of 1200 counts, that is at 499. -/
def nearEdge (action : ClearAction) : State :=
  let e : ClearEntry := { enabled := true, subject := .room 0, lo := 500, hi := 700, cond := .input .door .closed
                          action := action }
  let s := roomOutAt .creep 599
  { s with
    ist := { s.ist with items := { s.items with clearance := s.items.clearance.set 0 e } }
    clm := { s.clm with entries := s.clm.entries.set 0 ⟨true, false, some 499, none⟩ } }

theorem test_witness_clearance :
    ∀ a ∈ [ClearAction.detect, .protect],
      (let s := nearEdge a
       s.inm.parked = false ∧ s.inm.notReady = false ∧ s.items.configured (.room 0) = true ∧ s.noneWaiting
       ∧ s.someRoomOut = false ∧ s.items.room.motors.get 0 = 1
       ∧ (s.entryItem 0).enabled = true ∧ (s.entryItem 0).subject = .room 0 ∧ (s.entryItem 0).cond = .input .door .closed
       ∧ (∀ j, j ≠ 0 → (s.entryItem j).enabled = false) ∧ (s.entryUnit 0).active = s.activeNow (s.entryItem 0)
       ∧ (s.entryUnit 0).active = true ∧ (s.entryUnit 0).lastA = some 499 ∧ min 1000 (600 * 1000 / 1200) = 500
       ∧ s.activeOp (.room 0) = some (0, record (job .roomOut (.room 0)) (.running (some .creep)))
       ∧ (s.roomUnit 0).pend = none ∧ (s.roomUnit 0).b.driven = false ∧ (s.roomUnit 0).a.driven = true
       ∧ (s.roomUnit 0).referenced = true ∧ (s.roomUnit 0).breaking = false ∧ (s.roomUnit 0).breakTimer = none
       ∧ s.clm.ordered.get (Group.room 0).idx = false ∧ s.onePerGroup) := by decide +kernel

/-- R158: at the pulse onto the lower edge the PROTECT entry stops the room and sets its flag. -/
theorem test_edge_stop :
    (match exec (.roomHallPulse 0) (nearEdge .protect) with
      | .next t => some ((t.roomUnit 0).demanded, (t.roomUnit 0).pend, t.ntu.coach.entries)
      | _ => none) = some (0, some (.result (.partly .clearance)), 0x01#8) := by decide +kernel

/-- An awning operation that runs outward at a count toward a target. -/
def awningOutAt (count target : Nat) : State :=
  { withOp { job .awningSet .awning with value := some 500 } (.running (some .creep)) with
    awu := { ready.awu with
      motor := { outwardMotor with count := count }, referenced := true, demanded := 300, ramped := 300, creeping := true
      target := target, setDir := some .outward } }

/-- The awning ahead of a PROTECT range, in breakaway at its first pulse, and coasting. -/
theorem test_witness_clearance_awning :
    (let e : ClearEntry := { enabled := true, subject := .awning, lo := 500, hi := 500, cond := .group .jacks 0 0
                             action := .protect }
     let s := awningOutAt 1199 2400
     let s : State := { s with
        awu := { s.awu with breaking := true, breakTimer := some 900, motor := { s.awu.motor with tally := 0 } }
        ist := { s.ist with items := { s.items with clearance := s.items.clearance.set 3 e } }
        clm := { s.clm with entries := s.clm.entries.set 3 ⟨true, false, some 499, none⟩ } }
     (s.entryUnit 3).active = s.activeNow (s.entryItem 3) ∧ s.items.configured .awning = true
     ∧ s.awu.breaking = true ∧ s.awu.motor.tally = 0 ∧ s.awu.setDir = some .outward ∧ 1200 < s.awu.target
     ∧ s.activeOp .awning
        = some (0, record { job .awningSet .awning with value := some 500 } (.running (some .creep)))
     ∧ (let c := s.modAwningMotor (fun x => { x with driven := false, coast := some 900 })
        c.awu.motor.driven = false ∧ c.awu.motor.coast.isSome = true)) := by decide +kernel

theorem test_witness_awning :
    (ready.awu.motor.driven = false ∧ ready.awu.motor.coast = none ∧ ready.items.awn.present = true)
    ∧ ∀ n ∈ [1198, 1199],
      (let s := awningOutAt n 1200
       s.awu.motor.driven = true ∧ s.awu.breaking = false ∧ s.awu.breakTimer = none ∧ s.awu.creeping = true
       ∧ s.awu.pend = none ∧ s.awu.setDir = some .outward ∧ s.awu.target = 1200
       ∧ s.runningOp .awning
          = some (0, record { job .awningSet .awning with value := some 500 } (.running (some .creep)))
       ∧ (∀ k, (s.entryItem k).enabled = false) ∧ s.someRoomOut = false ∧ s.noneWaiting) := by decide +kernel

/-- The awning's timers running, and a motor that coasts. -/
theorem test_witness_awningTimers :
    (ready.awu.stallTimer = none ∧ ready.awu.breakTimer = none ∧ ready.awu.jogTimer = none ∧ ready.awu.motor.coast = none)
    ∧ (let s := (awningOutAt 2370 2400).modAwning
          (fun a => { a with stallTimer := some 900, breakTimer := some 900, jogTimer := some 900 })
       s.awu.stallTimer.isSome = true ∧ s.awu.breakTimer.isSome = true ∧ s.awu.jogTimer.isSome = true
       ∧ s.awu.motor.dir = some .outward ∧ s.awu.referenced = true
       ∧ s.items.awn.travel - s.awningProfile.endZone = s.awu.motor.count ∧ s.awu.motor.run + 1 < s.awningProfile.stallCount
       ∧ s.someRoomOut = false ∧ s.noneWaiting)
    ∧ (let s := (awningOutAt 1200 1200).modAwning (fun a => { a with
          motor := { a.motor with driven := false, coast := some 900 }, pend := some (.result .complete) })
       s.awu.motor.coast.isSome = true ∧ s.awu.motor.driven = false ∧ s.awu.pend = some (.result .complete)
       ∧ s.activeOp .awning
          = some (0, record { job .awningSet .awning with value := some 500 } (.running (some .creep)))) := by
  decide +kernel

/-- Gates without and with a trigger, a running lockout, and a stow that must wait. -/
theorem test_witness_windGates :
    ready.wind.lockout = none ∧ ({ ready.wind with gateTimer := none } : Wind).gateTimer = none
    ∧ ready.wind.gateTimer.isSome = true
    ∧ ¬ (ready.items.awn.gustLimit < (0 * ready.items.awn.windFactor + 50) / 100)
    ∧ ready.items.awn.gustLimit < (19 * ready.items.awn.windFactor + 50) / 100
    ∧ (ready.stowDue = false ∧ ready.activeOp .awning = none ∧ ready.Calm)
    ∧ (let s : State := { awningAway ready with sta := { ready.sta with supply := .cut } }
       s.stowDue = true ∧ s.busySlot .awning = none ∧ s.placeSlot = some 0 ∧ s.sta.queue = []
       ∧ s.blockedBy (s.newRecord s.internalTag stowJob) = some .supply
       ∧ (∀ k, (s.entryItem k).enabled = false) ∧ s.someRoomOut = false ∧ s.noneWaiting)
    ∧ (let s := awningOutAt 600 1200
       s.stowDue = false
       ∧ s.activeOp .awning
          = some (0, record { job .awningSet .awning with value := some 500 } (.running (some .creep)))
       ∧ s.awningDir (record { job .awningSet .awning with value := some 500 } (.running (some .creep))) = .outward) :=
  ⟨by decide +kernel, rfl, by decide +kernel, by decide +kernel, by decide +kernel,
    ⟨by decide +kernel, by decide +kernel, ready_calm⟩, by decide +kernel, by decide +kernel⟩

/-- A trigger gate with an awning operation that the stow supersedes, and one that wakes a parked part. -/
theorem test_witness_windStows :
    (let s := awningAway (withOp { job .awningSet .awning with value := some 900 } (.held .supplyLow))
     s.stowDue = true ∧ s.busySlot .awning = some 0 ∧ s.opAt 1 = none ∧ (∀ i, i < (1 : Slot) → (s.opAt i).isSome = true)
     ∧ (∀ i, i ≠ 0 → ∀ o ∈ s.opAt i, o.state.isAdmitted = false) ∧ s.sta.queue = []
     ∧ (∀ k, (s.entryItem k).enabled = false) ∧ s.someRoomOut = false)
    ∧ (let s := awningAway parked
       s.inm.parked = true ∧ s.stowDue = true ∧ s.placeSlot = some 0 ∧ s.allEnded ∧ s.sta.queue = []
       ∧ (∀ i, (s.input i).lastPoll = none ∧ (s.input i).pending = none))
    ∧ parked.stowDue = false := by decide +kernel

/-- An input with its timers running, before its first debounce and after. -/
def inputTiming (i : Input) (first : Bool) : State :=
  ready.modInput i (fun u => { u with
    firstDone := first, debounced := if first then u.debounced else none, debounce := some 900, faultTimer := some 900
    firstReading := some .opened })

theorem test_witness_inputTimers :
    parked.inm.parked = true ∧ ready.inm.parked = false ∧ ready.inm.notReady = false
    ∧ ready.funcOf 11 = .none ∧ ready.funcOf 2 = .door
    ∧ ((ready.input 2).fault = false ∧ (readLevel (ready.items.inp.invert.get 2) .pullUp).contact = some .opened
        ∧ (ready.input 2).firstDone = true ∧ (ready.input 2).debounced ≠ some .opened ∧ (ready.input 2).debounce = none)
    ∧ ((inputTiming 2 false).input 2).debounce.isSome = true ∧ ((inputTiming 2 false).input 2).firstDone = false
    ∧ ((inputTiming 2 false).input 2).firstReading = some .opened ∧ (inputTiming 2 false).funcOf 2 = .door
    ∧ ((inputTiming 2 true).input 2).faultTimer.isSome = true ∧ ((inputTiming 2 true).input 2).debounced.isSome = true
    ∧ (ready.input 2).debounce = none ∧ (ready.input 2).faultTimer = none
    ∧ (inputTiming 2 true).someRoomOut = false ∧ (inputTiming 2 true).noneWaiting := by decide +kernel

/-- Start-up with a first debounce running, one that reads short at its expiry, and a ROOM_IN that reads closed. -/
theorem test_witness_firstDebounces :
    (let s : State := { inputTiming 2 false with inm := { (inputTiming 2 false).inm with notReady := true } }
     s.inm.notReady = true ∧ s.funcOf 2 ≠ .none ∧ (s.input 2).firstDone = false ∧ s.noneWaiting ∧ s.someRoomOut = false)
    ∧ (let s := (inputTiming 2 false).modInput 2 (fun u => { u with level := .battery })
       s.reading 2 = .short)
    ∧ (let s := (inputTiming 4 false).modInput 4 (fun u => { u with firstReading := some .closed })
       s.funcOf 4 = .roomIn 0 ∧ s.items.configured (.room 0) = true ∧ s.reading 4 ≠ .short
       ∧ (∀ j, j ≠ 4 → s.funcOf j ≠ s.funcOf 4) ∧ s.runsOnly (fun g => !(g == .jacks)) ∧ s.noneWaiting
       ∧ (∀ k, (s.entryItem k).enabled = false))
    ∧ (let s := (inputTiming 10 false).modInput 10 (fun u => { u with firstReading := some .closed })
       s.funcOf 10 = .awningIn ∧ s.items.awn.present = true)
    ∧ ((inputTiming 2 false).input 2).debounced = none := by decide +kernel

/-- A debounce about to expire on the door, the park brake, the E-stop, and on a ROOM_IN input that reads open. -/
theorem test_witness_debounce :
    (∀ i ∈ ([0, 2, 3] : List Input),
      (let s := inputTiming i true
       (s.input i).debounce.isSome = true ∧ (s.input i).firstDone = true ∧ s.inm.parked = false
       ∧ (s.input i).debounced = some .closed ∧ s.inm.notReady = false ∧ s.someRoomOut = false ∧ s.noneWaiting
       ∧ (∀ k, (s.entryItem k).enabled = false)))
    ∧ (inputTiming 0 true).inputOf .parkBrake = some 0 ∧ (inputTiming 2 true).funcOf 2 = .door
    ∧ (inputTiming 3 true).inputOf .eStop = some 3
    ∧ (let s : State := { inputTiming 0 true with ist := { ready.ist with items := { ready.items with awn :=
          { ready.items.awn with present := false } } } }
       s.items.awn.present = false)
    ∧ (let s := (roomAway ready).modInput 4 (fun u => { u with debounce := some 900 })
       s.inputOf (.roomIn 0) = some 4 ∧ (s.input 4).debounced = some .opened ∧ (s.input 4).debounce.isSome = true
       ∧ s.items.configured (.room 0) = true ∧ s.activeOp (.room 0) = none ∧ s.noneWaiting
       ∧ s.runsOnly (fun g => !(g == .jacks)) ∧ (∀ k, (s.entryItem k).enabled = false)) := by decide +kernel

/-! ### Witnesses of the clauses over a running operation, a grant, and a stow -/

/-- A state with no clearance entry enabled and nothing waiting, in which only the rooms or the awning may run. -/
abbrev calmAway (s : State) : Prop :=
  (∀ k, (s.entryItem k).enabled = false) ∧ s.runsOnly (fun g => !(g == .jacks)) ∧ s.noneWaiting

/-- A state with no clearance entry enabled, every room home and nothing waiting. -/
abbrev calmHome (s : State) : Prop :=
  (∀ k, (s.entryItem k).enabled = false) ∧ s.someRoomOut = false ∧ s.noneWaiting

/-- A good frame about to end on a link that takes frames, of a request's KIND and of no known one; and a third one. -/
theorem test_witness_frameTaken :
    (∀ l ∈ [Link.coach, .service],
      (let s := ready.modLink l (fun u => { u with assembler := .crc 0 2 [] (some statusLow) })
       s.inm.parked = false ∧ (s.link l).assembler = .crc 0 2 [] (some statusLow) ∧ (s.link l).buffer = []
       ∧ s.mayTake l = true ∧ (∀ m ∈ [Link.coach, .service], (s.link m).buffer = []) ∧ calmHome s)
      ∧ (let s := (storing l).modLink l (fun u => { u with buffer := [⟨1, []⟩, ⟨1, []⟩] })
         s.mayTake l = false ∧ 2 ≤ (s.link l).buffer.length
         ∧ (∀ m ∈ [Link.coach, .service], m ≠ l → (s.link m).buffer = []) ∧ calmHome s))
    ∧ (0x02#8, Instr.status .coach []) ∈ requestRows .coach []
    ∧ ∀ d, (0x7F#8, d) ∉ requestRows .coach [] :=
  ⟨by decide +kernel, by decide +kernel, fun _ h =>
    (by decide +kernel : ∀ r ∈ requestRows .coach [], r.1 ≠ 0x7F#8) _ h rfl⟩

/-- A stow due at link loss and at a brake release: over a waiting ROOM_OUT, over a held AWNING_SET, over none. -/
theorem test_witness_stowsCreated :
    ∀ u ∈ [queued (job .roomOut (.room 0)), withOp { job .awningSet .awning with value := some 900 } (.held .linkSilent)],
      (let s : State := { (awningAway u).modInput 0 (fun u => { u with debounce := some 900 }) with
          liu := { ready.liu with watchdog := some 900 }
          ist := { ready.ist with items := { ready.items with awn := { ready.items.awn with stowOnLinkLoss := true } } } }
       s.liu.watchdog.isSome = true ∧ s.items.awn.stowOnLinkLoss = true ∧ s.stowDue = true
       ∧ (∀ k, (s.entryItem k).enabled = false) ∧ s.someRoomOut = false
       ∧ (∀ k, ∀ o ∈ s.opAt k, o.state.isAdmitted = true →
          o.job.origin = .link ∧ o.opClass = .normal ∧ s.deployingOp o = true)
       ∧ (∀ q ∈ s.sta.queue, (s.opAt q).any (fun o => o.state.isAdmitted) = true)
       ∧ s.opAt 1 = none ∧ (∀ i, i < (1 : Slot) → (s.opAt i).isSome = true) ∧ s.onePerGroup
       ∧ s.inputOf .parkBrake = some 0 ∧ (s.input 0).debounced = some .closed ∧ (s.input 0).debounce.isSome = true
       ∧ (s.input 0).firstDone = true) := by decide +kernel

/-- A LEVELLED part whose window gives this pitch at the next sample of it. -/
def levelled (pitch : Int) (drift : Option Nat) : State :=
  { tilted pitch 0 with
    atu := { (tilted pitch 0).atu with window := List.replicate 8 ⟨pitch, 0⟩, drift := drift }
    lvc := { ready.lvc with levelled := true } }

/-- The drift bound and one centidegree beyond it, with the timer stopped and running. -/
theorem test_witness_driftBound :
    (∀ p ∈ ([60, 61] : List Int), ∀ d ∈ [none, some 900],
      (levelled p d).jacksCondition = .levelled ∧ (levelled p d).inm.parked = false ∧ (levelled p d).atu.drift = d
      ∧ (levelled p d).runningOp .jacks = none
      ∧ filterTilt ((levelled p d).atu.window.drop 1 ++ [⟨p, 0⟩]) = ⟨p, 0⟩ ∧ calmHome (levelled p d))
    ∧ ready.items.jack.levelTolerance + ready.items.att.driftMargin = 60 ∧ ready.jacksCondition ≠ .levelled := by
  decide +kernel

/-- A state with this record ADMITTED and alone in the queue, the stagger timer running. -/
def atHead (s : State) (j : Job) (resumed : Bool) : State :=
  { s.setOp 0 { record j (.admitted .queue) with resumed := resumed } with
    sta := { s.sta with queue := [0], stagger := some 900 } }

/-- The record of the first slot is alone in the queue and passes the four tests at the timer's expiry. -/
abbrev passesWith (u : State) (o : Op) : Prop :=
  u.sta.stagger.isSome = true ∧ (∀ k, (u.entryItem k).enabled = false) ∧ u.runsOnly (fun g => !(g == .jacks))
  ∧ u.onePerGroup ∧ u.sta.queue = [0] ∧ u.opAt 0 = some o ∧ o.state.isAdmitted = true
  ∧ ({ u with sta := { u.sta with stagger := none } } : State).blockedBy o = none

/-- The record of `atHead` passes. -/
def passes (s : State) (j : Job) (resumed : Bool) : Bool :=
  decide (passesWith (atHead s j resumed) { record j (.admitted .queue) with resumed := resumed })

/-- The ready part with rooms of two motors, ROOM1's at these counts, and slide_fault_action ROOM. -/
def twoMotors (a b : Nat) : State :=
  let s := ready.modRoom 0 (fun r => { r with
    referenced := true, a := { r.a with count := a }, b := { r.b with count := b } })
  { s with ist := { s.ist with items := { s.items with room := { s.items.room with
      motors := Bank.fill 4 2, faultAction := .room } } } }

/-- Grants of rooms: a jog, two motors in step and out of step either way and at the limit, and one that needs no motion. -/
theorem test_witness_roomGrants :
    (passes ready { job .roomJog (.room 0) with dir := some .inward, value := some 500 } false
      ∧ ready.items.room.motors.get 0 ≠ 2)
    ∧ (passes ready (job .roomIn (.room 0)) true ∧ ready.roomIdleJob 0 (job .roomIn (.room 0)) = true)
    ∧ (∀ c ∈ [(100, 60), (100, 59), (59, 100)],
        passes (twoMotors c.1 c.2) (job .roomIn (.room 0)) false ∧ passes (twoMotors c.1 c.2) (job .roomOut (.room 0)) false)
    ∧ (twoMotors 0 0).items.room.motors.get 0 = 2 ∧ (twoMotors 0 0).items.room.syncLimit = 40
    ∧ ((twoMotors 100 60).roomUnit 0).spread = 40 ∧ ((twoMotors 100 59).roomUnit 0).spread = 41
    ∧ ((twoMotors 59 100).roomUnit 0).spread = 41 ∧ (twoMotors 0 0).items.room.faultAction = .room
    ∧ (job .roomIn (.room 0)).roomDir = .inward ∧ (job .roomOut (.room 0)).roomDir = .outward := by decide +kernel

/-- The part with every jack in contact. -/
def grounded : State := { ready with lvc := { ready.lvc with
  jacks := ready.lvc.jacks.map (fun u => { u with contact := true }), groundDone := true } }

/-- The part with JACK_UP(LF) open. -/
def jackDown : State := ready.modInput 6 (fun u => { u with debounced := some .opened })

/-- Grants of the jacks: in each kind, idle, barred, with and without every jack in contact, and resumed after GROUND. -/
theorem test_witness_jackGrants :
    (∀ k ∈ [OpKind.level, .ground],
      passes ready (job k .jacks) false ∧ passes grounded (job k .jacks) false ∧ passes grounded (job k .jacks) true)
    ∧ ((∃ j ∈ ready.items.jacks, (ready.jack j).contact = false) ∧ (∀ j ∈ grounded.items.jacks, (grounded.jack j).contact = true)
        ∧ grounded.lvc.groundDone = true ∧ grounded.jacksIdleJob (job .ground .jacks) = true
        ∧ grounded.jacksIdleJob (job .level .jacks) = false)
    ∧ (passes jackDown (job .jacksStow .jacks) false ∧ (0 : Jack) ∈ jackDown.items.jacks ∧ jackDown.shut (.jackUp 0) = false)
    ∧ (passes (roomAway jackDown) (job .jacksStow .jacks) false ∧ (0 : Room) ∈ (roomAway jackDown).items.rooms
        ∧ (roomAway jackDown).roomCondition 0 ≠ .inside ∧ ∀ n ∈ jackDown.items.rooms, jackDown.roomCondition n = .inside)
    ∧ (∀ d ∈ [Dir.outward, .inward],
        passes jackDown { job .jackJog .jacks with sub := some 0, dir := some d, value := some 500 } false) := by
  decide +kernel

/-- Grants of the awning: both kinds and directions, in calm air and with the trigger, resumed, and resumed at the target. -/
theorem test_witness_awningGrants :
    (∀ v ∈ [0, 400, 900], ∀ b ∈ [false, true], passes (awningAway ready) { job .awningSet .awning with value := some v } b)
    ∧ (∀ d ∈ [Dir.outward, .inward],
        passes (awningAway ready) { job .awningJog .awning with dir := some d, value := some 500 } false)
    ∧ (passes (awningAway ready) { job .awningSet .awning with value := some 500 } true
        ∧ (awningAway ready).awningIdleJob { job .awningSet .awning with value := some 500 } = true
        ∧ (awningAway ready).awningIdleJob { job .awningSet .awning with value := some 900 } = false)
    ∧ (let s : State := { awningAway ready with wind := { ready.wind with trigger := true } }
       passes s { job .awningJog .awning with dir := some .outward, value := some 500 } false ∧ s.wind.trigger = true)
    ∧ (ready.wind.lockout = none ∧ ready.wind.trigger = false)
    ∧ (record { job .awningSet .awning with value := some 400 } (.admitted .queue)).opClass = .normal := by decide +kernel

/-- A JACKS operation with LF extending in a phase, every jack at this stroke. -/
def working (k : OpKind) (ph : Phase) (stroke : Nat) : State :=
  (({ jacksRun k ph with lvc := { ready.lvc with jacks := ready.lvc.jacks.map (fun u => { u with stroke := stroke }) } }
    : State).modJack 0 (fun u => { u with extending := true, target := 100, taken := true }))

/-- One jack sample that reads the same of every jack. -/
def sampled (stroke pressure : Int) : Bank JackReading 6 := Bank.fill 6 { stroke := stroke, pressure := pressure }

/-- Jack samples under an operation, in each phase: the stroke limit 585 and one below it, a LIFT target of 100 and one
below it, the contact pressure 20 and one below it, 30 mm of TOUCHDOWN and one less, and readings out of range. -/
theorem test_witness_jackSampleRuns :
    (∀ p ∈ [(OpKind.level, Phase.ground), (.ground, .ground), (.level, .lift), (.level, .touchdown), (.level, .settle),
        (.jacksStow, .move), (.jackJog, .move)],
      (let s := working p.1 p.2 50
       s.inm.parked = false ∧ s.lvc.pend = none
       ∧ s.runningOp .jacks = some (0, record (job p.1 .jacks) (.running (some p.2))) ∧ calmHome s
       ∧ (∀ j ∈ s.items.jacks, (s.jack j).sensorFault = false)
       ∧ s.items.jacks = [0, 1, 4, 5] ∧ (s.jack 0).extending = true ∧ (s.jack 0).target = 100 ∧ (s.jack 0).taken = true))
    ∧ (ready.strokeLimit 0 = 585 ∧ ready.items.jack.contactPressure = 20)
    ∧ (∀ x ∈ ([584, 585, 99, 100, 79, 80] : List Int), ∀ p ∈ ([19, 20] : List Int),
        ((sampled x p).get 0).stroke = x ∧ ((sampled x p).get 0).pressure = p ∧ x ≤ 610)
    ∧ (((sampled (-1) 0).get 0).stroke = -1 ∧ ((sampled 0 251).get 0).pressure = 251)
    ∧ (let s : State := { working .level .touchdown 50 with lvc := { (working .level .touchdown 50).lvc with
          landing := some (0, 50) } }
       s.lvc.landing = some (0, 50) ∧ (0 : Jack) ∈ s.items.jacks
       ∧ s.items.jacks.find? (fun i => !(s.jack i).contact && !(s.jack i).taken) = some 1
       ∧ (let t := s.modJacks (fun u => { u with taken := true })
          ∀ k ∈ t.items.jacks, (t.jack k).taken = true))
    ∧ (let s := withOp { job .jackJog .jacks with sub := some 0, dir := some .outward } (.running (some .move))
       s.runningOp .jacks
        = some (0, record { job .jackJog .jacks with sub := some 0, dir := some .outward } (.running (some .move)))) := by
  decide +kernel

/-- ROOM1 in breakaway, its motors driven with these tallies at these counts. -/
def breakingAway (k : OpKind) (d : Dir) (two : Bool) (a b : Nat × Nat) : State :=
  let put := fun (on : Bool) (p : Nat × Nat) (m : Motor) => ({ m with
    dir := some d, driven := on, started := on, applied := 1000, tally := p.1, count := p.2 } : Motor)
  let s := (withOp { job k (.room 0) with dir := some d } (.running (some .breakaway))).modRoom 0 (fun r => { r with
    a := put true a r.a, b := put two b r.b, referenced := true, ramped := 1000, breaking := true
    breakTimer := some 900, lateTimer := none, pend := none })
  { s with ist := { s.ist with items := { s.items with room := { s.items.room with
      motors := Bank.fill 4 (if two then 2 else 1) } } } }

/-- What the clauses on a breakaway ask of the room. -/
def breaks (s : State) : Bool := decide
  (s.inm.parked = false ∧ s.items.configured (.room 0) = true ∧ (s.roomUnit 0).a.driven = true ∧ (s.roomUnit 0).a.late = false
   ∧ (s.roomUnit 0).b.late = false ∧ (s.roomUnit 0).breaking = true ∧ (s.roomUnit 0).breakTimer.isSome = true
   ∧ (s.roomUnit 0).pend = none ∧ (s.runningOp (.room 0)).isSome = true ∧ (s.roomUnit 0).a.dir = (s.roomUnit 0).b.dir
   ∧ (s.roomUnit 0).spread ≤ s.items.room.syncLimit ∧ s.items.room.travel.get 0 = 1200 ∧ calmAway s)

/-- Breakaways of one motor and of two, with the tally before and at the pulse that ends it, a jog, and the pulse onto
the creep window (60 counts) and one before it, either way. -/
theorem test_witness_roomBreakaway :
    (∀ t ∈ [0, 1], ∀ n ∈ [10, 1138, 1139],
      breaks (breakingAway .roomOut .outward false (t, n) (0, n)) ∧ breaks (breakingAway .roomOut .outward true (t, n) (2, n))
      ∧ breaks (breakingAway .roomOut .outward true (t, n) (1, n))
      ∧ breaks (breakingAway .roomJog .outward false (t, n) (0, n)))
    ∧ (∀ n ∈ [61, 62], breaks (breakingAway .roomIn .inward false (1, n) (0, n)))
    ∧ ready.roomProfile.creepWindow = 60 ∧ (channelRoom 0 = 0 ∧ channelMotor 0 = .a)
    ∧ ((breakingAway .roomOut .outward true (1, 10) (2, 10)).roomUnit 0).b.started = true := by decide +kernel

/-- ROOM1 running alone inward with motor A, motor B not started, out of step. -/
def alone (a b : Nat) : State :=
  let s := breakingAway .roomIn .inward true (5, a) (0, b)
  (s.setOp 0 (record (job .roomIn (.room 0)) (.running (some .creep)))).modRoom 0 (fun r => { r with
    b := { r.b with driven := false, started := false }, breaking := false, breakTimer := none })

/-- The pulse that brings the counts within 40, and one that does not; then the second motor's own breakaway. -/
theorem test_witness_roomLateStart :
    (∀ n ∈ [82, 81],
      ((alone n 40).roomUnit 0).a.started = true ∧ ((alone n 40).roomUnit 0).b.started = false
      ∧ ((alone n 40).roomUnit 0).b.driven = false ∧ ((alone n 40).roomUnit 0).breakTimer = none
      ∧ ((alone n 40).roomUnit 0).pend = none
      ∧ (alone n 40).runningOp (.room 0) = some (0, record (job .roomIn (.room 0)) (.running (some .creep)))
      ∧ calmAway (alone n 40))
    ∧ ((((alone 82 40).roomUnit 0).modMotor .a (fun x => { x with count := 81 })).spread = 41
        ∧ (((alone 81 40).roomUnit 0).modMotor .a (fun x => { x with count := 80 })).spread = 40)
    ∧ (∀ t ∈ [1, 2],
        (let s := (breakingAway .roomIn .inward true (5, 80) (t, 70)).modRoom 0 (fun r => { r with
            breaking := false, breakTimer := none, lateTimer := some 900, b := { r.b with late := true } })
         (s.roomUnit 0).lateTimer.isSome = true ∧ (s.roomUnit 0).b.late = true ∧ (s.roomUnit 0).a.driven = true
         ∧ (s.roomUnit 0).b.driven = true ∧ (s.roomUnit 0).b.tally = t ∧ ready.roomProfile.endZone < 70 ∧ calmAway s)) := by
  decide +kernel

/-- A ROOM_IN of one motor in RUN inward at a count, granted on a referenced room or not. -/
def homing (count : Nat) (blind : Bool) : State :=
  ((breakingAway .roomIn .inward false (5, count) (0, 0)).setOp 0
    (record (job .roomIn (.room 0)) (.running (some .run)))).modRoom 0 (fun r => { r with
      a := { r.a with applied := 850 }, breaking := false, breakTimer := none, demanded := 850, ramped := 850
      blind := blind })

/-- The pulse onto the creep window (60 counts) and one before it, on a room referenced at the grant and not. -/
theorem test_witness_roomInCreep :
    ∀ b ∈ [false, true], ∀ n ∈ [61, 62],
      (let s := homing n b
       s.inm.parked = false ∧ (s.roomUnit 0).a.driven = true ∧ (s.roomUnit 0).b.driven = false
       ∧ (s.roomUnit 0).b.late = false ∧ (s.roomUnit 0).a.late = false ∧ (s.roomUnit 0).breaking = false
       ∧ (s.roomUnit 0).breakTimer = none ∧ (s.roomUnit 0).pend = none ∧ s.items.room.motors.get 0 = 1
       ∧ s.runningOp (.room 0) = some (0, record (job .roomIn (.room 0)) (.running (some .run)))
       ∧ (s.roomUnit 0).a.dir = some (job .roomIn (.room 0)).roomDir ∧ (s.roomUnit 0).blind = b ∧ calmAway s) := by
  decide +kernel

/-- R99: the pulse onto the creep window enters CREEP, and RUN goes on for a ROOM_IN of an unreferenced room. -/
theorem test_room_in_of_unreferenced_room_stays_in_run :
    (∀ p ∈ [(false, Phase.creep), (true, .run)],
      (match exec (.roomHallPulse 0) (homing 61 p.1) with
        | .next t => (t.opAt 0).map (fun o => o.state)
        | _ => none) = some (.running (some p.2))) := by decide +kernel

/-- The breakaway timer of two motors, B short of its second pulse at the edge of the end zone and inside the room. -/
theorem test_witness_roomBreakTimer :
    (∀ n ∈ [600, 1174, 1175],
      (let s := breakingAway .roomOut .outward true (2, n) (1, n)
       breaks s ∧ (s.roomUnit 0).b.driven = true ∧ (s.roomUnit 0).b.tally < 2 ∧ 2 ≤ (s.roomUnit 0).a.tally
       ∧ (s.roomUnit 0).referenced = true))
    ∧ 1200 - ready.roomProfile.endZone = 1175
    ∧ (let s := (breakingAway .roomOut .outward false (2, 600) (0, 0)).modRoom 0 (fun r => { r with breaking := false })
       (s.roomUnit 0).breakTimer.isSome = true ∧ 2 ≤ (s.roomUnit 0).a.tally ∧ (s.roomUnit 0).breaking = false) := by
  decide +kernel

/-- An awning operation in breakaway, with this tally and count. -/
def awningBreaking (j : Job) (tally count : Nat) : State :=
  (withOp j (.running (some .breakaway))).modAwning (fun a => { a with
    motor := { outwardMotor with tally := tally, count := count }, referenced := true, setDir := some .outward
    target := 1200, ramped := 1000, breaking := true, breakTimer := some 900, pend := none })

/-- Breakaways of the awning: each kind, the pulses before and at the end, onto the creep window and one before it. -/
theorem test_witness_awningBreakaway :
    (∀ j ∈ [{ job .awningSet .awning with value := some 500 },
        { job .awningJog .awning with dir := some .outward, value := some 500 }],
      ∀ t ∈ [0, 1, 2], ∀ n ∈ [100, 1200 - 2 - ready.awningProfile.creepWindow, 1200 - 1 - ready.awningProfile.creepWindow],
        (let s := awningBreaking j t n
         s.awu.motor.driven = true ∧ s.awu.breaking = true ∧ s.awu.breakTimer.isSome = true ∧ s.awu.pend = none
         ∧ s.awu.setDir = some .outward ∧ s.awu.motor.count + 1 < s.awu.target ∧ s.awu.referenced = true
         ∧ s.inm.parked = false ∧ s.items.awn.present = true
         ∧ s.runningOp .awning = some (0, record j (.running (some .breakaway))) ∧ calmHome s)) := by
  decide +kernel

/-- The second pulse after a RESUME, with the counts outside the creep window: CREEP where it was entered before the hold. -/
theorem test_witness_resumedCreep :
    ∀ b ∈ [false, true],
      (let s := (breakingAway .roomOut .outward false (1, 10) (0, 10)).modRoom 0 (fun r => { r with creeping := b })
       let u := (awningBreaking { job .awningSet .awning with value := some 500 } 1 100).modAwning
         (fun a => { a with creeping := b })
       breaks s ∧ (s.roomUnit 0).creeping = b ∧ u.awu.creeping = b ∧ u.awu.breakTimer.isSome = true ∧ calmHome u) := by
  decide +kernel

theorem test_resumed_creep :
    ∀ p ∈ [(false, Phase.run), (true, .creep)],
      (let phase := fun (c : Instr) (s : State) => match exec c s with
        | .next t => (t.opAt 0).bind (fun o => o.state.phase)
        | _ => none
       phase (.roomHallPulse 0)
          ((breakingAway .roomOut .outward false (1, 10) (0, 10)).modRoom 0 (fun r => { r with creeping := p.1 })) = some p.2
       ∧ phase .awningHallPulse ((awningBreaking { job .awningSet .awning with value := some 500 } 1 100).modAwning
          (fun a => { a with creeping := p.1 })) = some p.2) := by decide +kernel

/-- ROOM_IN, JACK_UP and AWNING_IN about to close under an operation that runs: outward and inward, and a JACKS_STOW with
the other jacks up and not, a jog of the jack, and a LEVEL, with the pump on and off. -/
theorem test_witness_homeSwitches :
    (∀ p ∈ [(OpKind.roomOut, Dir.outward), (.roomIn, .inward), (.roomJog, .inward)],
      (let s := (breakingAway p.1 p.2 false (2, 10) (0, 0)).modInput 4
          (fun u => { u with debounced := some .opened, debounce := some 900 })
       s.inputOf (.roomIn 0) = some 4 ∧ (s.input 4).debounced = some .opened ∧ (s.input 4).debounce.isSome = true
       ∧ (s.input 4).firstDone = true ∧ s.items.configured (.room 0) = true ∧ (s.runningOp (.room 0)).isSome = true
       ∧ (s.roomUnit 0).pend = none ∧ s.inm.parked = false ∧ s.inm.notReady = false ∧ calmAway s))
    ∧ (∀ j ∈ [job .jacksStow .jacks, { job .jackJog .jacks with dir := some .inward, sub := some 0 }, job .level .jacks],
        ∀ pump ∈ [0, 1000], ∀ other ∈ [Contact.closed, .opened],
        (let s := ((withOp j (.running (some .move))).modInput 6 (fun u => { u with
            debounced := some .opened, debounce := some 900 })).modInput 7 (fun u => { u with debounced := some other })
         let s : State := { s with lvc := { s.lvc with pump := pump } }
         s.inputOf (.jackUp 0) = some 6 ∧ (0 : Jack) ∈ s.items.jacks ∧ s.lvc.pend = none ∧ (s.input 6).firstDone = true
         ∧ s.runningOp .jacks = some (0, record j (.running (some .move)))
         ∧ ((∀ k ∈ s.items.jacks, k ≠ 0 → s.shut (.jackUp k) = true) ↔ other = .closed) ∧ calmHome s))
    ∧ (∀ d ∈ [Dir.outward, .inward],
        (let s := ((awningBreaking { job .awningSet .awning with value := some 500 } 2 600).modAwning (fun a => { a with
            setDir := some d, motor := { a.motor with dir := some d } })).modInput 10
              (fun u => { u with debounced := some .opened, debounce := some 900 })
         s.inputOf .awningIn = some 10 ∧ (s.input 10).debounced = some .opened ∧ (s.input 10).firstDone = true
         ∧ s.awningDir (record { job .awningSet .awning with value := some 500 } (.running (some .breakaway))) = d
         ∧ s.awu.motor.driven = true ∧ s.awu.pend = none ∧ calmHome s)) :=
  ⟨by decide +kernel, by decide +kernel, by decide +kernel⟩

/-- AWNING_IN about to close with no operation, the awning present and absent. -/
def awningClosing (present : Bool) : State :=
  let s := (awningAway ready).modInput 10 (fun u => { u with debounce := some 900 })
  { s with ist := { s.ist with items := { s.items with awn := { s.items.awn with present := present } } } }

/-- R118: AWNING_IN closing references the awning at count 0, whether it is present or not. -/
theorem test_awning_in_references :
    ∀ b ∈ [false, true],
      (let s := awningClosing b
       (s.inputOf .awningIn = some 10 ∧ (s.input 10).debounced = some .opened ∧ (s.input 10).debounce.isSome = true
         ∧ (s.input 10).firstDone = true ∧ s.activeOp .awning = none ∧ s.awu.motor.count = 1200 ∧ calmHome s)
       ∧ (match exec (.debounceExpiry 10) s with
          | .next t => some (t.awu.motor.count, t.awu.referenced)
          | _ => none) = some (0, true)) := by decide +kernel

/-- R140, R118: an inversion that makes AWNING_IN read closed references the awning at count 0, and may be set so. -/
theorem test_inversion_references_awning :
    (let s := awningAway ready
     s.itemRefusal (.invert 10) 1 = none ∧ s.itemGroupActive (ItemKey.invert 10).group = false
     ∧ s.items.put (.invert 10) ((ItemKey.invert 10).domain.fit 1) ≠ s.items ∧ calmHome s)
    ∧ (match exec (.setItem .coach [111, 0, 10, 1, 0, 0, 0]) (awningAway ready) with
      | .next t => some (t.awu.motor.count, t.awu.referenced, t.shut .awningIn)
      | _ => none) = some (0, true, true) := by decide +kernel

/-- R23's list: deploying by its kind, by a jog's direction, by an AWNING_SET's motor, and by its target. -/
theorem test_witness_deploying :
    ready.deployingOp (record (job .level .jacks) (.held .supplyLow)) = true
    ∧ ready.deployingOp (record { job .roomJog (.room 0) with dir := some .outward } (.held .supplyLow)) = true
    ∧ (awningOutAt 600 1200).deployingOp
        (record { job .awningSet .awning with value := some 500 } (.running (some .creep))) = true
    ∧ (awningAway ready).deployingOp (record { job .awningSet .awning with value := some 501 } (.held .supplyLow)) = true
    ∧ (awningAway ready).deployingOp (record { job .awningSet .awning with value := some 500 } (.held .supplyLow)) = false
    ∧ ready.deployingOp (record (job .roomIn (.room 0)) (.held .supplyLow)) = false := by decide +kernel

/-! ### Witnesses of the clauses over waiting operations, two motors, and switches that open -/

/-- ROOM1's operation at its last coast window in a state, a GROUND waiting behind the frame rule. -/
def lastCoast (st : OpState) : State :=
  let s := (frameWaits.setOp 0 (record (job .roomOut (.room 0)) st)).modRoom 0 (fun r => { r with
    a := { r.a with driven := false, coast := some 900 }, pend := some .bySwitch, demanded := 0, ramped := 0 })
  lone s 500

/-- Each way to leave RUNNING or STOPPING with an operation waiting. -/
theorem test_witness_coastExamines :
    ∀ st ∈ [OpState.running (some .run), .stopping (.ended (.cancelled .stop)) (some .run),
        .stopping (.held .linkSilent) (some .run)],
      ((((lastCoast st).roomUnit 0).motor .a).coast.isSome = true
        ∧ (((lastCoast st).modRoomMotor 0 .a (fun x => { x with coast := none })).roomUnit 0).atRest = true
        ∧ (lastCoast st).activeOp (.room 0) = some (0, record (job .roomOut (.room 0)) st)
        ∧ ((lastCoast st).roomUnit 0).pend = some .bySwitch)
      ∧ (lastCoast st).Books ∧ (lastCoast st).Plain := by
  intro st h
  simp only [List.mem_cons, List.not_mem_nil, or_false] at h
  rcases h with rfl | rfl | rfl
  all_goals exact ⟨by decide +kernel,
    books_of (by decide +kernel) (by decide +kernel) (by decide +kernel) (by decide +kernel), plain_of (by decide +kernel)⟩

/-- R30, R33: the room's last coast window lets the waiting GROUND start. -/
theorem test_frame_lifts :
    (∀ st ∈ [OpState.running (some .run), .stopping (.held .linkSilent) (some .run)],
      (match exec (.roomCoastExpiry 0) (lastCoast st) with
        | .next t => (t.opAt 1).map (fun o => o.state)
        | _ => none) = some (.running (some .ground))) := by decide +kernel

/-- A gate about to trigger, a stow due: with none waiting, and ahead of a GROUND that the frame rule stops. -/
theorem test_witness_stowGrants :
    ∀ s ∈ [lone (awningAway ready) 500, lone (awningAway frameWaits) 500],
      (let s : State := { s with wind := { s.wind with gateCount := 19 } }
       let o : Op := { tag := s.internalTag, job := stowJob, state := .admitted .queue, pass := 0
                       admission := s.opt.admissions + 1, reservation := s.items.supply.shareAwning, resumed := false }
       (s.wind.gateTimer.isSome = true ∧ s.items.awn.gustLimit < (s.wind.gateCount * s.items.awn.windFactor + 50) / 100
        ∧ s.items.awn.gustLimit ≠ 0 ∧ s.inm.parked = false ∧ s.stowDue = true ∧ s.busySlot .awning = none
        ∧ (s.placeSlot).isSome = true ∧ s.blockedBy o = none ∧ s.items.supply.staggerTime ≠ 0)
       ∧ s.Books ∧ s.Plain) := by
  intro s h
  simp only [List.mem_cons, List.not_mem_nil, or_false] at h
  rcases h with rfl | rfl
  all_goals exact ⟨by decide +kernel,
    books_of (by decide +kernel) (by decide +kernel) (by decide +kernel) (by decide +kernel), plain_of (by decide +kernel)⟩

/-- R122, R131: the stow that a trigger gate creates is granted in the gate's event, its motor driven inward. -/
theorem test_stow_starts_at_the_gate :
    (match exec .windGateEnd { awningAway frameWaits with wind := { ready.wind with gateCount := 19 } } with
      | .next t => some ((t.opAt 2).map (fun o => o.state), t.awu.motor.driven, t.awu.motor.dir, t.sta.queue)
      | _ => none) = some (some (.running (some .move)), true, some .inward, [1]) := by decide +kernel

/-- Two driven motors of ROOM1, their operation in a state. -/
def bothDriven (k : OpKind) (d : Dir) (st : OpState) (breaking : Bool) (a b : Nat × Nat) : State :=
  let s := breakingAway k d true a b
  (s.setOp 0 (record { job k (.room 0) with dir := some d } st)).modRoom 0 (fun r => { r with
    breaking := breaking, breakTimer := if breaking then some 900 else none, demanded := 850 })

/-- Pulses of two driven motors: within sync_limit and beyond it (41), in every phase and in STOPPING, at the creep window
(60 counts) and outside it, short of the travel and at it, and the last motor alone. -/
theorem test_witness_twoMotorPulses :
    (∀ k ∈ [(OpKind.roomOut, Dir.outward), (.roomIn, .inward), (.roomJog, .outward), (.roomJog, .inward)],
      ∀ st ∈ [OpState.running (some .breakaway), .running (some .run), .running (some .creep),
          .stopping (.ended (.cancelled .stop)) (some .run)],
      ∀ n ∈ [60, 600, 1138, 1199], ∀ gap ∈ [0, 40, 41],
        (let s := bothDriven k.1 k.2 st (decide (st = .running (some .breakaway))) (1, n) (2, n - gap)
         s.inm.parked = false ∧ s.items.configured (.room 0) = true ∧ MotorId.a ∈ s.items.motors 0
         ∧ s.items.room.motors.get 0 = 2 ∧ (s.roomUnit 0).a.driven = true ∧ (s.roomUnit 0).b.driven = true
         ∧ (s.roomUnit 0).a.atEnd = false ∧ (s.roomUnit 0).b.atEnd = false ∧ (s.roomUnit 0).b.started = true
         ∧ s.activeOp (.room 0) = some (0, record { job k.1 (.room 0) with dir := some k.2 } st)
         ∧ (s.roomUnit 0).spread = gap ∧ calmAway s))
    ∧ ready.items.room.syncLimit = 40 ∧ ready.items.room.travel.get 0 = 1200
    ∧ (let s := (bothDriven .roomOut .outward (.running (some .creep)) false (5, 1199) (5, 1200)).modRoom 0
          (fun r => { r with b := { r.b with driven := false } })
       (s.roomUnit 0).a.driven = true ∧ (s.roomUnit 0).b.driven = false ∧ (s.roomUnit 0).a.late = false
       ∧ (s.roomUnit 0).b.late = false ∧ (s.roomUnit 0).a.dir = some .outward ∧ (s.roomUnit 0).breakTimer = none
       ∧ calmAway s) := by decide +kernel

/-- R107: the pulse to 41 stops both motors of a ROOM_OUT in RUN, FAILED(SYNC) pending; of a STOPPING one, nothing pending. -/
theorem test_sync_stops_both :
    (∀ p ∈ [(OpState.running (some .run), some (Pend.result (.failed .sync))),
        (.stopping (.ended (.cancelled .stop)) (some .run), none)],
      (match exec (.roomHallPulse 0) (bothDriven .roomOut .outward p.1 false (5, 640) (5, 600)) with
        | .next t => some ((t.roomUnit 0).a.driven, (t.roomUnit 0).b.driven, (t.roomUnit 0).ramped, (t.roomUnit 0).pend)
        | _ => none) = some (false, false, 0, p.2)) := by decide +kernel

/-- Ticks of two motors: at the foot of their ramp, and in breakaway; and of motor B driven alone. -/
theorem test_witness_twoMotorTicks :
    (let s := (bothDriven .roomIn .inward (.stopping (.ended (.cancelled .stop)) (some .run)) false (5, 600) (5, 600)).modRoom 0
        (fun r => { r with demanded := 0, ramped := 50 })
     s.inm.parked = false ∧ s.items.configured (.room 0) = true ∧ (s.roomUnit 0).a.driven = true
     ∧ (s.roomUnit 0).b.driven = true ∧ (s.roomUnit 0).breaking = false
     ∧ max (s.roomUnit 0).demanded ((s.roomUnit 0).ramped - s.roomProfile.rampDown) = 0 ∧ calmAway s)
    ∧ (let s := bothDriven .roomIn .inward (.running (some .breakaway)) true (0, 600) (0, 600)
       (s.roomUnit 0).a.late = false ∧ (s.roomUnit 0).b.late = false ∧ (s.roomUnit 0).breaking = true ∧ calmAway s)
    ∧ (let s := (bothDriven .roomIn .inward (.running (some .run)) false (5, 600) (5, 600)).modRoom 0
          (fun r => { r with a := { r.a with driven := false } })
       (s.roomUnit 0).a.driven = false ∧ (s.roomUnit 0).b.driven = true ∧ (s.roomUnit 0).demanded ≠ 0 ∧ calmAway s) := by
  decide +kernel

/-- An awning operation past its breakaway, at the run or the creep duty, at a count toward target count 1200. -/
def awningRuns (j : Job) (d : Dir) (creeping : Bool) (count : Nat) : State :=
  (withOp j (.running (some .run))).modAwning (fun a => { a with
    motor := { outwardMotor with dir := some d, count := count }, referenced := true, setDir := some d, target := 1200
    demanded := 850, ramped := 850, creeping := creeping, pend := none })

/-- Pulses of the awning: of an AWNING_SET either way and of a stow, onto the target and one before it, onto the creep window
and one before it, at either duty; of an outward jog onto awning_travel and one before it. -/
theorem test_witness_awningPulses :
    (∀ creeping ∈ [false, true],
      (∀ n ∈ [1198, 1199, 1200 - 2 - ready.awningProfile.creepWindow, 1200 - 1 - ready.awningProfile.creepWindow],
        (let j := { job .awningSet .awning with value := some 500 }
         let s := awningRuns j .outward creeping n
         s.awu.motor.driven = true ∧ s.awu.breakTimer = none ∧ s.awu.breaking = false ∧ s.awu.pend = none
         ∧ s.awu.setDir.isSome = true ∧ s.runningOp .awning = some (0, record j (.running (some .run))) ∧ calmHome s))
      ∧ (∀ n ∈ [1201, 1202, 1200 + 1 + ready.awningProfile.creepWindow, 1200 + 2 + ready.awningProfile.creepWindow],
          (let j := { job .awningSet .awning with value := some 500 }
           let s := awningRuns j .inward creeping n
           s.runningOp .awning = some (0, record j (.running (some .run))) ∧ 0 < j.value.getD 0 ∧ calmHome s))
      ∧ (∀ n ∈ [1 + ready.awningProfile.creepWindow, 2 + ready.awningProfile.creepWindow],
          (let s := awningRuns stowJob .inward creeping n
           s.runningOp .awning = some (0, record stowJob (.running (some .run))) ∧ calmHome s))
      ∧ (∀ n ∈ [2398, 2399],
          (let j := { job .awningJog .awning with dir := some .outward, value := some 500 }
           let s := awningRuns j .outward creeping n
           s.items.awn.travel = 2400 ∧ s.awu.referenced = true
           ∧ s.runningOp .awning = some (0, record j (.running (some .run))) ∧ calmHome s))) := by decide +kernel

/-- R122, R124, R125: an inward AWNING_SET stops on its target count, an outward jog at awning_travel, and a stow at the run
duty creeps from the creep window on. -/
theorem test_awning_pulses :
    (let after := fun (s : State) => match exec .awningHallPulse s with
      | .next t => some (t.awu.motor.driven, t.awu.pend, t.awu.creeping)
      | _ => none
     let jog := { job .awningJog .awning with dir := some .outward, value := some 500 }
     after (awningRuns { job .awningSet .awning with value := some 500 } .inward true 1201)
        = some (false, some (.result .complete), true)
     ∧ after (awningRuns jog .outward false 2399) = some (false, some (.result .complete), false)
     ∧ after (awningRuns jog .outward false 2398) = some (true, none, false)
     ∧ after (awningRuns stowJob .inward false (1 + ready.awningProfile.creepWindow)) = some (true, none, true)
     ∧ after (awningRuns stowJob .inward false (2 + ready.awningProfile.creepWindow)) = some (true, none, false)) := by
  decide +kernel

/-- A debounce about to turn IGNITION either way, and PARK_BRAKE, E_STOP to closed, JACK_UP, AWNING_IN and ROOM_IN to open. -/
theorem test_witness_recordSwitches :
    (∀ p ∈ [(Func.ignition, (1 : Input), Contact.opened), (.ignition, 1, .closed), (.parkBrake, 0, .opened), (.eStop, 3, .opened),
        (.jackUp 0, 6, .closed), (.awningIn, 10, .closed), (.roomIn 0, 4, .closed)],
      (let s := ready.modInput p.2.1 (fun u => { u with debounced := some p.2.2, debounce := some 900 })
       s.inputOf p.1 = some p.2.1 ∧ (s.input p.2.1).debounce.isSome = true ∧ (s.input p.2.1).firstDone = true
       ∧ s.inm.parked = false ∧ s.inm.notReady = false ∧ s.inm.idle = false ∧ s.allEnded ∧ s.liu.connected = false
       ∧ s.ist.storing = none ∧ s.runningOp .jacks = none ∧ calmHome s))
    ∧ ((0 : Jack) ∈ ready.items.jacks ∧ ready.awu.referenced = false ∧ (awningAway ready).awu.referenced = true) := by
  decide +kernel

/-- ROOM_IN of ROOM1 about to open while a retracting JACKS operation runs, with the pump on and off. -/
def roomLeaves (j : Job) (pump : Nat) : State :=
  let s := ((withOp j (.running (some .move))).modInput 4 (fun u => { u with debounce := some 900 })).modJack 0
    (fun u => { u with retracting := true })
  { s with lvc := { s.lvc with pump := pump } }

/-- A JACKS_STOW and an inward jog, with and without the exemption, and a LEVEL. -/
theorem test_witness_roomLeaves :
    ∀ j ∈ [job .jacksStow .jacks, { job .jackJog .jacks with dir := some .inward, sub := some 0 },
        { job .jacksStow .jacks with origin := .service, override := true }, job .level .jacks],
      ∀ pump ∈ [0, 1000],
      (let s := roomLeaves j pump
       s.inputOf (.roomIn 0) = some 4 ∧ (s.input 4).debounced = some .closed ∧ (s.input 4).debounce.isSome = true
       ∧ (s.input 4).firstDone = true ∧ s.runningOp .jacks = some (0, record j (.running (some .move)))
       ∧ s.lvc.pend = none ∧ s.items.configured (.room 0) = true ∧ s.noneWaiting
       ∧ (∀ k, (s.entryItem k).enabled = false)) := by decide +kernel

/-- R83: the room that ceases to be IN ends a JACKS_STOW CANCELLED(INTERLOCK), its valves closed; an exempt one goes on. -/
theorem test_room_leaving_in_ends_stow :
    (let after := fun (j : Job) => match exec (.debounceExpiry 4) (roomLeaves j 0) with
      | .next t => some ((t.opAt 0).map (fun o => o.state.isRunning), (t.opAt 0).bind (fun o => o.state.result), (t.jack 0).retracting)
      | _ => none
     after (job .jacksStow .jacks) = some (some false, some (.cancelled .interlock), false)
     ∧ after { job .jacksStow .jacks with origin := .service, override := true } = some (some true, none, true)) := by
  decide +kernel

/-- The stroke stage on section 4.5's points: no lift beyond its stroke, one beyond by a millimetre. -/
theorem test_witness_strokes :
    (∀ p ∈ (corners 150).zip (deadbandStage 3 (scaleStage 150 (liftStage (corners 150)))), p.2 ≤ p.1.avail)
    ∧ (∃ p ∈ (corners 149).zip (deadbandStage 3 (scaleStage 150 (liftStage (corners 149)))), p.1.avail < p.2)
    ∧ solve 150 3 true (corners 149) = .lifts [(0, 149), (1, 136), (4, 13), (5, 0)] true
    ∧ solve 150 3 false (corners 149) = .short [0] := by decide +kernel

end Sys2Proof.Tests
end

section
/-! What one event may do to the operations: its smallest acts, and what each of them keeps. -/

namespace Sys2Proof.Machine

-- One declaration at a time, so that the memory the check takes stays small.
set_option Elab.async false

/-! ### Records in slots -/

/-- From `s` to `t` the record of one slot has been written, every other slot stands. -/
def Wrote (s t : State) (sl : Slot) (o : Op) : Prop := ∀ k, t.opAt k = if sl = k then some o else s.opAt k

theorem Wrote.self {s t : State} {sl : Slot} {o : Op} (h : Wrote s t sl o) : t.opAt sl = some o := by
  rw [h sl, if_pos rfl]

theorem Wrote.other {s t : State} {sl k : Slot} {o : Op} (h : Wrote s t sl o) (hk : sl ≠ k) : t.opAt k = s.opAt k := by
  rw [h k, if_neg hk]

/-- A record of `t` is the written one, or stood in `s`. -/
theorem Wrote.cases {s t : State} {sl k : Slot} {o p : Op} (h : Wrote s t sl o) (hp : t.opAt k = some p) :
    (k = sl ∧ p = o) ∨ (k ≠ sl ∧ s.opAt k = some p) := by
  rw [h k] at hp
  split at hp
  · next e => exact Or.inl ⟨e.symm, (Option.some.inj hp).symm⟩
  · next e => exact Or.inr ⟨Ne.symm e, hp⟩

theorem wrote_setOp (s : State) (sl : Slot) (o : Op) : Wrote s (s.setOp sl o) sl o := fun k => opAt_setOp s sl k o

theorem opAt_of_opt {s t : State} (h : t.opt = s.opt) (sl : Slot) : t.opAt sl = s.opAt sl := by
  simp [State.opAt, h]

theorem Wrote.of_opt {s t u : State} {sl : Slot} {o : Op} (h : Wrote s t sl o) (e : u.opt = t.opt) : Wrote s u sl o :=
  fun k => (opAt_of_opt e k).trans (h k)

theorem mem_slots (sl : Slot) : sl ∈ slots := by revert sl; decide

theorem mem_groups (g : Group) : g ∈ groups := by
  cases g with
  | jacks => decide
  | room n => revert n; decide
  | awning => decide

theorem idx_inj {g k : Group} (h : g.idx = k.idx) : g = k := by
  have key : ∀ a ∈ groups, ∀ b ∈ groups, a.idx = b.idx → a = b := by decide
  exact key g (mem_groups g) k (mem_groups k) h

theorem findSlot_some {s : State} {p : Op → Bool} {sl : Slot} (h : s.findSlot p = some sl) :
    ∃ o, s.opAt sl = some o ∧ p o = true := by
  have := List.find?_some h
  rwa [Option.any_eq_true] at this

theorem findSlot_none {s : State} {p : Op → Bool} :
    s.findSlot p = none ↔ ∀ sl o, s.opAt sl = some o → p o = false := by
  unfold State.findSlot
  rw [List.find?_eq_none]
  constructor
  · intro h sl o ho
    simpa [ho] using h sl (mem_slots sl)
  · intro h sl _
    cases ho : s.opAt sl with
    | none => simp
    | some o => simpa using h sl o ho

theorem findSlot_isSome {s : State} {p : Op → Bool} :
    (s.findSlot p).isSome = true ↔ ∃ sl o, s.opAt sl = some o ∧ p o = true := by
  cases h : s.findSlot p with
  | none =>
    rw [findSlot_none] at h
    constructor
    · intro hf; cases hf
    · rintro ⟨sl, o, ho, hp⟩; rw [h sl o ho] at hp; cases hp
  | some sl =>
    obtain ⟨o, ho, hp⟩ := findSlot_some h
    exact ⟨fun _ => ⟨sl, o, ho, hp⟩, fun _ => rfl⟩

/-- Where one slot alone holds a record that satisfies `p`, it is the one found. -/
theorem findSlot_eq {s : State} {p : Op → Bool} {sl : Slot} {o : Op} (h : s.opAt sl = some o) (hp : p o = true)
    (hu : ∀ k q, s.opAt k = some q → p q = true → k = sl) : s.findSlot p = some sl := by
  cases hf : s.findSlot p with
  | none => rw [findSlot_none] at hf; rw [hf sl o h] at hp; cases hp
  | some k =>
    obtain ⟨q, hq, hpq⟩ := findSlot_some hf
    rw [hu k q hq hpq]

theorem busySlot_none {s : State} {g : Group} (h : s.busySlot g = none) {sl : Slot} {o : Op} (ho : s.opAt sl = some o)
    (hg : o.job.group = g) : o.state.isEnded = true := by
  have := findSlot_none.mp h sl o ho
  simpa [hg] using this

theorem active_notEnded {st : OpState} (h : st.active = true) : st.isEnded = false := by
  cases st <;> simp_all [OpState.active, OpState.isEnded]

theorem running_active {st : OpState} (h : st.isRunning = true) : st.active = true := by
  cases st <;> simp_all [OpState.active, OpState.isRunning]

theorem admitted_notEnded {st : OpState} (h : st.isAdmitted = true) : st.isEnded = false := by
  cases st <;> simp_all [OpState.isAdmitted, OpState.isEnded]

theorem admitted_notActive {st : OpState} (h : st.isAdmitted = true) : st.active = false := by
  cases st <;> simp_all [OpState.isAdmitted, OpState.active]

theorem ended_notActive {st : OpState} (h : st.isEnded = true) : st.active = false := by
  cases st <;> simp_all [OpState.isEnded, OpState.active]

theorem busySlot_eq {s : State} (h1 : s.onePerGroup) {g : Group} {sl : Slot} {o : Op} (h : s.opAt sl = some o)
    (hg : o.job.group = g) (hn : o.state.isEnded = false) : s.busySlot g = some sl := by
  refine findSlot_eq h (by simp [hg, hn]) (fun k q hq hp => ?_)
  simp only [Bool.and_eq_true, beq_iff_eq, Bool.not_eq_true'] at hp
  exact h1 k sl q hq o h hp.2 hn (hp.1.trans hg.symm)

theorem activeOp_eq {s : State} (h1 : s.onePerGroup) {g : Group} {sl : Slot} {o : Op} (h : s.opAt sl = some o)
    (hg : o.job.group = g) (ha : o.state.active = true) : s.activeOp g = some (sl, o) := by
  simp [State.activeOp, busySlot_eq h1 h hg (active_notEnded ha), h, ha]

theorem runningOp_eq {s : State} (h1 : s.onePerGroup) {g : Group} {sl : Slot} {o : Op} (h : s.opAt sl = some o)
    (hg : o.job.group = g) (hr : o.state.isRunning = true) : s.runningOp g = some (sl, o) := by
  simp [State.runningOp, activeOp_eq h1 h hg (running_active hr), hr]

/-- An operation of the group is RUNNING or STOPPING. -/
def State.moves (s : State) (g : Group) : Prop :=
  ∃ sl o, s.opAt sl = some o ∧ o.job.group = g ∧ o.state.active = true

/-! ### The acts of an event -/

/-- The frames that wait, and what keeps the LIU from taking them (R169). -/
def State.lines (s : State) : (List Frame × List Frame) × Option Link × Bool :=
  ((s.liu.coach.buffer, s.liu.service.buffer), s.ist.storing, s.liu.parkWait)

/-- A change that touches neither the table, the Arbiter, the claims map, the items nor the waiting frames. -/
structure Quiet (s t : State) : Prop where
  table : t.opt = s.opt
  arbiter : t.sta = s.sta
  claims : t.liu.claims = s.liu.claims
  items : t.items = s.items
  lines : t.lines = s.lines

/-- Two records of one operation in states of one kind: a new phase, pass or wait reason, a stop or its new destination. -/
structure Op.Alike (o p : Op) : Prop where
  tag : p.tag = o.tag
  job : p.job = o.job
  reservation : p.reservation = o.reservation
  admitted : p.state.isAdmitted = o.state.isAdmitted
  active : p.state.active = o.state.active
  ended : p.state.isEnded = o.state.isEnded
  leaving : (∃ r ph, o.state = .stopping (.ended r) ph) → ∃ r ph, p.state = .stopping (.ended r) ph

/-- One act of an event on the operations in the table: none of them brings an operation or puts one back into the queue. -/
inductive Act : State → State → Prop where
  | quiet {s t : State} : Quiet s t → Act s t
  | rewrite {s : State} {sl : Slot} {o p : Op} : s.opAt sl = some o → o.Alike p → Act s (s.setOp sl p)
  | finish {s : State} {sl : Slot} {o : Op} (r : Result) (rem : Option Remaining) : s.opAt sl = some o →
      o.state.isEnded = false → Act s (s.writeEnd sl r rem)
  | suspend {s : State} {sl : Slot} {o : Op} (h : HoldReason) : s.opAt sl = some o →
      (o.state.isAdmitted = true ∨ ∃ x ph, o.state = .stopping (.held x) ph) → Act s (s.moveHeld sl h)
  | grant {s : State} {sl : Slot} {o : Op} : s.opAt sl = some o →
      o.state.isAdmitted = true → s.blockedBy o = none → Act s (s.grantRecord sl o)
  | clear {s : State} {sl : Slot} {o : Op} : s.opAt sl = some o → o.state.isEnded = true → Act s (s.clearSlot sl)
  | monitor {s : State} {x : Sta} : x.queue = s.sta.queue → x.resSum = s.sta.resSum → x.normalSum = s.sta.normalSum →
      Act s { s with sta := x }
  | unclaim {s : State} {c : Bank Claim 6} : (∀ g : Group, c.get g.idx = .free ∨ c.get g.idx = s.claimOf g) →
      Act s { s with liu := { s.liu with claims := c } }

/-- The acts of an event in turn. -/
abbrev Acts : State → State → Prop := Relation.ReflTransGen Act

/-- An act, or one deed of a submission, a RESUME, an internal admission or a CLAIM. -/
inductive Deed : State → State → Prop where
  | act {s t : State} : Act s t → Deed s t
  | enroll {s : State} {tag : Nat} {j : Job} :
      (240 ≤ s.opt.internalTag ∧ s.opt.internalTag ≤ 255 → s.slotOfTag tag = none) → s.busySlot j.group = none →
      j.kind.fits j.group = true →
      (s.claimOf j.group = .free ∨ (j.origin = .service ∨ j.origin = .internal ∧ j.kind.opClass = .safety)) →
      (j.kind.opClass = .normal → s.normalCount < 3) → Deed s (s.admitJob tag j)
  | counter {s : State} {n : Nat} :
      (240 ≤ s.opt.internalTag ∧ s.opt.internalTag ≤ 255 → 240 ≤ n ∧ n ≤ 255) →
      Deed s { s with opt := { s.opt with internalTag := n } }
  | readmit {s : State} {sl : Slot} {o : Op} : s.opAt sl = some o → o.state.isHeld = true → Deed s (s.readmit sl o)
  | claim {s : State} {g : Group} :
      (∀ sl o, s.opAt sl = some o → o.job.group = g → o.claimable = true → o.state.isEnded = false →
        ∃ r ph, o.state = .stopping (.ended r) ph) → Deed s (s.claimGroup g)

/-- The deeds of an event in turn. -/
abbrev Deeds : State → State → Prop := Relation.ReflTransGen Deed

theorem Quiet.refl (s : State) : Quiet s s := ⟨rfl, rfl, rfl, rfl, rfl⟩

theorem Quiet.trans {s t u : State} (h : Quiet s t) (k : Quiet t u) : Quiet s u :=
  ⟨k.table.trans h.table, k.arbiter.trans h.arbiter, k.claims.trans h.claims, k.items.trans h.items, k.lines.trans h.lines⟩

/-- A write of the state's other parts. -/
theorem quiet {s t : State} (ho : t.opt = s.opt := by rfl) (ha : t.sta = s.sta := by rfl)
    (hc : t.liu.claims = s.liu.claims := by rfl) (hi : t.items = s.items := by rfl)
    (hl : t.lines = s.lines := by rfl) : Quiet s t :=
  ⟨ho, ha, hc, hi, hl⟩

theorem Act.acts {s t : State} (h : Act s t) : Acts s t := .single h

theorem Quiet.acts {s t : State} (h : Quiet s t) : Acts s t := .single (.quiet h)

theorem acts_quiet {s t : State} (ho : t.opt = s.opt := by rfl) (ha : t.sta = s.sta := by rfl)
    (hc : t.liu.claims = s.liu.claims := by rfl) (hi : t.items = s.items := by rfl)
    (hl : t.lines = s.lines := by rfl) : Acts s t :=
  (quiet ho ha hc hi hl).acts

/-- A change under a condition. -/
theorem quiet_ite {s t u : State} {c : Prop} [Decidable c] (h : Quiet s t) (k : Quiet s u) : Quiet s (if c then t else u) := by
  split
  · exact h
  · exact k

theorem quiet_if {s t : State} {c : Prop} [Decidable c] (h : Quiet s t) : Quiet s (if c then t else s) :=
  quiet_ite h (.refl s)

theorem acts_ite {s t u : State} {c : Prop} [Decidable c] (h : Acts s t) (k : Acts s u) : Acts s (if c then t else u) := by
  split
  · exact h
  · exact k

theorem acts_if {s t : State} {c : Prop} [Decidable c] (h : Acts s t) : Acts s (if c then t else s) :=
  acts_ite h .refl

/-- Two runs of acts, joined over a write of the state's other parts. -/
theorem Acts.over {s t u v : State} (h : Acts s t) (k : Acts u v)
    (ho : u.opt = t.opt := by rfl) (ha : u.sta = t.sta := by rfl)
    (hc : u.liu.claims = t.liu.claims := by rfl) (hi : u.items = t.items := by rfl)
    (hl : u.lines = t.lines := by rfl) : Acts s v :=
  (h.trans (quiet ho ha hc hi hl).acts).trans k

theorem Acts.deeds {s t : State} (h : Acts s t) : Deeds s t := Relation.ReflTransGen.mono (fun _ _ => .act) _ _ h

theorem Quiet.deeds {s t : State} (h : Quiet s t) : Deeds s t := h.acts.deeds

theorem Deed.deeds {s t : State} (h : Deed s t) : Deeds s t := .single h

theorem deeds_if {s t : State} {c : Prop} [Decidable c] (h : Deeds s t) : Deeds s (if c then t else s) := by
  split
  · exact h
  · exact .refl

/-- Two runs of deeds, joined over a write of the state's other parts. -/
theorem Deeds.over {s t u v : State} (h : Deeds s t) (k : Deeds u v)
    (ho : u.opt = t.opt := by rfl) (ha : u.sta = t.sta := by rfl)
    (hc : u.liu.claims = t.liu.claims := by rfl) (hi : u.items = t.items := by rfl)
    (hl : u.lines = t.lines := by rfl) : Deeds s v :=
  (h.trans (quiet ho ha hc hi hl).deeds).trans k

/-- A list of changes each made of acts. -/
theorem acts_foldl {α : Type} {f : State → α → State} (l : List α) (hf : ∀ s, ∀ a ∈ l, Acts s (f s a)) (s : State) :
    Acts s (l.foldl f s) := by
  induction l generalizing s with
  | nil => exact .refl
  | cons a l ih => exact (hf s a (by simp)).trans (ih (fun s b hb => hf s b (by simp [hb])) _)

/-- A list of changes each made of deeds, each of which needs, and keeps, `I`. -/
theorem deeds_foldl {α : Type} {f : State → α → State} {I : State → Prop} (l : List α)
    (hf : ∀ s, I s → ∀ a ∈ l, Deeds s (f s a) ∧ I (f s a)) :
    ∀ s, I s → Deeds s (l.foldl f s) ∧ I (l.foldl f s) := by
  induction l with
  | nil => exact fun s hs => ⟨.refl, hs⟩
  | cons a l ih =>
    intro s hs
    obtain ⟨h1, h2⟩ := hf s hs a (by simp)
    obtain ⟨h3, h4⟩ := ih (fun s hs b hb => hf s hs b (by simp [hb])) _ h2
    exact ⟨h1.trans h3, h4⟩

theorem quiet_foldl {α : Type} {f : State → α → State} (l : List α) (hf : ∀ s, ∀ a ∈ l, Quiet s (f s a)) (s : State) :
    Quiet s (l.foldl f s) := by
  induction l generalizing s with
  | nil => exact .refl _
  | cons a l ih => exact (hf s a (by simp)).trans (ih (fun s b hb => hf s b (by simp [hb])) _)

end Sys2Proof.Machine
end

section
namespace Sys2Proof.Machine

-- One declaration at a time, so that the memory the check takes stays small.
set_option Elab.async false

theorem held_notEnded {st : OpState} (h : st.isHeld = true) : st.isEnded = false := by
  cases st <;> simp_all [OpState.isHeld, OpState.isEnded]

theorem held_notActive {st : OpState} (h : st.isHeld = true) : st.active = false := by
  cases st <;> simp_all [OpState.isHeld, OpState.active]

/-! ### What each act writes into the table -/

theorem wrote_writeEnd {s : State} {sl : Slot} {o : Op} (h : s.opAt sl = some o) (r : Result) (rem : Option Remaining) :
    Wrote s (s.writeEnd sl r rem) sl { o with state := .ended r rem (s.opt.ends + 1), resumed := false } := by
  obtain ⟨c, hc⟩ := writeEnd_eq h r rem
  intro k
  rw [hc]
  simp [State.opAt, Bank.get_set]

theorem wrote_moveHeld {s : State} {sl : Slot} {o : Op} (h : s.opAt sl = some o) (r : HoldReason) :
    Wrote s (s.moveHeld sl r) sl { o with state := .held r, resumed := false } := by
  obtain ⟨c, hc⟩ := moveHeld_eq h r
  intro k
  rw [hc]
  simp [State.opAt, Bank.get_set]

theorem quiet_rampGroup (s : State) (g : Group) : Quiet s (s.rampGroup g) := by cases g <;> exact quiet

theorem wrote_grantRecord (s : State) (sl : Slot) (o : Op) :
    Wrote s (s.grantRecord sl o) sl { o with state := .running none, resumed := false } := by
  intro k
  simp [State.grantRecord, State.opAt, State.setOp, Bank.get_set]

theorem wrote_readmit (s : State) (sl : Slot) (o : Op) :
    Wrote s (s.readmit sl o) sl { o with state := .admitted .queue, admission := s.opt.admissions + 1, resumed := true } := by
  intro k
  simp [State.readmit, State.enqueue, State.opAt, State.setOp, Bank.get_set]

theorem opAt_clearSlot (s : State) (sl k : Slot) : (s.clearSlot sl).opAt k = if sl = k then none else s.opAt k := by
  unfold State.clearSlot
  split
  · next h =>
    split
    · next e => rw [← e]; exact h
    · rfl
  · simp [State.opAt, Bank.get_set]

theorem fixAwning_eq (s : State) (j : Job) : s.fixAwning j = { s with awu := (s.fixAwning j).awu } := by
  unfold State.fixAwning; split <;> rfl

@[simp] theorem fixAwning_opt (s : State) (j : Job) : (s.fixAwning j).opt = s.opt := by rw [fixAwning_eq]

theorem wrote_placeRecord (s : State) (sl : Slot) (o : Op) : Wrote s (s.placeRecord sl o) sl o := by
  intro k
  unfold State.placeRecord
  rw [opAt_setOp]
  split
  · rfl
  · next h =>
    rw [opAt_of_opt (t := { s.clearSlot sl with opt := { (s.clearSlot sl).opt with admissions := o.admission } })
      (s := { s.clearSlot sl with opt := { (s.clearSlot sl).opt with admissions := o.admission } }) rfl]
    have := opAt_clearSlot s sl k
    rw [if_neg h] at this
    exact this

/-- The record that the admission of a job leaves: waiting, or ended where it needs no motion. -/
theorem wrote_admitJob {s : State} {tag : Nat} {j : Job} {sl : Slot} (h : s.placeSlot = some sl) :
    ∃ o, Wrote s (s.admitJob tag j) sl o ∧ o.job = j ∧ o.tag = tag
      ∧ (o.state = .admitted .queue ∨ o.state.isEnded = true) := by
  have hw : Wrote s ((s.placeRecord sl (s.newRecord tag j)).fixAwning j) sl (s.newRecord tag j) :=
    (wrote_placeRecord s sl _).of_opt (fixAwning_opt _ _)
  unfold State.admitJob
  rw [h]
  dsimp only
  split
  · have he := wrote_writeEnd hw.self .complete
      (((s.placeRecord sl (s.newRecord tag j)).fixAwning j).idleRemaining (s.newRecord tag j))
    have hw' : Wrote s _ sl _ := fun k => by
      rw [he k]
      split
      · rfl
      · next hk => exact hw.other hk
    exact ⟨_, hw', rfl, rfl, Or.inr rfl⟩
  · refine ⟨s.newRecord tag j, hw.of_opt ?_, rfl, rfl, Or.inl rfl⟩
    unfold State.enqueue
    split <;> rfl

theorem admitJob_noSlot {s : State} {tag : Nat} {j : Job} (h : s.placeSlot = none) : s.admitJob tag j = s := by
  simp [State.admitJob, h]

/-! ### One operation of a group (R10) -/

/-- Every non-ended operation of `t` was a non-ended operation of its group, in its slot, in `s`. -/
def NoNew (s t : State) : Prop :=
  ∀ sl p, t.opAt sl = some p → p.state.isEnded = false →
    ∃ o, s.opAt sl = some o ∧ o.state.isEnded = false ∧ o.job = p.job

theorem NoNew.of_opt {s t : State} (h : t.opt = s.opt) : NoNew s t :=
  fun sl p hp hn => ⟨p, (opAt_of_opt h sl).symm.trans hp, hn, rfl⟩

theorem NoNew.trans {s t u : State} (h : NoNew s t) (k : NoNew t u) : NoNew s u := by
  intro sl p hp hn
  obtain ⟨q, hq, hqn, hqj⟩ := k sl p hp hn
  obtain ⟨o, ho, hon, hoj⟩ := h sl q hq hqn
  exact ⟨o, ho, hon, hoj.trans hqj⟩

theorem NoNew.onePerGroup {s t : State} (h : NoNew s t) (hs : s.onePerGroup) : t.onePerGroup := by
  intro sl k o ho p hp hon hpn hg
  obtain ⟨o', ho', hon', hoj⟩ := h sl o ho hon
  obtain ⟨p', hp', hpn', hpj⟩ := h k p hp hpn
  exact hs sl k o' ho' p' hp' hon' hpn' (by rw [hoj, hpj, hg])

theorem NoNew.allEnded {s t : State} (h : NoNew s t) (hs : s.allEnded) : t.allEnded := by
  intro sl p hp
  by_contra hn
  obtain ⟨o, ho, hon, _⟩ := h sl p hp (by simpa using hn)
  rw [hs sl o ho] at hon
  cases hon

theorem Wrote.noNew {s t : State} {sl : Slot} {o p : Op} (hw : Wrote s t sl p) (ho : s.opAt sl = some o)
    (hj : p.job = o.job) (he : p.state.isEnded = false → o.state.isEnded = false) : NoNew s t := by
  intro k q hq hn
  rcases hw.cases hq with ⟨rfl, rfl⟩ | ⟨_, hs⟩
  · exact ⟨o, ho, he hn, hj.symm⟩
  · exact ⟨q, hs, hn, rfl⟩

theorem Act.noNew {s t : State} (h : Act s t) : NoNew s t := by
  cases h with
  | quiet h => exact .of_opt h.table
  | rewrite ho ha => exact (wrote_setOp s _ _).noNew ho ha.job (fun hn => ha.ended.symm.trans hn)
  | finish r rem ho hn => exact (wrote_writeEnd ho r rem).noNew ho rfl (fun _ => hn)
  | suspend x ho hs =>
    refine (wrote_moveHeld ho x).noNew ho rfl (fun _ => ?_)
    rcases hs with hs | ⟨y, ph, hs⟩
    · exact admitted_notEnded hs
    · rw [hs]; rfl
  | grant ho ha _ => exact (wrote_grantRecord s _ _).noNew ho rfl (fun _ => admitted_notEnded ha)
  | clear ho he =>
    refine fun k p hp hn => ⟨p, ?_, hn, rfl⟩
    rw [opAt_clearSlot] at hp
    split at hp
    · cases hp
    · exact hp
  | monitor _ _ _ => exact .of_opt rfl
  | unclaim _ => exact .of_opt rfl

theorem NoNew.refl (s : State) : NoNew s s := .of_opt rfl

theorem Acts.noNew {s t : State} (h : Acts s t) : NoNew s t := by
  induction h with
  | refl => exact .refl s
  | tail _ h ih => exact ih.trans h.noNew

/-- A record of a group without an operation may stand in any slot. -/
theorem onePerGroup_wrote {s t : State} {sl : Slot} {p : Op} {j : Job} (hs : s.onePerGroup) (hb : s.busySlot j.group = none)
    (hw : Wrote s t sl p) (hj : p.job = j) : t.onePerGroup := by
  have old : ∀ k q, s.opAt k = some q → q.state.isEnded = false → q.job.group ≠ j.group :=
    fun k q hq hn hg => by rw [busySlot_none hb hq hg] at hn; cases hn
  intro a b x hx y hy hxn hyn hg
  rcases hw.cases hx with ⟨rfl, rfl⟩ | ⟨_, hx'⟩ <;> rcases hw.cases hy with ⟨rfl, rfl⟩ | ⟨_, hy'⟩
  · rfl
  · exact absurd (hg.symm.trans (by rw [hj])) (old b y hy' hyn)
  · exact absurd (hg.trans (by rw [hj])) (old a x hx' hxn)
  · exact hs a b x hx' y hy' hxn hyn hg

theorem onePerGroup_admitJob {s : State} {tag : Nat} {j : Job} (hs : s.onePerGroup) (hb : s.busySlot j.group = none) :
    (s.admitJob tag j).onePerGroup := by
  cases hp : s.placeSlot with
  | none => rwa [admitJob_noSlot hp]
  | some sl =>
    obtain ⟨o, hw, hj, _, _⟩ := wrote_admitJob (tag := tag) (j := j) hp
    exact onePerGroup_wrote hs hb hw hj

theorem Deed.onePerGroup {s t : State} (h : Deed s t) (hs : s.onePerGroup) : t.onePerGroup := by
  cases h with
  | act h => exact h.noNew.onePerGroup hs
  | enroll _ hb _ _ _ => exact onePerGroup_admitJob hs hb
  | counter _ => exact NoNew.onePerGroup (fun _ p hp hn => ⟨p, hp, hn, rfl⟩) hs
  | readmit ho hh => exact ((wrote_readmit s _ _).noNew ho rfl (fun _ => held_notEnded hh)).onePerGroup hs
  | claim _ => exact NoNew.onePerGroup (.of_opt rfl) hs

theorem Deeds.onePerGroup {s t : State} (h : Deeds s t) (hs : s.onePerGroup) : t.onePerGroup := by
  induction h with
  | refl => exact hs
  | tail _ h ih => exact h.onePerGroup ih

/-! ### The length of the queue -/

theorem Act.queue_length {s t : State} (h : Act s t) : t.sta.queue.length ≤ s.sta.queue.length := by
  cases h with
  | quiet h => rw [h.arbiter]
  | rewrite _ _ => exact le_rfl
  | finish r rem ho _ =>
    obtain ⟨c, hc⟩ := writeEnd_eq ho r rem
    rw [hc]; exact List.length_filter_le _ _
  | suspend x ho _ =>
    obtain ⟨c, hc⟩ := moveHeld_eq ho x
    rw [hc]; exact List.length_filter_le _ _
  | grant _ _ _ => exact List.length_filter_le _ _
  | @clear sl _ _ _ =>
    have : (s.clearSlot sl).sta = s.sta := by unfold State.clearSlot; split <;> rfl
    rw [this]
  | monitor hq _ _ => exact (congrArg List.length hq).le
  | unclaim _ => exact le_rfl

theorem Acts.queue_length {s t : State} (h : Acts s t) : t.sta.queue.length ≤ s.sta.queue.length := by
  induction h with
  | refl => exact le_rfl
  | tail _ h ih => exact h.queue_length.trans ih

/-! ### The waiting frames -/

theorem Act.lines {s t : State} (h : Act s t) : t.lines = s.lines := by
  cases h with
  | quiet h => exact h.lines
  | rewrite _ _ => rfl
  | finish r rem ho _ => obtain ⟨c, hc⟩ := writeEnd_eq ho r rem; rw [hc]; rfl
  | suspend x ho _ => obtain ⟨c, hc⟩ := moveHeld_eq ho x; rw [hc]; rfl
  | grant _ _ _ => rfl
  | clear _ _ => unfold State.clearSlot; split <;> rfl
  | monitor _ _ _ => rfl
  | unclaim _ => rfl

theorem placeRecord_lines (s : State) (sl : Slot) (o : Op) : (s.placeRecord sl o).lines = s.lines := by
  unfold State.placeRecord State.clearSlot
  split <;> rfl

theorem fixAwning_lines (s : State) (j : Job) : (s.fixAwning j).lines = s.lines := by rw [fixAwning_eq]; rfl

theorem admitJob_lines (s : State) (tag : Nat) (j : Job) : (s.admitJob tag j).lines = s.lines := by
  cases hp : s.placeSlot with
  | none => rw [admitJob_noSlot hp]
  | some sl =>
    have placed : ((s.placeRecord sl (s.newRecord tag j)).fixAwning j).lines = s.lines :=
      (fixAwning_lines _ j).trans (placeRecord_lines s sl _)
    have hw : Wrote s ((s.placeRecord sl (s.newRecord tag j)).fixAwning j) sl (s.newRecord tag j) :=
      (wrote_placeRecord s sl _).of_opt (fixAwning_opt _ _)
    unfold State.admitJob
    rw [hp]
    dsimp only
    split
    · exact (Act.finish _ _ hw.self rfl).lines.trans placed
    · split <;> exact placed

theorem Deed.lines {s t : State} (h : Deed s t) : t.lines = s.lines := by
  cases h with
  | act h => exact h.lines
  | enroll _ _ _ _ _ => exact admitJob_lines s _ _
  | counter _ => rfl
  | readmit _ _ => rfl
  | claim _ => rfl

theorem Deeds.lines {s t : State} (h : Deeds s t) : t.lines = s.lines := by
  induction h with
  | refl => rfl
  | tail _ h ih => exact h.lines.trans ih

end Sys2Proof.Machine
end

section
namespace Sys2Proof.Machine

-- One declaration at a time, so that the memory the check takes stays small.
set_option Elab.async false

/-! ### The books within an event -/

/-- The books but for the wait reasons and the frame buffers: what every act of an event keeps. -/
structure State.Ledger (s : State) : Prop where
  tags : ∀ sl k, ∀ o ∈ s.opAt sl, ∀ p ∈ s.opAt k, o.tag = p.tag → sl = k
  counter : 240 ≤ s.opt.internalTag ∧ s.opt.internalTag ≤ 255
  ended : s.opt.endedList.Nodup
    ∧ ∀ x, x ∈ s.opt.endedList ↔ ∃ sl o, s.opAt sl = some o ∧ o.state.isEnded = true ∧ o.tag = x
  groups : s.onePerGroup
  normal : s.normalCount ≤ 3
  kinds : ∀ sl, ∀ o ∈ s.opAt sl, o.job.kind.fits o.job.group = true
  sums : s.sta.resSum = s.reserved (fun _ => true) ∧ s.sta.normalSum = s.reserved (fun o => o.opClass == .normal)
  budget : s.sta.resSum ≤ s.items.supply.budgetLimit ∧ s.sta.normalSum ≤ s.items.normalBudget
  queue : s.sta.queue.Nodup ∧ ∀ sl, sl ∈ s.sta.queue ↔ ∃ o, s.opAt sl = some o ∧ o.state.isAdmitted = true
  order : s.sta.queue.Pairwise (fun x y =>
    ∀ o p, s.opAt x = some o → s.opAt y = some p → p.opClass = .safety → o.opClass = .safety)
  frame : (s.jacksMoving && s.roomMoving) = false
  claims : ∀ g, s.claimLaw g

theorem State.Books.ledger {s : State} (h : s.Books) : s.Ledger :=
  ⟨h.tags, h.counter, h.ended, h.groups, h.normal, h.kinds, h.sums, h.budget, h.queue, h.order, h.frame, h.claims⟩

/-- Sums over the slots that differ at one slot. -/
theorem sum_slots_change {f g : Slot → Nat} {sl : Slot} (h : ∀ k, k ≠ sl → g k = f k) :
    (slots.map g).sum + f sl = (slots.map f).sum + g sl := by
  have h0 := h 0; have h1 := h 1; have h2 := h 2; have h3 := h 3
  fin_cases sl <;> simp [slots] at h0 h1 h2 h3 ⊢ <;> omega

/-- What one slot adds to a sum of reservations. -/
def share (p : Op → Bool) (x : Option Op) : Nat :=
  match x with
  | some o => if o.state.active && p o then o.reservation else 0
  | none => 0

theorem reserved_eq (s : State) (p : Op → Bool) : s.reserved p = (slots.map (fun sl => share p (s.opAt sl))).sum := rfl

theorem reserved_change {s t : State} {sl : Slot} (h : ∀ k, k ≠ sl → t.opAt k = s.opAt k) (p : Op → Bool) :
    t.reserved p + share p (s.opAt sl) = s.reserved p + share p (t.opAt sl) := by
  simp only [reserved_eq]
  exact sum_slots_change (f := fun k => share p (s.opAt k)) (g := fun k => share p (t.opAt k)) (fun k hk => by simp only [h k hk])

theorem share_le_reserved (s : State) (p : Op → Bool) (sl : Slot) : share p (s.opAt sl) ≤ s.reserved p := by
  rw [reserved_eq]
  exact List.single_le_sum (by simp) _ (List.mem_map.mpr ⟨sl, mem_slots sl, rfl⟩)

/-- Whether a slot holds a non-ended operation of class NORMAL, as a number. -/
def counts (x : Option Op) : Nat := if x.any (fun o => o.opClass == .normal && !o.state.isEnded) then 1 else 0

theorem normalCount_eq (s : State) : s.normalCount = (slots.map (fun sl => counts (s.opAt sl))).sum := by
  unfold State.normalCount State.slotsWhere counts
  generalize slots = l
  induction l with
  | nil => rfl
  | cons a l ih =>
    simp only [List.filter_cons, List.map_cons, List.sum_cons]
    split <;> simp_all
    omega

theorem normalCount_change {s t : State} {sl : Slot} (h : ∀ k, k ≠ sl → t.opAt k = s.opAt k) :
    t.normalCount + counts (s.opAt sl) = s.normalCount + counts (t.opAt sl) := by
  simp only [normalCount_eq]
  exact sum_slots_change (f := fun k => counts (s.opAt k)) (g := fun k => counts (t.opAt k)) (fun k hk => by simp only [h k hk])

/-! ### The claims law in terms of the records -/

theorem hostBusy_iff (s : State) (g : Group) : s.hostBusy g = true ↔
    ∃ sl o, s.opAt sl = some o ∧ o.job.group = g ∧ o.state.isEnded = false ∧ o.claimable = true := by
  unfold State.hostBusy
  rw [findSlot_isSome]
  simp [and_assoc]

/-- The record is a claimable non-ended operation of the group. -/
def Op.hosts (o : Op) (g : Group) : Prop := o.job.group = g ∧ o.state.isEnded = false ∧ o.claimable = true

/-- STOPPING toward an end. -/
def OpState.leaving (st : OpState) : Prop := ∃ r ph, st = .stopping (.ended r) ph

theorem hostBusy_hosts (s : State) (g : Group) : s.hostBusy g = true ↔ ∃ sl o, s.opAt sl = some o ∧ o.hosts g :=
  hostBusy_iff s g

theorem hostBusy_false (s : State) (g : Group) : s.hostBusy g = false ↔ ∀ sl o, s.opAt sl = some o → ¬ o.hosts g := by
  rw [← Bool.not_eq_true, hostBusy_hosts]
  constructor
  · exact fun h sl o ho hh => h ⟨sl, o, ho, hh⟩
  · rintro h ⟨sl, o, ho, hh⟩; exact h sl o ho hh

theorem claimLaw_iff (s : State) (g : Group) : s.claimLaw g ↔
    (s.claimOf g = .claimed → ∀ sl o, s.opAt sl = some o → ¬ o.hosts g)
    ∧ (s.claimOf g = .pending → (∃ sl o, s.opAt sl = some o ∧ o.hosts g)
      ∧ ∀ sl o, s.opAt sl = some o → o.hosts g → o.state.leaving) := by
  unfold State.claimLaw
  rw [hostBusy_false, hostBusy_hosts]
  refine and_congr Iff.rfl (imp_congr_right fun _ => and_congr Iff.rfl ⟨?_, ?_⟩)
  · exact fun h sl o ho hh => h sl o ho hh.1 hh.2.2 hh.2.1
  · exact fun h sl o ho hg hc hn => h sl o ho ⟨hg, hn, hc⟩

/-- The claims law but for a pending group whose last operation has left. -/
def State.claimsOpen (s : State) : Prop := ∀ g,
  (s.claimOf g = .claimed → ∀ sl o, s.opAt sl = some o → ¬ o.hosts g)
  ∧ (s.claimOf g = .pending → ∀ sl o, s.opAt sl = some o → o.hosts g → o.state.leaving)

theorem hostBusy_of_opt {s t : State} (h : t.opt = s.opt) (g : Group) : t.hostBusy g = s.hostBusy g := by
  simp [State.hostBusy, State.findSlot, State.opAt, h]

theorem claimOf_setClaim (s : State) (g k : Group) (c : Claim) :
    (s.setClaim g c).claimOf k = if g = k then c else s.claimOf k := by
  simp only [State.claimOf, State.setClaim, Bank.get_set]
  by_cases h : g = k
  · simp [h]
  · rw [if_neg (fun e => h (idx_inj e)), if_neg h]

theorem settleClaims_opt (s : State) : s.settleClaims.opt = s.opt := by rw [settleClaims_eq]

/-- A pending group that holds no operation of the host becomes claimed, every other entry stands (R183). -/
theorem settleClaims_claimOf (s : State) (g : Group) :
    s.settleClaims.claimOf g = if s.claimOf g = .pending ∧ s.hostBusy g = false then .claimed else s.claimOf g := by
  have key : ∀ (l : List Group) (u : State), l.Nodup → u.opt = s.opt →
      (l.foldl (fun s g => if s.claimOf g == .pending && !s.hostBusy g then s.setClaim g .claimed else s) u).claimOf g
        = if g ∈ l ∧ u.claimOf g = .pending ∧ s.hostBusy g = false then .claimed else u.claimOf g := by
    intro l
    induction l with
    | nil => intro u _ _; simp
    | cons a l ih =>
      intro u hl hu
      have ha : a ∉ l := (List.nodup_cons.mp hl).1
      simp only [List.foldl_cons]
      by_cases hc : (u.claimOf a == Claim.pending && !u.hostBusy a) = true
      · rw [if_pos hc, ih (u.setClaim a .claimed) hl.of_cons hu, claimOf_setClaim]
        simp only [Bool.and_eq_true, beq_iff_eq, Bool.not_eq_true', hostBusy_of_opt hu] at hc
        by_cases e : a = g
        · subst e; simp [ha, hc]
        · simp [e, Ne.symm e]
      · rw [if_neg hc, ih _ hl.of_cons hu]
        by_cases e : a = g
        · subst e
          simp only [Bool.and_eq_true, beq_iff_eq, Bool.not_eq_true', hostBusy_of_opt hu] at hc
          simp [ha, hc]
        · simp [Ne.symm e]
  have := key groups s (by decide) rfl
  unfold State.settleClaims
  rw [this]
  simp [mem_groups]

theorem claimLaw_settleClaims {s : State} (h : s.claimsOpen) (g : Group) : s.settleClaims.claimLaw g := by
  have hop : ∀ sl, s.settleClaims.opAt sl = s.opAt sl := opAt_of_opt (settleClaims_opt s)
  rw [claimLaw_iff]
  simp only [hop, settleClaims_claimOf]
  obtain ⟨hc, hp⟩ := h g
  by_cases hb : s.hostBusy g = false
  · have hno := (hostBusy_false s g).mp hb
    by_cases hpend : s.claimOf g = .pending
    · exact ⟨fun _ => hno, fun he => by simp [hpend, hb] at he⟩
    · rw [if_neg (fun x => hpend x.1)]
      exact ⟨fun _ => hno, fun he => absurd he hpend⟩
  · rw [if_neg (fun x => hb x.2)]
    exact ⟨hc, fun he => ⟨(hostBusy_hosts s g).mp (by simpa using hb), hp he⟩⟩

/-- A writing of one record that leaves its operation where the claims law wants it. -/
theorem claimLaw_wrote {s t : State} {sl : Slot} {o p : Op} (h : ∀ g, s.claimLaw g) (hc : t.liu.claims = s.liu.claims)
    (hw : Wrote s t sl p) (ho : s.opAt sl = some o) (hh : ∀ g, p.hosts g ↔ o.hosts g)
    (hl : o.state.leaving → p.state.leaving) (g : Group) : t.claimLaw g := by
  have hcl : t.claimOf g = s.claimOf g := by simp [State.claimOf, hc]
  have hg := h g
  rw [claimLaw_iff] at hg ⊢
  obtain ⟨h1, h2⟩ := hg
  rw [hcl]
  refine ⟨fun he k q hq hqh => ?_, fun he => ⟨?_, fun k q hq hqh => ?_⟩⟩
  · rcases hw.cases hq with ⟨rfl, rfl⟩ | ⟨_, hs⟩
    · exact h1 he k o ho ((hh g).mp hqh)
    · exact h1 he k q hs hqh
  · obtain ⟨k, q, hq, hqh⟩ := (h2 he).1
    by_cases e : sl = k
    · subst e
      rw [ho] at hq
      cases hq
      exact ⟨sl, p, hw.self, (hh g).mpr hqh⟩
    · exact ⟨k, q, (hw.other e).trans hq, hqh⟩
  · rcases hw.cases hq with ⟨rfl, rfl⟩ | ⟨_, hs⟩
    · exact hl ((h2 he).2 k o ho ((hh g).mp hqh))
    · exact (h2 he).2 k q hs hqh

/-- A writing of one record that hosts nothing more than the one before leaves the law open at most. -/
theorem claimsOpen_wrote {s t : State} {sl : Slot} {p : Op} (h : ∀ g, s.claimLaw g) (hc : t.liu.claims = s.liu.claims)
    (hw : Wrote s t sl p) (hp : ∀ g, p.hosts g → s.claimOf g = .free) : t.claimsOpen := by
  intro g
  have hcl : t.claimOf g = s.claimOf g := by simp [State.claimOf, hc]
  have hg := h g
  rw [claimLaw_iff] at hg
  obtain ⟨h1, h2⟩ := hg
  rw [hcl]
  refine ⟨fun he k q hq hqh => ?_, fun he k q hq hqh => ?_⟩
  · rcases hw.cases hq with ⟨rfl, rfl⟩ | ⟨_, hs⟩
    · rw [hp g hqh] at he; cases he
    · exact h1 he k q hs hqh
  · rcases hw.cases hq with ⟨rfl, rfl⟩ | ⟨_, hs⟩
    · rw [hp g hqh] at he; cases he
    · exact (h2 he).2 k q hs hqh

/-! ### The queue after a record leaves it or joins it -/

/-- The queue and the table agree, and SAFETY stands ahead (R29). -/
def State.queueLaw (s : State) : Prop :=
  (s.sta.queue.Nodup ∧ ∀ sl, sl ∈ s.sta.queue ↔ ∃ o, s.opAt sl = some o ∧ o.state.isAdmitted = true)
  ∧ s.sta.queue.Pairwise (fun x y =>
    ∀ o p, s.opAt x = some o → s.opAt y = some p → p.opClass = .safety → o.opClass = .safety)

theorem State.Ledger.queueLaw {s : State} (h : s.Ledger) : s.queueLaw := ⟨h.queue, h.order⟩

theorem queueLaw_same {s t : State} {sl : Slot} {o p : Op} (h : s.queueLaw) (hq : t.sta.queue = s.sta.queue)
    (hw : Wrote s t sl p) (ho : s.opAt sl = some o) (ha : p.state.isAdmitted = o.state.isAdmitted)
    (hj : p.job = o.job) : t.queueLaw := by
  obtain ⟨⟨hn, hm⟩, hp⟩ := h
  have hcl : ∀ k q, t.opAt k = some q → ∃ q', s.opAt k = some q' ∧ q'.opClass = q.opClass
      ∧ q'.state.isAdmitted = q.state.isAdmitted := by
    intro k q hk
    rcases hw.cases hk with ⟨rfl, rfl⟩ | ⟨_, hs⟩
    · exact ⟨o, ho, by simp [Op.opClass, hj], ha.symm⟩
    · exact ⟨q, hs, rfl, rfl⟩
  refine ⟨⟨hq ▸ hn, fun k => ?_⟩, ?_⟩
  · rw [hq, hm]
    constructor
    · rintro ⟨q, hk, hqa⟩
      by_cases e : sl = k
      · subst e
        rw [ho] at hk; cases hk
        exact ⟨p, hw.self, ha.trans hqa⟩
      · exact ⟨q, (hw.other e).trans hk, hqa⟩
    · rintro ⟨q, hk, hqa⟩
      obtain ⟨q', hk', _, ha'⟩ := hcl k q hk
      exact ⟨q', hk', ha'.trans hqa⟩
  · rw [hq]
    refine hp.imp (fun {x y} hxy a b hx hy hb => ?_)
    obtain ⟨a', ha', hac, _⟩ := hcl x a hx
    obtain ⟨b', hb', hbc, _⟩ := hcl y b hy
    exact hac ▸ hxy a' b' ha' hb' (hbc.trans hb)

theorem queueLaw_leave {s t : State} {sl : Slot} {p : Op} (h : s.queueLaw)
    (hq : t.sta.queue = s.sta.queue.filter (fun q => q != sl)) (hw : Wrote s t sl p) (ha : p.state.isAdmitted = false) :
    t.queueLaw := by
  obtain ⟨⟨hn, hm⟩, hp⟩ := h
  refine ⟨⟨hq ▸ hn.filter _, fun k => ?_⟩, ?_⟩
  · rw [hq, List.mem_filter, hm]
    constructor
    · rintro ⟨⟨q, hk, hqa⟩, hne⟩
      exact ⟨q, (hw.other (fun e => by simp [e] at hne)).trans hk, hqa⟩
    · rintro ⟨q, hk, hqa⟩
      rcases hw.cases hk with ⟨rfl, rfl⟩ | ⟨hne, hs⟩
      · rw [ha] at hqa; cases hqa
      · exact ⟨⟨q, hs, hqa⟩, by simpa using hne⟩
  · rw [hq]
    refine (hp.filter _).imp_of_mem (fun {x y} hx hy hxy a b hxa hyb hb => ?_)
    have hx' : sl ≠ x := fun e => by simp [← e] at hx
    have hy' : sl ≠ y := fun e => by simp [← e] at hy
    exact hxy a b ((hw.other hx').symm.trans hxa) ((hw.other hy').symm.trans hyb) hb

/-- The queue that a record joins at the tail of its class's part (R29). -/
def joined (safe : Slot → Bool) (queue : List Slot) (sl : Slot) (c : OpClass) : List Slot :=
  match c with
  | .normal => queue ++ [sl]
  | .safety => queue.filter safe ++ [sl] ++ queue.filter (fun q => !safe q)

theorem mem_joined (safe : Slot → Bool) (queue : List Slot) (sl k : Slot) (c : OpClass) :
    k ∈ joined safe queue sl c ↔ k ∈ queue ∨ k = sl := by
  cases c with
  | normal => simp [joined]
  | safety =>
    simp only [joined, List.mem_append, List.mem_filter, List.mem_singleton, Bool.not_eq_true']
    cases safe k <;> simp [or_comm]

theorem nodup_joined {safe : Slot → Bool} {queue : List Slot} {sl : Slot} (c : OpClass) (hn : queue.Nodup) (hs : sl ∉ queue) :
    (joined safe queue sl c).Nodup := by
  cases c with
  | normal =>
    rw [joined, List.nodup_append]
    exact ⟨hn, List.nodup_singleton _, fun a ha b hb e => hs (List.mem_singleton.mp hb ▸ e ▸ ha)⟩
  | safety =>
    simp only [joined, List.append_assoc, List.singleton_append]
    rw [List.nodup_append]
    refine ⟨hn.filter _, ?_, ?_⟩
    · rw [List.nodup_cons]
      exact ⟨fun h => hs (List.mem_filter.mp h).1, hn.filter _⟩
    · rintro a ha b hb rfl
      obtain ⟨ha1, ha2⟩ := List.mem_filter.mp ha
      rcases List.mem_cons.mp hb with e | hb
      · exact hs (e ▸ ha1)
      · simp [ha2] at hb

/-- The part of class SAFETY stands ahead after the joining too. -/
theorem ordered_joined {queue : List Slot} {sl : Slot} {cls : Slot → OpClass}
    (hp : queue.Pairwise (fun x y => cls y = .safety → cls x = .safety)) :
    (joined (fun q => cls q == .safety) queue sl (cls sl)).Pairwise (fun x y => cls y = .safety → cls x = .safety) := by
  cases hc : cls sl with
  | normal =>
    rw [joined, List.pairwise_append]
    refine ⟨hp, List.pairwise_singleton _ _, fun a _ b hb hs => ?_⟩
    rw [List.mem_singleton.mp hb, hc] at hs
    cases hs
  | safety =>
    simp only [joined, List.append_assoc, List.singleton_append]
    rw [List.pairwise_append, List.pairwise_cons]
    have hnot : ∀ b ∈ queue.filter (fun q => !(cls q == .safety)), cls b ≠ .safety := by
      intro b hb he; simp [he] at hb
    refine ⟨hp.filter _, ⟨fun b _ _ => hc, hp.filter _⟩, fun a ha b _ _ => ?_⟩
    simpa using (List.mem_filter.mp ha).2

theorem queueLaw_join {s t : State} {sl : Slot} {p : Op} (h : s.queueLaw) (hno : sl ∉ s.sta.queue)
    (hw : Wrote s t sl p) (ha : p.state.isAdmitted = true)
    (hq : t.sta.queue = joined (fun q => (t.opAt q).any (fun o => o.opClass == .safety)) s.sta.queue sl p.opClass) :
    t.queueLaw := by
  obtain ⟨⟨hn, hm⟩, hp⟩ := h
  let cls : Slot → OpClass := fun k => ((t.opAt k).map Op.opClass).getD .normal
  have hcls : ∀ k o, t.opAt k = some o → cls k = o.opClass := fun k o ho => by simp [cls, ho]
  have hsafe : (fun q => (t.opAt q).any (fun o => o.opClass == .safety)) = fun q => cls q == .safety := by
    funext q
    cases hq : t.opAt q <;> simp [cls, hq]
  refine ⟨⟨hq ▸ nodup_joined _ hn hno, fun k => ?_⟩, ?_⟩
  · rw [hq, mem_joined, hm]
    constructor
    · rintro (⟨q, hk, hqa⟩ | rfl)
      · have hk' : sl ≠ k := fun e => hno (e ▸ (hm k).mpr ⟨q, hk, hqa⟩)
        exact ⟨q, (hw.other hk').trans hk, hqa⟩
      · exact ⟨p, hw.self, ha⟩
    · rintro ⟨q, hk, hqa⟩
      rcases hw.cases hk with ⟨rfl, _⟩ | ⟨_, hs⟩
      · exact Or.inr rfl
      · exact Or.inl ⟨q, hs, hqa⟩
  · have hold : s.sta.queue.Pairwise (fun x y => cls y = .safety → cls x = .safety) := by
      refine hp.imp_of_mem (fun {x y} hx hy hxy hb => ?_)
      obtain ⟨a, hxa, _⟩ := (hm x).mp hx
      obtain ⟨b, hyb, _⟩ := (hm y).mp hy
      have hx' : t.opAt x = some a := (hw.other (fun e => hno (e ▸ hx))).trans hxa
      have hy' : t.opAt y = some b := (hw.other (fun e => hno (e ▸ hy))).trans hyb
      rw [hcls x a hx']
      exact hxy a b hxa hyb (by rw [← hcls y b hy']; exact hb)
    have hj := ordered_joined (sl := sl) hold
    rw [hcls sl p hw.self, ← hsafe, ← hq] at hj
    exact hj.imp (fun {x y} hxy a b hx hy hb => by
      rw [← hcls x a hx]; exact hxy (by rw [hcls y b hy]; exact hb))

end Sys2Proof.Machine
end

section
namespace Sys2Proof.Machine

-- One declaration at a time, so that the memory the check takes stays small.
set_option Elab.async false

/-! ### The books under each act -/

theorem jacksMoving_iff (s : State) : s.jacksMoving = true ↔ s.moves .jacks := by
  unfold State.jacksMoving State.moves
  rw [findSlot_isSome]
  simp

theorem roomMoving_iff (s : State) : s.roomMoving = true ↔ ∃ n, s.moves (.room n) := by
  unfold State.roomMoving State.moves
  rw [findSlot_isSome]
  constructor
  · rintro ⟨sl, o, ho, hp⟩
    simp only [Bool.and_eq_true] at hp
    cases hg : o.job.group with
    | room n => exact ⟨n, sl, o, ho, hg, hp.2⟩
    | jacks => simp [hg, Group.isRoom] at hp
    | awning => simp [hg, Group.isRoom] at hp
  · rintro ⟨n, sl, o, ho, hg, ha⟩
    exact ⟨sl, o, ho, by simp [hg, ha, Group.isRoom]⟩

theorem frame_iff (s : State) : (s.jacksMoving && s.roomMoving) = false ↔ (s.moves .jacks → ∀ n, ¬ s.moves (.room n)) := by
  rw [← jacksMoving_iff]
  have := roomMoving_iff s
  cases hj : s.jacksMoving <;> cases hr : s.roomMoving <;> simp_all

/-- A state that agrees in all that the books speak of keeps them. -/
theorem State.Ledger.congr {s t : State} (h : s.Ledger) (ho : t.opt = s.opt) (hq : t.sta.queue = s.sta.queue)
    (hr : t.sta.resSum = s.sta.resSum) (hn : t.sta.normalSum = s.sta.normalSum) (hc : t.liu.claims = s.liu.claims)
    (hb : s.sta.resSum ≤ t.items.supply.budgetLimit ∧ s.sta.normalSum ≤ t.items.normalBudget) : t.Ledger := by
  have hop : t.opAt = s.opAt := funext (opAt_of_opt ho)
  have hres : ∀ p, t.reserved p = s.reserved p := fun p => by simp only [reserved_eq, hop]
  refine ⟨?_, ho ▸ h.counter, ?_, ?_, ?_, ?_, ?_, ?_, ?_, ?_, ?_, ?_⟩
  · rw [hop]; exact h.tags
  · rw [hop, ho]; exact h.ended
  · simpa only [State.onePerGroup, hop] using h.groups
  · rw [normalCount_eq, hop, ← normalCount_eq]; exact h.normal
  · rw [hop]; exact h.kinds
  · rw [hr, hn, hres, hres]; exact h.sums
  · rw [hr, hn]; exact hb
  · rw [hq, hop]; exact h.queue
  · rw [hq, hop]; exact h.order
  · rw [frame_iff]
    simpa only [State.moves, hop] using (frame_iff s).mp h.frame
  · intro g
    have := h.claims g
    rw [claimLaw_iff] at this ⊢
    rw [hop]
    simpa only [State.claimOf, hc] using this

/-- The record of one slot gets a new state; the operation, and whether it has ended, stay. -/
theorem ledger_update {s t : State} {sl : Slot} {o p : Op} (h : s.Ledger) (hw : Wrote s t sl p) (ho : s.opAt sl = some o)
    (htag : p.tag = o.tag) (hjob : p.job = o.job) (hend : p.state.isEnded = o.state.isEnded)
    (hlist : t.opt.endedList = s.opt.endedList) (hcount : t.opt.internalTag = s.opt.internalTag)
    (hres : t.sta.resSum + share (fun _ => true) (some o) = s.sta.resSum + share (fun _ => true) (some p))
    (hnor : t.sta.normalSum + share (fun x => x.opClass == .normal) (some o)
      = s.sta.normalSum + share (fun x => x.opClass == .normal) (some p))
    (hbud : t.sta.resSum ≤ t.items.supply.budgetLimit ∧ t.sta.normalSum ≤ t.items.normalBudget)
    (hq : t.queueLaw) (hf : (t.jacksMoving && t.roomMoving) = false) (hc : ∀ g, t.claimLaw g) : t.Ledger := by
  have back : ∀ k q, t.opAt k = some q →
      ∃ q', s.opAt k = some q' ∧ q'.tag = q.tag ∧ q'.job = q.job ∧ q'.state.isEnded = q.state.isEnded := by
    intro k q hk
    rcases hw.cases hk with ⟨rfl, rfl⟩ | ⟨_, hs⟩
    · exact ⟨o, ho, htag.symm, hjob.symm, hend.symm⟩
    · exact ⟨q, hs, rfl, rfl, rfl⟩
  have forth : ∀ k q, s.opAt k = some q →
      ∃ q', t.opAt k = some q' ∧ q'.tag = q.tag ∧ q'.job = q.job ∧ q'.state.isEnded = q.state.isEnded := by
    intro k q hk
    by_cases e : sl = k
    · subst e
      rw [ho] at hk; cases hk
      exact ⟨p, hw.self, htag, hjob, hend⟩
    · exact ⟨q, (hw.other e).trans hk, rfl, rfl, rfl⟩
  have hoff : ∀ k, k ≠ sl → t.opAt k = s.opAt k := fun k hk => hw.other (Ne.symm hk)
  have hr := fun q => reserved_change hoff q
  refine ⟨?_, hcount ▸ h.counter, ⟨hlist ▸ h.ended.1, fun x => ?_⟩, ?_, ?_, ?_, ⟨?_, ?_⟩, hbud, hq.1, hq.2, hf, hc⟩
  · intro a b x hx y hy hxy
    obtain ⟨x', hx', hxt, _⟩ := back a x hx
    obtain ⟨y', hy', hyt, _⟩ := back b y hy
    exact h.tags a b x' hx' y' hy' (by rw [hxt, hyt, hxy])
  · rw [hlist, h.ended.2]
    constructor
    · rintro ⟨k, q, hk, he, rfl⟩
      obtain ⟨q', hk', h1, _, h3⟩ := forth k q hk
      exact ⟨k, q', hk', h3.trans he, h1⟩
    · rintro ⟨k, q, hk, he, rfl⟩
      obtain ⟨q', hk', h1, _, h3⟩ := back k q hk
      exact ⟨k, q', hk', h3.trans he, h1⟩
  · refine NoNew.onePerGroup ?_ h.groups
    exact hw.noNew ho hjob (fun hn => hend.symm.trans hn)
  · have := normalCount_change hoff
    have he : counts (t.opAt sl) = counts (s.opAt sl) := by
      rw [hw.self, ho]; simp [counts, Op.opClass, hjob, hend]
    have := h.normal
    omega
  · intro k q hk
    obtain ⟨q', hk', _, hj, _⟩ := back k q hk
    rw [← hj]; exact h.kinds k q' hk'
  · have := hr (fun _ => true)
    rw [ho, hw.self] at this
    have := h.sums.1
    omega
  · have := hr (fun o => o.opClass == .normal)
    rw [ho, hw.self] at this
    have := h.sums.2
    omega

theorem share_active {p : Op → Bool} {o : Op} (ha : o.state.active = true) :
    share p (some o) = if p o then o.reservation else 0 := by
  simp [share, ha]

theorem share_idle {p : Op → Bool} {o : Op} (ha : o.state.active = false) : share p (some o) = 0 := by
  simp [share, ha]

/-- A group that moves after one record's change moved before. -/
theorem moves_back {s t : State} {sl : Slot} {o p : Op} (hw : Wrote s t sl p) (ho : s.opAt sl = some o)
    (hj : p.job = o.job) (ha : p.state.active = true → o.state.active = true) {g : Group} (h : t.moves g) : s.moves g := by
  obtain ⟨k, q, hk, hg, hq⟩ := h
  rcases hw.cases hk with ⟨rfl, rfl⟩ | ⟨_, hs⟩
  · exact ⟨k, o, ho, hj ▸ hg, ha hq⟩
  · exact ⟨k, q, hs, hg, hq⟩

theorem frame_back {s t : State} (h : (s.jacksMoving && s.roomMoving) = false) (hm : ∀ g, t.moves g → s.moves g) :
    (t.jacksMoving && t.roomMoving) = false := by
  rw [frame_iff] at h ⊢
  exact fun hj n hn => h (hm _ hj) n (hm _ hn)

theorem hosts_alike {o p : Op} (hj : p.job = o.job) (he : p.state.isEnded = o.state.isEnded) (g : Group) :
    p.hosts g ↔ o.hosts g := by
  simp [Op.hosts, Op.claimable, Op.opClass, hj, he]

theorem ledger_rewrite {s : State} {sl : Slot} {o p : Op} (h : s.Ledger) (ho : s.opAt sl = some o) (ha : o.Alike p) :
    (s.setOp sl p).Ledger := by
  have hw := wrote_setOp s sl p
  have hshare : ∀ q : Op → Bool, q p = q o → share q (some p) = share q (some o) := by
    intro q hq; simp [share, ha.active, ha.reservation, hq]
  refine ledger_update h hw ho ha.tag ha.job ha.ended rfl rfl ?_ ?_ h.budget
    (queueLaw_same h.queueLaw rfl hw ho ha.admitted ha.job)
    (frame_back h.frame (fun g => moves_back hw ho ha.job (fun x => ha.active.symm.trans x)))
    (claimLaw_wrote h.claims rfl hw ho (hosts_alike ha.job ha.ended) ha.leaving)
  · rw [hshare _ rfl]; rfl
  · rw [hshare _ (by simp [Op.opClass, ha.job])]; rfl

theorem release_sums (s : State) {sl : Slot} {o : Op} (h : s.Ledger) (ho : s.opAt sl = some o) :
    o.state.active = true → o.reservation ≤ s.sta.resSum
      ∧ (o.opClass = .normal → o.reservation ≤ s.sta.normalSum) := by
  intro ha
  have h1 := share_le_reserved s (fun _ => true) sl
  have h2 := share_le_reserved s (fun o => o.opClass == .normal) sl
  rw [ho, share_active ha] at h1 h2
  refine ⟨by rw [h.sums.1]; simpa using h1, fun hc => ?_⟩
  rw [h.sums.2]
  simpa [hc] using h2

/-- The sums that a record's leaving leaves (R27). -/
theorem left_sums {s : State} {sl : Slot} {o p : Op} (h : s.Ledger) (ho : s.opAt sl = some o) (hp : p.state.active = false) :
    (if o.state.active then s.sta.resSum - o.reservation else s.sta.resSum) + share (fun _ => true) (some o)
        = s.sta.resSum + share (fun _ => true) (some p)
    ∧ (if o.state.active && o.opClass == .normal then s.sta.normalSum - o.reservation else s.sta.normalSum)
        + share (fun x => x.opClass == .normal) (some o) = s.sta.normalSum + share (fun x => x.opClass == .normal) (some p) := by
  rw [share_idle hp, share_idle hp]
  by_cases ha : o.state.active = true
  · obtain ⟨h1, h2⟩ := release_sums s h ho ha
    rw [share_active ha, share_active ha]
    by_cases hc : o.opClass = .normal
    · have := h2 hc
      simp only [ha, hc, if_true, beq_self_eq_true, Bool.and_self]
      omega
    · simp [ha, hc]
      omega
  · simp only [Bool.not_eq_true] at ha
    simp [share, ha]

theorem left_budget {s : State} (h : s.Ledger) (o : Op) :
    (if o.state.active then s.sta.resSum - o.reservation else s.sta.resSum) ≤ s.items.supply.budgetLimit
    ∧ (if o.state.active && o.opClass == .normal then s.sta.normalSum - o.reservation else s.sta.normalSum)
        ≤ s.items.normalBudget := by
  obtain ⟨h1, h2⟩ := h.budget
  constructor <;> split <;> omega

/-- The state that the writing of an end has before the claims are settled. -/
theorem writeEnd_settles {s : State} {sl : Slot} {o : Op} (h : s.opAt sl = some o) (r : Result) (rem : Option Remaining) :
    ∃ u : State, s.writeEnd sl r rem = u.settleClaims ∧ u.liu = s.liu := by
  unfold State.writeEnd
  rw [h]
  dsimp only
  refine ⟨_, rfl, ?_⟩
  simp only [State.noteTag_liu]
  rw [apply_ite State.liu]
  simp only [ite_self]
  rw [forgetGroup_frame, release_frame]
  rfl

theorem moveHeld_settles {s : State} {sl : Slot} {o : Op} (h : s.opAt sl = some o) (r : HoldReason) :
    ∃ u : State, s.moveHeld sl r = u.settleClaims ∧ u.liu = s.liu := by
  unfold State.moveHeld
  rw [h]
  dsimp only
  refine ⟨_, rfl, ?_⟩
  simp only [State.noteTag_liu]
  rw [restGroup_frame, release_frame]
  rfl

theorem claimLaw_settled {s t u : State} {sl : Slot} {p : Op} (h : ∀ g, s.claimLaw g) (hu : t = u.settleClaims)
    (hl : u.liu = s.liu) (hw : Wrote s t sl p) (hp : ∀ g, p.hosts g → s.claimOf g = .free) (g : Group) : t.claimLaw g := by
  have hwu : Wrote s u sl p := hw.of_opt (by rw [hu, settleClaims_opt])
  rw [hu]
  exact claimLaw_settleClaims (claimsOpen_wrote h (by rw [hl]) hwu hp) g

theorem ledger_finish {s : State} {sl : Slot} {o : Op} (h : s.Ledger) (r : Result) (rem : Option Remaining)
    (ho : s.opAt sl = some o) (hn : o.state.isEnded = false) : (s.writeEnd sl r rem).Ledger := by
  have hw := wrote_writeEnd ho r rem
  obtain ⟨u, hu, hul⟩ := writeEnd_settles ho r rem
  have hcl := claimLaw_settled h.claims hu hul hw (fun g hg => by have := hg.2.1; simp [OpState.isEnded] at this)
  obtain ⟨c, hc⟩ := writeEnd_eq ho r rem
  have hop : ∀ k, k ≠ sl → (s.writeEnd sl r rem).opAt k = s.opAt k := fun k hk => hw.other (Ne.symm hk)
  obtain ⟨hres, hnor⟩ := left_sums (p := { o with state := .ended r rem (s.opt.ends + 1), resumed := false }) h ho rfl
  have hnew : o.tag ∉ s.opt.endedList := by
    rw [h.ended.2]
    rintro ⟨k, q, hk, he, ht⟩
    have := h.tags k sl q hk o ho ht
    subst this
    rw [ho] at hk; cases hk
    rw [hn] at he; cases he
  refine ⟨?_, ?_, ⟨?_, fun x => ?_⟩, ?_, ?_, ?_, ⟨?_, ?_⟩, ?_, ?_, ?_, ?_, hcl⟩
  · intro a b x hx y hy hxy
    rcases hw.cases hx with ⟨rfl, rfl⟩ | ⟨_, hx'⟩ <;> rcases hw.cases hy with ⟨rfl, rfl⟩ | ⟨_, hy'⟩
    · rfl
    · exact h.tags a b o ho y hy' hxy
    · exact h.tags a b x hx' o ho hxy
    · exact h.tags a b x hx' y hy' hxy
  · rw [hc]; exact h.counter
  · rw [hc]
    simp only [List.nodup_append]
    exact ⟨h.ended.1, List.nodup_singleton _, fun a ha b hb e => hnew (List.mem_singleton.mp hb ▸ e ▸ ha)⟩
  · have hlist : (s.writeEnd sl r rem).opt.endedList = s.opt.endedList ++ [o.tag] := by rw [hc]
    rw [hlist, List.mem_append, List.mem_singleton, h.ended.2]
    constructor
    · rintro (⟨k, q, hk, he, rfl⟩ | rfl)
      · refine ⟨k, q, (hop k (fun e => ?_)).trans hk, he, rfl⟩
        rw [e, ho] at hk; cases hk
        rw [hn] at he; cases he
      · exact ⟨sl, _, hw.self, rfl, rfl⟩
    · rintro ⟨k, q, hk, he, rfl⟩
      rcases hw.cases hk with ⟨rfl, rfl⟩ | ⟨_, hs⟩
      · exact Or.inr rfl
      · exact Or.inl ⟨k, q, hs, he, rfl⟩
  · exact (hw.noNew ho rfl (fun x => by simp [OpState.isEnded] at x)).onePerGroup h.groups
  · have h1 := normalCount_change hop
    have h2 : counts ((s.writeEnd sl r rem).opAt sl) = 0 := by rw [hw.self]; simp [counts, OpState.isEnded]
    have := h.normal
    omega
  · intro k q hk
    rcases hw.cases hk with ⟨rfl, rfl⟩ | ⟨_, hs⟩
    · exact h.kinds k o ho
    · exact h.kinds k q hs
  · have h1 := reserved_change hop (fun _ => true)
    rw [ho, hw.self] at h1
    have h2 : (s.writeEnd sl r rem).sta.resSum = if o.state.active then s.sta.resSum - o.reservation else s.sta.resSum := by
      rw [hc]
    have h3 := h.sums.1
    omega
  · have h1 := reserved_change hop (fun o => o.opClass == .normal)
    rw [ho, hw.self] at h1
    have h2 : (s.writeEnd sl r rem).sta.normalSum
        = if o.state.active && o.opClass == .normal then s.sta.normalSum - o.reservation else s.sta.normalSum := by
      rw [hc]
    have h3 := h.sums.2
    omega
  · rw [hc]; exact left_budget h o
  · exact (queueLaw_leave h.queueLaw (by rw [hc]) hw rfl).1
  · exact (queueLaw_leave h.queueLaw (by rw [hc]) hw rfl).2
  · exact frame_back h.frame (fun g => moves_back hw ho rfl (fun x => by simp [OpState.active] at x))

theorem ledger_suspend {s : State} {sl : Slot} {o : Op} (h : s.Ledger) (x : HoldReason) (ho : s.opAt sl = some o)
    (hs : o.state.isAdmitted = true ∨ ∃ y ph, o.state = .stopping (.held y) ph) : (s.moveHeld sl x).Ledger := by
  have hw := wrote_moveHeld ho x
  obtain ⟨u, hu, hul⟩ := moveHeld_settles ho x
  obtain ⟨c, hc⟩ := moveHeld_eq ho x
  have hn : o.state.isEnded = false := by
    rcases hs with hs | ⟨y, ph, hs⟩
    · exact admitted_notEnded hs
    · rw [hs]; rfl
  have hnl : ¬ o.state.leaving := by
    rintro ⟨r, ph, e⟩
    rcases hs with hs | ⟨y, ph', hs⟩
    · rw [e] at hs; cases hs
    · rw [e] at hs; cases hs
  have hfree : ∀ g, Op.hosts { o with state := OpState.held x, resumed := false } g → s.claimOf g = .free := by
    intro g hg
    have hg' : o.hosts g := ⟨hg.1, hn, hg.2.2⟩
    have := h.claims g
    rw [claimLaw_iff] at this
    cases hcl : s.claimOf g with
    | free => rfl
    | claimed => exact absurd hg' (this.1 hcl sl o ho)
    | pending => exact absurd ((this.2 hcl).2 sl o ho hg') hnl
  obtain ⟨hres, hnor⟩ := left_sums (p := { o with state := .held x, resumed := false }) h ho rfl
  refine ledger_update h hw ho rfl rfl (by rw [hn]; rfl) (by rw [hc]) (by rw [hc]) (by rw [hc]; exact hres)
    (by rw [hc]; exact hnor) (by rw [hc]; exact left_budget h o)
    (queueLaw_leave h.queueLaw (by rw [hc]) hw rfl)
    (frame_back h.frame (fun g => moves_back hw ho rfl (fun x => by simp [OpState.active] at x)))
    (claimLaw_settled h.claims hu hul hw hfree)

theorem blockedBy_none {s : State} {o : Op} (h : s.blockedBy o = none) :
    s.fitsBudget o = true ∧ s.frameAllows o.job.group = true ∧ s.staggerAllows o = true ∧ s.supplyAllows o = true := by
  unfold State.blockedBy at h
  cases h1 : s.fitsBudget o <;> cases h2 : s.frameAllows o.job.group <;> cases h3 : s.staggerAllows o
    <;> cases h4 : s.supplyAllows o <;> simp_all

theorem admitted_notLeaving {st : OpState} (h : st.isAdmitted = true) : ¬ st.leaving := by
  rintro ⟨r, ph, rfl⟩; cases h

theorem held_notLeaving {st : OpState} (h : st.isHeld = true) : ¬ st.leaving := by
  rintro ⟨r, ph, rfl⟩; cases h

theorem ledger_grant {s : State} {sl : Slot} {o : Op} (h : s.Ledger) (ho : s.opAt sl = some o)
    (ha : o.state.isAdmitted = true) (hb : s.blockedBy o = none) : (s.grantRecord sl o).Ledger := by
  have hw := wrote_grantRecord s sl o
  obtain ⟨hfit, hframe, _, _⟩ := blockedBy_none hb
  have hidle := admitted_notActive ha
  refine ledger_update h hw ho rfl rfl (by rw [admitted_notEnded ha]; rfl) rfl rfl ?_ ?_ ?_
    (queueLaw_leave h.queueLaw rfl hw rfl) ?_
    (claimLaw_wrote h.claims rfl hw ho (hosts_alike rfl (by rw [admitted_notEnded ha]; rfl))
      (fun hl => absurd hl (admitted_notLeaving ha)))
  · rw [share_idle hidle]; simp [share, State.grantRecord, OpState.active]
  · rw [share_idle hidle]
    by_cases hc : o.opClass = .normal
    · simp [share, State.grantRecord, OpState.active, Op.opClass] at hc ⊢; simp [hc]
    · simp [share, State.grantRecord, OpState.active, Op.opClass] at hc ⊢; simp [hc]
  · unfold State.fitsBudget at hfit
    obtain ⟨_, hold⟩ := h.budget
    cases hc : o.opClass with
    | normal =>
      rw [hc] at hfit
      have hle := of_decide_eq_true hfit
      simpa [State.grantRecord, hc, State.items] using hle
    | safety =>
      rw [hc] at hfit
      have hle := of_decide_eq_true hfit
      have : (s.grantRecord sl o).sta.normalSum = s.sta.normalSum := by simp [State.grantRecord, hc]
      exact ⟨hle, by rw [this]; exact hold⟩
  · rw [frame_iff]
    have hf := (frame_iff s).mp h.frame
    have back : ∀ g, (s.grantRecord sl o).moves g → s.moves g ∨ o.job.group = g := by
      rintro g ⟨k, q, hk, hg, hq⟩
      rcases hw.cases hk with ⟨rfl, rfl⟩ | ⟨_, hs⟩
      · exact Or.inr hg
      · exact Or.inl ⟨k, q, hs, hg, hq⟩
    intro hj n hm
    rcases back _ hj with hj' | hj' <;> rcases back _ hm with hm' | hm'
    · exact hf hj' n hm'
    · rw [hm'] at hframe
      simp [State.frameAllows, (jacksMoving_iff s).mpr hj'] at hframe
    · rw [hj'] at hframe
      simp [State.frameAllows, (roomMoving_iff s).mpr ⟨n, hm'⟩] at hframe
    · rw [hj'] at hm'; cases hm'

end Sys2Proof.Machine
end

section
namespace Sys2Proof.Machine

-- One declaration at a time, so that the memory the check takes stays small.
set_option Elab.async false

/-! ### The books under an admission -/

theorem ledger_clear {s : State} {sl : Slot} {o : Op} (h : s.Ledger) (ho : s.opAt sl = some o)
    (he : o.state.isEnded = true) : (s.clearSlot sl).Ledger := by
  have heq : s.clearSlot sl = { s with opt := { s.opt with
      slots := s.opt.slots.set sl none, endedList := s.opt.endedList.filter (fun t => t != o.tag) } } := by
    simp [State.clearSlot, ho]
  have hop : ∀ k, (s.clearSlot sl).opAt k = if sl = k then none else s.opAt k := opAt_clearSlot s sl
  have hoff : ∀ k, k ≠ sl → (s.clearSlot sl).opAt k = s.opAt k := fun k hk => by rw [hop, if_neg (Ne.symm hk)]
  have hself : (s.clearSlot sl).opAt sl = none := by rw [hop, if_pos rfl]
  have back : ∀ k q, (s.clearSlot sl).opAt k = some q → k ≠ sl ∧ s.opAt k = some q := by
    intro k q hk
    rw [hop] at hk
    split at hk
    · cases hk
    · next e => exact ⟨Ne.symm e, hk⟩
  have live : ∀ k q, s.opAt k = some q → q.state.isEnded = false → (s.clearSlot sl).opAt k = some q := by
    intro k q hk hn
    refine (hoff k (fun e => ?_)).trans hk
    rw [e, ho] at hk; cases hk
    rw [he] at hn; cases hn
  have hres : ∀ p, (s.clearSlot sl).reserved p = s.reserved p := by
    intro p
    have := reserved_change hoff p
    rw [ho, hself, share_idle (ended_notActive he)] at this
    simpa [share] using this
  refine ⟨?_, by rw [heq]; exact h.counter, ⟨?_, fun x => ?_⟩, ?_, ?_, ?_, ⟨?_, ?_⟩, by rw [heq]; exact h.budget, ⟨?_, fun k => ?_⟩,
    ?_, ?_, fun g => ?_⟩
  · exact fun a b x hx y hy hxy => h.tags a b x (back a x hx).2 y (back b y hy).2 hxy
  · rw [heq]; exact h.ended.1.filter _
  · have hl : (s.clearSlot sl).opt.endedList = s.opt.endedList.filter (fun t => t != o.tag) := by rw [heq]
    rw [hl, List.mem_filter, h.ended.2]
    constructor
    · rintro ⟨⟨k, q, hk, hq, rfl⟩, hne⟩
      refine ⟨k, q, (hoff k (fun e => ?_)).trans hk, hq, rfl⟩
      rw [e, ho] at hk; cases hk
      simp at hne
    · rintro ⟨k, q, hk, hq, rfl⟩
      obtain ⟨hne, hk'⟩ := back k q hk
      refine ⟨⟨k, q, hk', hq, rfl⟩, ?_⟩
      simpa using fun ht => hne (h.tags k sl q hk' o ho ht)
  · exact NoNew.onePerGroup (fun k q hk hn => ⟨q, (back k q hk).2, hn, rfl⟩) h.groups
  · have := normalCount_change hoff
    rw [hself] at this
    have := h.normal
    simp [counts] at *
    omega
  · exact fun k q hk => h.kinds k q (back k q hk).2
  · rw [hres, heq]; exact h.sums.1
  · rw [hres, heq]; exact h.sums.2
  · rw [heq]; exact h.queue.1
  · have hq : (s.clearSlot sl).sta.queue = s.sta.queue := by rw [heq]
    rw [hq, h.queue.2]
    exact ⟨fun ⟨q, hk, ha⟩ => ⟨q, live k q hk (admitted_notEnded ha), ha⟩, fun ⟨q, hk, ha⟩ => ⟨q, (back k q hk).2, ha⟩⟩
  · have hq : (s.clearSlot sl).sta.queue = s.sta.queue := by rw [heq]
    rw [hq]
    exact h.order.imp (fun {x y} hxy a b hx hy => hxy a b (back x a hx).2 (back y b hy).2)
  · exact frame_back h.frame (fun g ⟨k, q, hk, hg, ha⟩ => ⟨k, q, (back k q hk).2, hg, ha⟩)
  · have hcl : (s.clearSlot sl).claimOf g = s.claimOf g := by rw [heq]; rfl
    have := h.claims g
    rw [claimLaw_iff] at this ⊢
    rw [hcl]
    refine ⟨fun hc k q hk => this.1 hc k q (back k q hk).2, fun hc => ⟨?_, fun k q hk => (this.2 hc).2 k q (back k q hk).2⟩⟩
    obtain ⟨k, q, hk, hq⟩ := (this.2 hc).1
    exact ⟨k, q, live k q hk hq.2.1, hq⟩

theorem slotOfTag_none {s : State} {tag : Nat} (h : s.slotOfTag tag = none) {sl : Slot} {o : Op} (ho : s.opAt sl = some o) :
    o.tag ≠ tag := by
  have := findSlot_none.mp h sl o ho
  simpa using this

/-- Where the books agree, the slot that an admission takes is free or holds an ENDED record (R6). -/
theorem placeSlot_free {s : State} (h : s.Ledger) {sl : Slot} (hp : s.placeSlot = some sl) :
    s.opAt sl = none ∨ ∃ o, s.opAt sl = some o ∧ o.state.isEnded = true := by
  unfold State.placeSlot at hp
  split at hp
  · next k hk =>
    cases hp
    exact Or.inl (by simpa using List.find?_some hk)
  · cases hl : s.opt.endedList with
    | nil => simp [hl] at hp
    | cons x l =>
      rw [hl] at hp
      obtain ⟨o, ho, ht⟩ := findSlot_some (show s.findSlot (fun o => o.tag == x) = some sl from hp)
      obtain ⟨k, q, hk, hq, hqt⟩ := (h.ended.2 x).mp (by simp [hl])
      have := h.tags sl k o ho q hk (by rw [hqt]; simpa using ht)
      subst this
      rw [hk] at ho; cases ho
      exact Or.inr ⟨_, hk, hq⟩

/-- The table with a slot freed for an admission. -/
theorem ledger_freed {s : State} (h : s.Ledger) {sl : Slot} (hp : s.placeSlot = some sl) :
    (s.clearSlot sl).Ledger := by
  rcases placeSlot_free h hp with hn | ⟨o, ho, he⟩
  · have : s.clearSlot sl = s := by simp [State.clearSlot, hn]
    rwa [this]
  · exact ledger_clear h ho he

/-- A new operation stands in a free slot, waiting in the queue or ended already. -/
theorem ledger_born {s t : State} {sl : Slot} {p : Op} (h : s.Ledger) (hfree : s.opAt sl = none) (hw : Wrote s t sl p)
    (htag : ∀ k q, s.opAt k = some q → q.tag ≠ p.tag)
    (hgroup : ∀ k q, s.opAt k = some q → q.job.group = p.job.group → q.state.isEnded = true)
    (hkind : p.job.kind.fits p.job.group = true) (hnormal : p.opClass = .normal → s.normalCount < 3)
    (hidle : p.state.active = false) (hcount : t.opt.internalTag = s.opt.internalTag)
    (hlist : t.opt.endedList = if p.state.isEnded then s.opt.endedList ++ [p.tag] else s.opt.endedList)
    (hres : t.sta.resSum = s.sta.resSum) (hnor : t.sta.normalSum = s.sta.normalSum) (hitems : t.ist = s.ist)
    (hq : t.queueLaw) (hc : ∀ g, t.claimLaw g) : t.Ledger := by
  have hoff : ∀ k, k ≠ sl → t.opAt k = s.opAt k := fun k hk => hw.other (Ne.symm hk)
  have old : ∀ k q, s.opAt k = some q → t.opAt k = some q := by
    intro k q hk
    exact (hoff k (fun e => by rw [e, hfree] at hk; cases hk)).trans hk
  have hnew : p.tag ∉ s.opt.endedList := by
    rw [h.ended.2]
    rintro ⟨k, q, hk, _, ht⟩
    exact htag k q hk ht
  have hreserved : ∀ f, t.reserved f = s.reserved f := by
    intro f
    have := reserved_change hoff f
    rw [hfree, hw.self, share_idle hidle] at this
    simpa [share] using this
  refine ⟨?_, hcount ▸ h.counter, ⟨?_, fun x => ?_⟩, ?_, ?_, ?_, ?_, ?_, hq.1, hq.2, ?_, hc⟩
  · intro a b x hx y hy hxy
    rcases hw.cases hx with ⟨rfl, rfl⟩ | ⟨_, hx'⟩ <;> rcases hw.cases hy with ⟨rfl, rfl⟩ | ⟨_, hy'⟩
    · rfl
    · exact absurd hxy.symm (htag b y hy')
    · exact absurd hxy (htag a x hx')
    · exact h.tags a b x hx' y hy' hxy
  · rw [hlist]
    split
    · rw [List.nodup_append]
      exact ⟨h.ended.1, List.nodup_singleton _, fun a ha b hb e => hnew (List.mem_singleton.mp hb ▸ e ▸ ha)⟩
    · exact h.ended.1
  · have hx : x ∈ t.opt.endedList ↔ x ∈ s.opt.endedList ∨ (p.state.isEnded = true ∧ x = p.tag) := by
      rw [hlist]; split <;> simp_all
    rw [hx, h.ended.2]
    constructor
    · rintro (⟨k, q, hk, hq, rfl⟩ | ⟨hp, rfl⟩)
      · exact ⟨k, q, old k q hk, hq, rfl⟩
      · exact ⟨sl, p, hw.self, hp, rfl⟩
    · rintro ⟨k, q, hk, hq, rfl⟩
      rcases hw.cases hk with ⟨rfl, rfl⟩ | ⟨_, hs⟩
      · exact Or.inr ⟨hq, rfl⟩
      · exact Or.inl ⟨k, q, hs, hq, rfl⟩
  · intro a b x hx y hy hxn hyn hg
    rcases hw.cases hx with ⟨rfl, rfl⟩ | ⟨_, hx'⟩ <;> rcases hw.cases hy with ⟨rfl, rfl⟩ | ⟨_, hy'⟩
    · rfl
    · rw [hgroup b y hy' hg.symm] at hyn; cases hyn
    · rw [hgroup a x hx' hg] at hxn; cases hxn
    · exact h.groups a b x hx' y hy' hxn hyn hg
  · have hch := normalCount_change hoff
    rw [hfree, hw.self] at hch
    have h3 := h.normal
    by_cases hcl : p.opClass = .normal
    · have := hnormal hcl
      have : counts (some p) ≤ 1 := by unfold counts; split <;> omega
      simp [counts] at hch this ⊢
      omega
    · simp [counts, hcl] at hch
      omega
  · intro k q hk
    rcases hw.cases hk with ⟨rfl, rfl⟩ | ⟨_, hs⟩
    · exact hkind
    · exact h.kinds k q hs
  · rw [hres, hnor, hreserved, hreserved]; exact h.sums
  · rw [hres, hnor]; simpa [State.items, hitems] using h.budget
  · refine frame_back h.frame (fun g ⟨k, q, hk, hg, ha⟩ => ?_)
    rcases hw.cases hk with ⟨rfl, rfl⟩ | ⟨_, hs⟩
    · rw [hidle] at ha; cases ha
    · exact ⟨k, q, hs, hg, ha⟩

/-- The claims law after an operation has come that the law allows. -/
theorem claimLaw_born {s t : State} {sl : Slot} {p : Op} (h : ∀ g, s.claimLaw g) (hc : t.liu.claims = s.liu.claims)
    (hw : Wrote s t sl p) (hfree : s.opAt sl = none) (hp : ∀ g, p.hosts g → s.claimOf g = .free) (g : Group) :
    t.claimLaw g := by
  have hopen := claimsOpen_wrote h hc hw hp g
  have hcl : t.claimOf g = s.claimOf g := by simp [State.claimOf, hc]
  have := h g
  rw [claimLaw_iff] at this ⊢
  refine ⟨hopen.1, fun he => ⟨?_, hopen.2 he⟩⟩
  obtain ⟨k, q, hk, hq⟩ := (this.2 (hcl ▸ he)).1
  exact ⟨k, q, (hw.other (fun e => by rw [← e, hfree] at hk; cases hk)).trans hk, hq⟩

theorem placeRecord_eq (s : State) (sl : Slot) (o : Op) :
    s.placeRecord sl o = { s with opt := (s.placeRecord sl o).opt } := by
  unfold State.placeRecord State.clearSlot
  split <;> rfl

theorem placeRecord_list (s : State) (sl : Slot) (o : Op) :
    (s.placeRecord sl o).opt.endedList = (s.clearSlot sl).opt.endedList
    ∧ (s.placeRecord sl o).opt.internalTag = s.opt.internalTag := by
  refine ⟨rfl, ?_⟩
  unfold State.placeRecord State.clearSlot
  split <;> rfl

theorem clearSlot_eq (s : State) (sl : Slot) : s.clearSlot sl = { s with opt := (s.clearSlot sl).opt } := by
  unfold State.clearSlot; split <;> rfl

/-- The record stands in its slot, the awning's direction fixed: what an admission does before the job's motion is judged. -/
def State.placed (s : State) (sl : Slot) (tag : Nat) (j : Job) : State :=
  (s.placeRecord sl (s.newRecord tag j)).fixAwning j

theorem placed_eq (s : State) (sl : Slot) (tag : Nat) (j : Job) :
    s.placed sl tag j = { s with opt := (s.placed sl tag j).opt, awu := (s.placed sl tag j).awu } := by
  unfold State.placed
  rw [fixAwning_eq, placeRecord_eq]

theorem wrote_placed (s : State) (sl : Slot) (tag : Nat) (j : Job) :
    Wrote s (s.placed sl tag j) sl (s.newRecord tag j) :=
  (wrote_placeRecord s sl _).of_opt (fixAwning_opt _ _)

theorem admitJob_eq {s : State} {sl : Slot} (tag : Nat) (j : Job) (hp : s.placeSlot = some sl) : s.admitJob tag j =
    if s.idleJob j then (s.placed sl tag j).writeEnd sl .complete ((s.placed sl tag j).idleRemaining (s.newRecord tag j))
    else (if j.kind == .level then { s.placed sl tag j with lvc := { (s.placed sl tag j).lvc with groundDone := false } }
      else s.placed sl tag j).enqueue sl j.kind.opClass := by
  unfold State.admitJob
  rw [hp]
  rfl

theorem ledger_admit {s : State} {tag : Nat} {j : Job} (h : s.Ledger) (htag : s.slotOfTag tag = none)
    (hb : s.busySlot j.group = none) (hk : j.kind.fits j.group = true)
    (hcl : s.claimOf j.group = .free ∨ (j.origin = .service ∨ j.origin = .internal ∧ j.kind.opClass = .safety))
    (hn : j.kind.opClass = .normal → s.normalCount < 3) : (s.admitJob tag j).Ledger := by
  cases hp : s.placeSlot with
  | none => rwa [admitJob_noSlot hp]
  | some sl =>
  have hf := ledger_freed h hp
  have hfree : (s.clearSlot sl).opAt sl = none := by rw [opAt_clearSlot, if_pos rfl]
  have back : ∀ k q, (s.clearSlot sl).opAt k = some q → s.opAt k = some q := by
    intro k q hq
    rw [opAt_clearSlot] at hq
    split at hq
    · cases hq
    · exact hq
  have hwf : Wrote (s.clearSlot sl) (s.placed sl tag j) sl (s.newRecord tag j) := by
    intro k
    rw [wrote_placed s sl tag j k]
    split
    · rfl
    · next e => rw [opAt_clearSlot, if_neg e]
  have hcount : (s.clearSlot sl).normalCount ≤ s.normalCount := by
    have hoff : ∀ k, k ≠ sl → (s.clearSlot sl).opAt k = s.opAt k := fun k hk => by
      rw [opAt_clearSlot, if_neg (Ne.symm hk)]
    have := normalCount_change hoff
    rw [hfree] at this
    simp [counts] at this
    omega
  have hclaims : (s.clearSlot sl).liu = s.liu := by rw [clearSlot_eq]
  have hhosts : ∀ (p : Op), p.job = j → ∀ g, p.hosts g → (s.clearSlot sl).claimOf g = .free := by
    rintro p rfl g ⟨rfl, _, hc⟩
    have : (s.clearSlot sl).claimOf p.job.group = s.claimOf p.job.group := by simp [State.claimOf, hclaims]
    rw [this]
    rcases hcl with hcl | hcl | ⟨h1, h2⟩
    · exact hcl
    · simp [Op.claimable, hcl] at hc
    · simp [Op.claimable, h1, Op.opClass, h2] at hc
  have hpl := placed_eq s sl tag j
  have hplc : (s.placed sl tag j).liu = (s.clearSlot sl).liu := by rw [hpl, hclaims]
  have hpls : (s.placed sl tag j).sta = (s.clearSlot sl).sta := by rw [hpl, clearSlot_eq]
  have hpli : (s.placed sl tag j).ist = (s.clearSlot sl).ist := by rw [hpl, clearSlot_eq]
  have hplo : (s.placed sl tag j).opt.endedList = (s.clearSlot sl).opt.endedList
      ∧ (s.placed sl tag j).opt.internalTag = (s.clearSlot sl).opt.internalTag := by
    unfold State.placed
    rw [fixAwning_opt, (placeRecord_list s sl _).1, (placeRecord_list s sl _).2]
    exact ⟨rfl, by unfold State.clearSlot; split <;> rfl⟩
  have hnotin : sl ∉ (s.clearSlot sl).sta.queue := by
    rw [hf.queue.2]
    rintro ⟨o, ho, _⟩
    rw [hfree] at ho; cases ho
  have htags : ∀ k q, (s.clearSlot sl).opAt k = some q → q.tag ≠ tag := fun k q hq => slotOfTag_none htag (back k q hq)
  have hgroups : ∀ k q, (s.clearSlot sl).opAt k = some q → q.job.group = j.group → q.state.isEnded = true :=
    fun k q hq hg => busySlot_none hb (back k q hq) hg
  have hnorm : j.kind.opClass = .normal → (s.clearSlot sl).normalCount < 3 := fun hc => lt_of_le_of_lt hcount (hn hc)
  rw [admitJob_eq tag j hp]
  split
  · have hself := hwf.self
    generalize hrem : (s.placed sl tag j).idleRemaining (s.newRecord tag j) = rem
    have hw0 := wrote_writeEnd hself .complete rem
    obtain ⟨u, hu, hul⟩ := writeEnd_settles hself .complete rem
    obtain ⟨c, hc⟩ := writeEnd_eq hself .complete rem
    have hw : Wrote (s.clearSlot sl) _ sl _ := fun k => by
      rw [hw0 k]
      split
      · rfl
      · next e => exact hwf.other e
    have hsums : ((s.placed sl tag j).writeEnd sl .complete rem).sta.resSum = (s.clearSlot sl).sta.resSum
        ∧ ((s.placed sl tag j).writeEnd sl .complete rem).sta.normalSum = (s.clearSlot sl).sta.normalSum := by
      rw [hc, ← hpls]; exact ⟨rfl, rfl⟩
    refine ledger_born hf hfree hw htags hgroups hk hnorm rfl ?_ ?_ hsums.1 hsums.2 ?_ ?_ ?_
    · rw [hc]; exact hplo.2
    · rw [hc]; simp [OpState.isEnded, hplo.1, State.newRecord]
    · rw [hc]; exact hpli
    · refine queueLaw_leave hf.queueLaw ?_ hw rfl
      rw [hc, ← hpls]
    · exact claimLaw_settled hf.claims hu (hul.trans hplc) hw (hhosts _ rfl)
  · have hw : Wrote (s.clearSlot sl) _ sl (s.newRecord tag j) := hwf.of_opt (u := (if j.kind == .level then
        { s.placed sl tag j with lvc := { (s.placed sl tag j).lvc with groundDone := false } }
        else s.placed sl tag j).enqueue sl j.kind.opClass) (by unfold State.enqueue; split <;> rfl)
    have hst : (if j.kind == .level then
        { s.placed sl tag j with lvc := { (s.placed sl tag j).lvc with groundDone := false } }
        else s.placed sl tag j) = { s.placed sl tag j with lvc := (if j.kind == .level then
        { s.placed sl tag j with lvc := { (s.placed sl tag j).lvc with groundDone := false } }
        else s.placed sl tag j).lvc } := by split <;> rfl
    refine ledger_born hf hfree hw htags hgroups hk hnorm rfl ?_ ?_ ?_ ?_ ?_ ?_ ?_
    · rw [hst]; exact hplo.2
    · rw [hst]; exact hplo.1
    · rw [hst, ← hpls]; rfl
    · rw [hst, ← hpls]; rfl
    · rw [hst, ← hpli]; rfl
    · refine queueLaw_join hf.queueLaw hnotin hw rfl ?_
      rw [hst, ← hpls]; rfl
    · refine claimLaw_born hf.claims ?_ hw hfree (hhosts _ rfl)
      rw [hst, ← hplc]; rfl

theorem ledger_readmit {s : State} {sl : Slot} {o : Op} (h : s.Ledger) (ho : s.opAt sl = some o)
    (hh : o.state.isHeld = true) : (s.readmit sl o).Ledger := by
  have hw := wrote_readmit s sl o
  have hidle := held_notActive hh
  have hnotin : sl ∉ s.sta.queue := by
    rw [h.queue.2]
    rintro ⟨q, hq, ha⟩
    rw [ho] at hq; cases hq
    cases hs : o.state <;> simp_all [OpState.isHeld, OpState.isAdmitted]
  refine ledger_update h hw ho rfl rfl (by rw [held_notEnded hh]; rfl) rfl rfl ?_ ?_ h.budget
    (queueLaw_join h.queueLaw hnotin hw rfl rfl)
    (frame_back h.frame (fun g => moves_back hw ho rfl (fun x => by simp [OpState.active] at x)))
    (claimLaw_wrote h.claims rfl hw ho (hosts_alike rfl (by rw [held_notEnded hh]; rfl))
      (fun hl => absurd hl (held_notLeaving hh)))
  · rw [share_idle hidle, share_idle rfl]; rfl
  · rw [share_idle hidle, share_idle rfl]; rfl

/-- A claims map under which the law holds keeps the books. -/
theorem ledger_claims {s : State} {c : Bank Claim 6} (h : s.Ledger)
    (hc : ∀ g, State.claimLaw { s with liu := { s.liu with claims := c } } g) :
    State.Ledger { s with liu := { s.liu with claims := c } } :=
  ⟨h.tags, h.counter, h.ended, h.groups, h.normal, h.kinds, h.sums, h.budget, h.queue, h.order, h.frame, hc⟩

theorem ledger_claim {s : State} {g : Group} (h : s.Ledger)
    (hg : ∀ sl o, s.opAt sl = some o → o.job.group = g → o.claimable = true → o.state.isEnded = false →
      ∃ r ph, o.state = .stopping (.ended r) ph) : (s.claimGroup g).Ledger := by
  refine ledger_claims h (fun k => ?_)
  have := h.claims k
  rw [claimLaw_iff] at this ⊢
  have hcl : State.claimOf { s with liu := { s.liu with
      claims := s.liu.claims.set g.idx (if s.hostBusy g then Claim.pending else .claimed) } } k
      = if g = k then (if s.hostBusy g then Claim.pending else .claimed) else s.claimOf k := claimOf_setClaim s g k _
  rw [hcl]
  change (_ → ∀ sl o, s.opAt sl = some o → _) ∧ (_ → (∃ sl o, s.opAt sl = some o ∧ _) ∧ ∀ sl o, s.opAt sl = some o → _ → _)
  by_cases e : g = k
  · subst e
    cases hb : s.hostBusy g with
    | true => simpa using ⟨(hostBusy_hosts s g).mp hb, fun sl o ho hh => hg sl o ho hh.1 hh.2.2 hh.2.1⟩
    | false => simpa using (hostBusy_false s g).mp hb
  · simpa [e] using this

theorem ledger_unclaim {s : State} {c : Bank Claim 6} (h : s.Ledger)
    (hc : ∀ g : Group, c.get g.idx = .free ∨ c.get g.idx = s.claimOf g) :
    State.Ledger { s with liu := { s.liu with claims := c } } := by
  refine ledger_claims h (fun g => ?_)
  have hg := h.claims g
  rw [claimLaw_iff] at hg ⊢
  have hcl : State.claimOf { s with liu := { s.liu with claims := c } } g = c.get g.idx := rfl
  rw [hcl]
  rcases hc g with e | e <;> rw [e]
  · simp
  · exact hg

theorem Act.ledger {s t : State} (a : Act s t) (h : s.Ledger) : t.Ledger := by
  cases a with
  | quiet q => exact h.congr q.table (by rw [q.arbiter]) (by rw [q.arbiter]) (by rw [q.arbiter]) q.claims (by rw [q.items]; exact h.budget)
  | rewrite ho ha => exact ledger_rewrite h ho ha
  | finish r rem ho hn => exact ledger_finish h r rem ho hn
  | suspend x ho hs => exact ledger_suspend h x ho hs
  | grant ho ha hb => exact ledger_grant h ho ha hb
  | clear ho he => exact ledger_clear h ho he
  | monitor hq hr hn => exact h.congr rfl hq hr hn rfl h.budget
  | unclaim hc => exact ledger_unclaim h hc

theorem Deed.ledger {s t : State} (a : Deed s t) (h : s.Ledger) : t.Ledger := by
  cases a with
  | act a => exact a.ledger h
  | enroll ht hb hk hc hn => exact ledger_admit h (ht h.counter) hb hk hc hn
  | counter hn =>
    exact ⟨h.tags, hn h.counter, h.ended, h.groups, h.normal, h.kinds, h.sums, h.budget, h.queue, h.order, h.frame, h.claims⟩
  | readmit ho hh => exact ledger_readmit h ho hh
  | claim hg => exact ledger_claim h hg

theorem Deeds.ledger {s t : State} (a : Deeds s t) (h : s.Ledger) : t.Ledger := by
  induction a with
  | refl => exact h
  | tail _ a ih => exact a.ledger ih

theorem Acts.ledger {s t : State} (a : Acts s t) (h : s.Ledger) : t.Ledger := a.deeds.ledger h

end Sys2Proof.Machine
end

section
namespace Sys2Proof.Machine

-- One declaration at a time, so that the memory the check takes stays small.
set_option Elab.async false

/-! ### The Operation Table's own operations, made of acts -/

theorem acts_endOp {s : State} {sl : Slot} {o : Op} (r : Result) (ho : s.opAt sl = some o) (hn : o.state.isEnded = false) :
    Acts s (s.endOp sl r) := by
  unfold State.endOp
  rw [ho]
  exact (Act.finish r _ ho hn).acts

theorem acts_motionCeased (s : State) (sl : Slot) : Acts s (s.motionCeased sl) := by
  unfold State.motionCeased
  split
  · exact .refl
  · next o ho =>
    split
    · next hs => exact acts_endOp _ ho (by rw [hs]; rfl)
    · next hs => exact (Act.suspend _ ho (Or.inr ⟨_, _, hs⟩)).acts
    · exact .refl

/-- A record gets a state of the same kind. -/
theorem acts_setState {s : State} {sl : Slot} {o : Op} {st : OpState} (ho : s.opAt sl = some o)
    (ha : st.isAdmitted = o.state.isAdmitted) (hc : st.active = o.state.active)
    (he : st.isEnded = o.state.isEnded) (hl : o.state.leaving → st.leaving) :
    Acts s (s.setOp sl { o with state := st }) :=
  (Act.rewrite (p := { o with state := st }) ho ⟨rfl, rfl, rfl, ha, hc, he, hl⟩).acts

theorem running_notLeaving {ph : Option Phase} : ¬ (OpState.running ph).leaving := by
  rintro ⟨r, x, h⟩; cases h

theorem acts_stopToward (s : State) (sl : Slot) (d : Dest) : Acts s (s.stopToward sl d) := by
  unfold State.stopToward
  split
  · exact .refl
  · next o ho =>
    split
    · next ph hs =>
      have hset : Acts s (s.setOp sl { o with state := .stopping d ph }) := by
        refine acts_setState ho ?_ ?_ ?_ (fun hl => absurd (hs ▸ hl) running_notLeaving) <;> rw [hs] <;> rfl
      have hstop := hset.trans (quiet_rampGroup _ o.job.group).acts
      dsimp only
      split
      · exact hstop.trans (acts_motionCeased _ sl)
      · exact hstop
    · exact .refl

theorem acts_cancelOp (s : State) (sl : Slot) (r : Result) : Acts s (s.cancelOp sl r) := by
  unfold State.cancelOp
  split
  · exact .refl
  · next o ho =>
    split
    · next hs => exact acts_endOp r ho (by rw [hs]; rfl)
    · next hs => exact acts_endOp r ho (by rw [hs]; rfl)
    · exact acts_stopToward s sl _
    · next hs =>
      refine acts_setState ho ?_ ?_ ?_ (fun _ => ⟨_, _, rfl⟩) <;> rw [hs] <;> rfl
    · exact .refl
    · exact .refl

theorem acts_holdOp (s : State) (sl : Slot) (h : HoldReason) : Acts s (s.holdOp sl h) := by
  unfold State.holdOp
  split
  · exact .refl
  · next o ho =>
    split
    · exact .refl
    · split
      · next hs => exact (Act.suspend h ho (Or.inl (by rw [hs]; rfl))).acts
      · exact acts_stopToward s sl _
      · exact .refl

theorem quiet_cutGroup (s : State) (g : Group) : Quiet s (s.cutGroup g) := by
  cases g <;> exact quiet

theorem immediate_notEnded {st : OpState} {r x : Result} (h : st.immediate r = some x) : st.isEnded = false := by
  cases st <;> simp_all [OpState.immediate, OpState.isEnded]

theorem acts_endNow (s : State) (sl : Slot) (r : Result) : Acts s (s.endNow sl r) := by
  unfold State.endNow
  split
  · exact .refl
  · next o ho =>
    split
    · exact .refl
    · next x hx =>
      have hn := immediate_notEnded hx
      have hq := quiet_cutGroup s o.job.group
      dsimp only
      split
      · exact hq.acts.trans (Act.finish _ _ ((opAt_of_opt hq.table sl).trans ho) hn).acts
      · exact (Act.finish _ _ ho hn).acts

theorem acts_eachOp (s : State) {p : State → Op → Bool} {f : State → Slot → State}
    (hf : ∀ s sl o, s.opAt sl = some o → p s o = true → Acts s (f s sl)) : Acts s (s.eachOp p f) := by
  refine acts_foldl slots (fun s sl _ => ?_) s
  split
  · next o ho =>
    split
    · next hp => exact hf s sl o ho hp
    · exact .refl
  · exact .refl

theorem acts_holdAll (s : State) (p : Op → Bool) (h : HoldReason) : Acts s (s.holdAll p h) :=
  acts_eachOp s (fun s sl _ _ _ => acts_holdOp s sl h)

theorem acts_endAll (s : State) (p : Op → Bool) (r : Result) : Acts s (s.endAll p r) :=
  acts_eachOp s (fun s sl _ _ _ => acts_endNow s sl r)

theorem acts_cancelAll (s : State) (p : State → Op → Bool) (r : Result) : Acts s (s.cancelAll p r) :=
  acts_eachOp s (fun s sl _ _ _ => acts_cancelOp s sl r)

theorem acts_applySlideFault (s : State) (sl : Slot) : Acts s (s.applySlideFault sl) := by
  unfold State.applySlideFault
  split
  · exact .refl
  all_goals
    refine acts_foldl slots (fun s k _ => ?_) s
    split
    · split
      · exact acts_cancelOp s k _
      · exact .refl
    · exact .refl

theorem acts_reportEndWith (s : State) (sl : Slot) (r : Result) (rem : Option Remaining) :
    Acts s (s.reportEndWith sl r rem) := by
  unfold State.reportEndWith
  split
  · exact .refl
  · next o ho =>
    split
    · next hs =>
      have hf : Acts s (s.writeEnd sl r rem) := (Act.finish r rem ho (by rw [hs]; rfl)).acts
      dsimp only
      split
      · exact hf.trans (acts_applySlideFault _ sl)
      · exact hf
    · exact .refl

theorem acts_reportEnd (s : State) (sl : Slot) (r : Result) : Acts s (s.reportEnd sl r) := by
  unfold State.reportEnd
  split
  · exact .refl
  · exact acts_reportEndWith s sl r _

theorem acts_reportPhase (s : State) (sl : Slot) (ph : Phase) : Acts s (s.reportPhase sl ph) := by
  unfold State.reportPhase
  split
  · next o ho =>
    split
    · next hs =>
      refine acts_setState ho ?_ ?_ ?_ (fun hl => absurd (hs ▸ hl) running_notLeaving) <;> rw [hs] <;> rfl
    · exact .refl
  · exact .refl

/-! ### Clearance -/

theorem quiet_flagEntry (s : State) (k : Entry) : Quiet s (s.flagEntry k) := quiet

theorem quiet_sendOrder (s : State) (g : Group) (l : List Entry) : Quiet s (s.sendOrder g l) := by
  unfold State.sendOrder
  split
  · exact .refl s
  · have flags : Quiet s (l.foldl State.flagEntry s) := quiet_foldl l (fun s k _ => quiet_flagEntry s k) s
    cases g <;> exact flags.trans quiet

theorem quiet_judgeStanding (s : State) (g : Group) (l : List Entry) : Quiet s (s.judgeStanding g l) :=
  quiet_sendOrder s g _

theorem quiet_judgeMove (s : State) (g : Group) (m : MotorId) (r : MotorRef) (was : Nat) (b : Bool) :
    Quiet s (s.judgeMove g m r was b) := by
  unfold State.judgeMove
  split
  · have learnt := fun (l : List Entry) (f : Entry → ClearUnit → ClearUnit) (s : State) =>
      quiet_foldl l (fun (s : State) k _ => (quiet : Quiet s (s.modEntry k (f k)))) s
    have flagged := fun (l : List Entry) (s : State) => quiet_foldl l (fun s k _ => quiet_flagEntry s k) s
    dsimp only
    split
    · exact ((learnt _ _ _).trans (flagged _ _)).trans (quiet_judgeStanding _ _ _)
    · exact ((learnt _ _ _).trans (flagged _ _)).trans (quiet_sendOrder _ _ _)
  · exact .refl s

theorem quiet_judgeChanged (s before : State) (g : Group) : Quiet s (s.judgeChanged before g) := by
  refine quiet_foldl _ (fun t p _ => ?_) s
  split
  · exact .refl t
  · exact quiet_judgeMove _ _ _ _ _ _

theorem quiet_deriveClearance (s : State) : Quiet s s.deriveClearance := by
  unfold State.deriveClearance
  split
  · exact .refl s
  · refine Quiet.trans ?_ (quiet_foldl _ (fun t g _ => quiet_judgeStanding t g _) _)
    exact quiet_foldl _ (fun s k _ => quiet) s

end Sys2Proof.Machine
end

section
namespace Sys2Proof.Machine

-- One declaration at a time, so that the memory the check takes stays small.
set_option Elab.async false

/-! ### The Levelling Controller, made of acts -/

theorem quiet_lvc (s : State) (l : Lvc) : Quiet s { s with lvc := l } := quiet

theorem quiet_unloadedNotice (s : State) (o : Op) (r : Result) : Quiet s (s.unloadedNotice o r) := by
  unfold State.unloadedNotice
  split
  · exact quiet
  · exact .refl s

theorem acts_reportJacks (s : State) (sl : Slot) (r : Result) : Acts s (s.reportJacks sl r) := by
  unfold State.reportJacks
  split
  · exact .refl
  · exact (acts_reportEnd s sl r).trans (quiet_unloadedNotice _ _ _).acts

theorem acts_windDownJacks (s : State) (sl : Slot) (r : Result) : Acts s (s.windDownJacks sl r) := by
  unfold State.windDownJacks
  dsimp only
  split
  · exact Acts.over .refl (acts_reportJacks _ sl r)
  · exact acts_quiet

theorem acts_beginSettle (s : State) (sl : Slot) : Acts s (s.beginSettle sl) :=
  (acts_reportPhase s sl .settle).trans acts_quiet

theorem quiet_modJacksOf (s : State) (l : List Jack) (f : State → Jack → JackUnit → JackUnit) :
    Quiet s (l.foldl (fun s j => s.modJack j (f s j)) s) :=
  quiet_foldl l (fun _ _ _ => quiet) s

/-- Some of the jacks of a list are changed. -/
theorem quiet_modJacksIf (s : State) (l : List Jack) (c : State → Jack → Bool) (f : State → Jack → JackUnit → JackUnit) :
    Quiet s (l.foldl (fun s j => if c s j then s.modJack j (f s j) else s) s) := by
  refine quiet_foldl l (fun s j _ => ?_) s
  split
  · exact quiet
  · exact .refl s

theorem acts_beginGround (s : State) (sl : Slot) : Acts s (s.beginGround sl) := by
  have opens := fun t => (quiet_modJacksOf t t.items.jacks
    (fun _ _ u => { u with goal := u.contact, extending := !u.contact, waiting := false })).acts
  unfold State.beginGround
  dsimp only
  split
  · exact (Acts.over (acts_reportPhase s sl .ground) (opens _)).trans (acts_beginSettle _ sl)
  · exact Acts.over (acts_reportPhase s sl .ground) (opens _)

theorem acts_takeNext (s : State) (sl : Slot) : Acts s (s.takeNext sl) := by
  unfold State.takeNext
  split
  · exact acts_quiet
  · exact acts_windDownJacks s sl _

theorem acts_landed (s : State) (sl : Slot) (j : Jack) (mark : Bool) : Acts s (s.landed sl j mark) :=
  Acts.over .refl (acts_takeNext _ sl)

theorem acts_beginTouchdown (s : State) (sl : Slot) : Acts s (s.beginTouchdown sl) :=
  Acts.over (acts_reportPhase s sl .touchdown) (acts_takeNext _ sl)

theorem acts_beginLift (s : State) (sl : Slot) (lifts : List (Jack × Nat)) : Acts s (s.beginLift sl lifts) := by
  have opens : Quiet (s.reportPhase sl .lift) _ := quiet_foldl lifts (fun s p _ => by
    show Quiet s (if p.2 = 0 then s
      else s.modJack p.1 (fun u => { u with target := u.stroke + p.2, extending := true }))
    split
    · exact .refl s
    · exact quiet) _
  exact ((acts_reportPhase s sl .lift).trans opens.acts).trans acts_quiet

theorem acts_actOnSolution {s : State} {sl : Slot} {o : Op} (ho : s.opAt sl = some o) (x : Solution) :
    Acts s (s.actOnSolution sl o x) := by
  cases x with
  | short l => exact acts_windDownJacks s sl _
  | lifts l lim =>
    unfold State.actOnSolution
    dsimp only
    split
    · exact acts_windDownJacks s sl _
    · have passed : Acts s (s.setOp sl { o with pass := o.pass + 1 }) :=
        (Act.rewrite (p := { o with pass := o.pass + 1 }) ho ⟨rfl, rfl, rfl, rfl, rfl, rfl, id⟩).acts
      exact passed.trans (acts_beginLift _ sl l)

theorem acts_takeSolve (s : State) (sl : Slot) : Acts s (s.takeSolve sl) := by
  have solve := acts_reportPhase s sl .solve
  unfold State.takeSolve
  dsimp only
  split
  · exact solve.trans acts_quiet
  · next o ho =>
    split
    · exact Acts.over solve (acts_windDownJacks _ sl _)
    · split
      · exact Acts.over solve (acts_beginTouchdown _ sl)
      · split
        · exact Acts.over solve (acts_windDownJacks _ sl _)
        · split
          · exact Acts.over solve (acts_windDownJacks _ sl _)
          · refine (solve.trans ?_).trans (acts_actOnSolution ?_ _)
            · exact acts_quiet
            · exact ho

theorem acts_watchRetract (s : State) : Acts s s.watchRetract := by
  unfold State.watchRetract
  split
  · split
    · exact acts_windDownJacks s _ _
    · exact .refl
  · exact .refl

theorem acts_jackStowed (s : State) (j : Jack) : Acts s (s.jackStowed j) := by
  unfold State.jackStowed
  split
  · split
    · dsimp only
      split
      · exact Acts.over .refl (acts_windDownJacks _ _ _)
      · exact acts_quiet
    · split
      · exact acts_windDownJacks s _ _
      · exact .refl
  · exact .refl

theorem acts_jackContact (s : State) (j : Jack) : Acts s (s.jackContact j) := by
  unfold State.jackContact
  split
  · split
    · split
      · dsimp only
        split
        · exact Acts.over .refl (acts_beginSettle _ _)
        · exact acts_quiet
      · exact .refl
    · split
      · split
        · split
          · exact acts_landed s _ j false
          · exact .refl
        · exact .refl
      · exact .refl
  · exact .refl

theorem acts_touchdownAttitude (s : State) : Acts s s.touchdownAttitude := by
  unfold State.touchdownAttitude
  split
  · split
    · split
      · exact acts_windDownJacks s _ _
      · split
        · exact .refl
        · exact acts_windDownJacks s _ _
    · exact .refl
  · exact .refl

theorem acts_jacksTimeout (s : State) (r : Result) : Acts s (s.jacksTimeout r) := by
  unfold State.jacksTimeout
  split
  · exact acts_windDownJacks s _ _
  · exact .refl

/-! ### Samples -/

theorem quiet_judgeLoss (s : State) (l : List Jack) : Quiet s (s.judgeLoss l) := by
  unfold State.judgeLoss
  split
  · exact quiet
  · exact .refl s

theorem acts_judgeSensors (s : State) (l : List Jack) : Acts s (s.judgeSensors l) := by
  unfold State.judgeSensors
  split
  · split
    · exact acts_ite .refl (acts_windDownJacks s _ _)
    · exact acts_ite .refl (acts_windDownJacks s _ _)
    · exact acts_if (acts_windDownJacks s _ _)
    · exact .refl
  · exact .refl

theorem acts_groundSample (s : State) (sl : Slot) : Acts s (s.groundSample sl) := by
  have closes := (quiet_modJacksIf s s.items.jacks (fun s j => (s.jack j).extending && decide (s.strokeLimit j ≤ (s.jack j).stroke))
    (fun _ _ u => { u with extending := false, waiting := true })).acts
  unfold State.groundSample
  dsimp only
  split
  · exact closes.trans (acts_windDownJacks _ sl _)
  · exact closes

theorem acts_liftSample (s : State) (sl : Slot) : Acts s (s.liftSample sl) := by
  have closes := (quiet_modJacksIf s s.items.jacks (fun s j => (s.jack j).extending && decide ((s.jack j).target ≤ (s.jack j).stroke))
    (fun _ _ u => { u with extending := false })).acts
  unfold State.liftSample
  dsimp only
  split
  · exact closes
  · exact closes.trans (acts_beginSettle _ sl)

theorem acts_touchdownSample (s : State) (sl : Slot) : Acts s (s.touchdownSample sl) := by
  unfold State.touchdownSample
  split
  · split
    · exact acts_landed s sl _ true
    · exact .refl
  · exact .refl

theorem acts_jogSample (s : State) (sl : Slot) (o : Op) : Acts s (s.jogSample sl o) := by
  unfold State.jogSample
  split
  · split
    · exact acts_windDownJacks s sl _
    · exact .refl
  · exact .refl

theorem acts_judgeStrokes (s : State) : Acts s s.judgeStrokes := by
  unfold State.judgeStrokes
  split
  · split
    · exact acts_jogSample s _ _
    · exact acts_groundSample s _
    · exact acts_liftSample s _
    · exact acts_touchdownSample s _
    · exact .refl
  · exact .refl

theorem acts_sampleJacks (s : State) (b : Bank JackReading 6) : Acts s (s.sampleJacks b) := by
  have reads : Quiet s (s.readJacks b) := quiet_modJacksOf s _ _
  have contacts : Quiet (s.readJacks b) (s.readJacks b).judgeContacts := quiet_modJacksOf _ _ _
  unfold State.sampleJacks
  exact (((reads.trans contacts).trans (quiet_judgeLoss _ _)).trans (quiet_lvc _ _)).acts.trans
    ((acts_judgeSensors _ _).trans (acts_judgeStrokes _))

/-! ### The pump and the settle timer -/

theorem acts_pumpOff (s : State) : Acts s s.pumpOff := by
  unfold State.pumpOff
  split
  · split
    · split
      · exact acts_reportJacks s _ _
      · split
        · exact acts_quiet
        · exact .refl
    · exact acts_motionCeased s _
    · exact .refl
  · exact .refl

theorem acts_pumpTick (s : State) : Acts s s.pumpTick := by
  unfold State.pumpTick
  dsimp only
  split
  · exact Acts.over .refl (acts_pumpOff _)
  · exact acts_quiet

theorem acts_settleExpired (s : State) : Acts s s.settleExpired := by
  unfold State.settleExpired
  dsimp only
  split
  · split
    · exact Acts.over .refl (acts_windDownJacks _ _ _)
    · exact Acts.over .refl (acts_takeSolve _ _)
  · exact acts_quiet

/-! ### The start of a JACKS operation -/

theorem acts_startStow (s : State) (sl : Slot) : Acts s (s.startStow sl) := by
  have opens : Quiet (s.reportPhase sl .move) _ := quiet_foldl (s.reportPhase sl .move).items.jacks (fun s j _ => by
    show Quiet s (if s.shut (.jackUp j) then s else s.modJack j (fun u => { u with retracting := true }))
    split
    · exact .refl s
    · exact quiet) _
  have moves := (acts_reportPhase s sl .move).trans opens.acts
  unfold State.startStow
  dsimp only
  split
  · exact Acts.over moves (acts_windDownJacks _ sl _)
  · exact moves.trans acts_quiet

theorem acts_startJackJog (s : State) (sl : Slot) (j : Job) : Acts s (s.startJackJog sl j) := by
  refine (acts_reportPhase s sl .move).trans ?_
  unfold State.startJackJog
  dsimp only
  split
  · exact acts_quiet
  · exact acts_quiet

theorem acts_startJacks (s : State) (sl : Slot) (o : Op) (resumed : Bool) : Acts s (s.startJacks sl o resumed) := by
  unfold State.startJacks
  dsimp only
  split
  · exact Acts.over .refl (acts_reportEnd _ sl _)
  · split
    · exact Acts.over .refl (acts_reportEnd _ sl _)
    · split
      · split
        · exact Acts.over .refl (acts_beginSettle _ sl)
        · exact Acts.over .refl (acts_beginGround _ sl)
      · exact Acts.over .refl (acts_beginGround _ sl)
      · exact Acts.over .refl (acts_startStow _ sl)
      · exact Acts.over .refl (acts_startJackJog _ sl _)

end Sys2Proof.Machine
end

section
namespace Sys2Proof.Machine

-- One declaration at a time, so that the memory the check takes stays small.
set_option Elab.async false

/-! ### The Slide Drive Controller, made of acts -/

theorem quiet_modRoom (s : State) (n : Room) (f : RoomUnit → RoomUnit) : Quiet s (s.modRoom n f) := quiet

theorem quiet_decideRoom (s : State) (n : Room) (p : Pend) : Quiet s (s.decideRoom n p) := by
  unfold State.decideRoom
  split
  · exact quiet
  · exact .refl s

theorem quiet_roomEndCheck (s : State) (n : Room) (b : Bool) : Quiet s (s.roomEndCheck n b) := by
  unfold State.roomEndCheck
  split
  · split
    · exact quiet
    · exact .refl s
  · exact .refl s

theorem acts_setPace (s : State) (n : Room) (sl : Slot) (creep : Bool) : Acts s (s.setPace n sl creep) :=
  Acts.over .refl (acts_reportPhase _ sl _)

theorem acts_endBreakaway (s : State) (n : Room) : Acts s (s.endBreakaway n) := by
  unfold State.endBreakaway
  dsimp only
  split
  · split
    · exact acts_quiet
    · exact Acts.over .refl (acts_setPace _ n _ _)
  · exact acts_quiet

theorem acts_testBreakaway (s : State) (n : Room) : Acts s (s.testBreakaway n) := by
  have ends : Acts s (if (s.roomUnit n).breakTimer.isSome && (s.roomUnit n).allBroken then s.endBreakaway n else s) :=
    acts_if (acts_endBreakaway s n)
  unfold State.testBreakaway
  dsimp only
  split
  · exact ends.trans acts_quiet
  · exact ends

theorem acts_testCreep (s : State) (n : Room) : Acts s (s.testCreep n) := by
  unfold State.testCreep
  split
  · split
    · exact acts_setPace s n _ true
    · exact .refl
  · exact .refl

theorem quiet_referenceRoom (s : State) (n : Room) (which : List MotorId) (count : Nat) :
    Quiet s (s.referenceRoom n which count) := by
  have counts : Quiet s (which.foldl (fun t m => t.modRoomMotor n m (fun x => { x with count := count })) s) :=
    quiet_foldl which (fun _ _ _ => quiet) s
  exact (counts.trans quiet).trans (quiet_foldl which (fun t m _ => quiet_judgeMove t _ _ _ _ _) _)

theorem quiet_testEndStop (s : State) (n : Room) (m : MotorId) : Quiet s (s.testEndStop n m) := by
  unfold State.testEndStop
  split
  · dsimp only
    split
    · exact Quiet.trans quiet (quiet_roomEndCheck _ n false)
    · exact .refl s
  · exact .refl s

theorem quiet_testSync (s : State) (n : Room) : Quiet s (s.testSync n) := by
  unfold State.testSync
  dsimp only
  split
  · exact (quiet_decideRoom s n _).trans quiet
  · exact .refl s

theorem quiet_testLateStart (s : State) (n : Room) (m : MotorId) : Quiet s (s.testLateStart n m) := by
  unfold State.testLateStart
  dsimp only
  split
  · exact quiet_if quiet
  · exact .refl s

theorem quiet_judgeStall (s : State) (n : Room) (m : MotorId) : Quiet s (s.judgeStall n m) := by
  have arrives := fun home => (Quiet.trans (quiet : Quiet s (s.modRoom n (fun r => r.haltAtEnd s.now m)))
    (quiet_referenceRoom _ n [m] home)).trans (quiet_roomEndCheck _ n false)
  unfold State.judgeStall
  dsimp only
  split
  · exact .refl s
  · have stops := Quiet.trans (quiet_decideRoom s n (.result (.failed .obstructed)))
      (quiet : Quiet _ ((s.decideRoom n _).modRoom n (fun r => r.haltAll s.now)))
    split
    · exact quiet_ite (arrives _) stops
    · exact quiet_ite (arrives _) stops

theorem quiet_roomHome (s : State) (n : Room) (changed : Bool) : Quiet s (s.roomHome n changed) := by
  have halts : ∀ b : Bool, Quiet s (if b then s.modRoom n (fun r => (r.haltAtEnd s.now .a).haltAtEnd s.now .b) else s) :=
    fun _ => quiet_if quiet
  exact ((halts _).trans (quiet_referenceRoom _ n _ 0)).trans (quiet_if (quiet_roomEndCheck _ n true))

theorem acts_roomPulse (s : State) (n : Room) (m : MotorId) : Acts s (s.roomPulse n m) := by
  unfold State.roomPulse
  dsimp only
  split
  · exact .refl
  · split
    · have tested := fun t => (acts_testBreakaway t n).trans ((quiet_testEndStop _ n m).acts.trans
        ((acts_testCreep _ n).trans ((quiet_testSync _ n).trans (quiet_testLateStart _ n m)).acts))
      split
      · exact (Acts.over .refl (tested _)).trans (quiet_judgeMove _ _ _ _ _ _).acts
      · exact Acts.over .refl (tested _)
    · split
      · split
        · exact Acts.over .refl (quiet_judgeMove _ _ _ _ _ _).acts
        · exact acts_quiet
      · exact acts_quiet

theorem quiet_tickRoom (s : State) (n : Room) (a b : Nat) : Quiet s (s.tickRoom n a b) := by
  unfold State.tickRoom
  dsimp only
  split
  · exact .refl s
  · split
    · exact quiet
    · exact quiet

theorem acts_breakawayExpired (s : State) (n : Room) : Acts s (s.breakawayExpired n) := by
  unfold State.breakawayExpired
  dsimp only
  refine Relation.ReflTransGen.trans ?_ (acts_ite (acts_endBreakaway _ n) acts_quiet)
  exact Acts.over .refl (Quiet.trans (quiet_if (quiet_judgeStall _ n .a)) (quiet_if (quiet_judgeStall _ n .b))).acts

theorem quiet_lateBreakawayExpired (s : State) (n : Room) : Quiet s (s.lateBreakawayExpired n) := by
  unfold State.lateBreakawayExpired
  dsimp only
  split
  · exact Quiet.trans quiet (quiet_judgeStall _ n .a)
  · split
    · exact Quiet.trans quiet (quiet_judgeStall _ n .b)
    · exact quiet

theorem quiet_stallExpired (s : State) (n : Room) : Quiet s (s.stallExpired n) := by
  unfold State.stallExpired
  dsimp only
  exact Quiet.trans (Quiet.trans quiet (quiet_if (quiet_judgeStall _ n .a))) (quiet_if (quiet_judgeStall _ n .b))

theorem quiet_roomJogExpired (s : State) (n : Room) : Quiet s (s.roomJogExpired n) := by
  unfold State.roomJogExpired
  dsimp only
  split
  · exact ((quiet_modRoom s n _).trans (quiet_decideRoom _ n _)).trans (quiet_modRoom _ n _)
  · exact quiet

theorem acts_roomRests (s : State) (n : Room) : Acts s (s.roomRests n) := by
  unfold State.roomRests
  split
  · split
    · split
      · exact acts_reportEnd s _ _
      · exact acts_motionCeased s _
      · exact .refl
    · exact .refl
  · exact .refl

theorem acts_roomCoastExpired (s : State) (n : Room) (m : MotorId) : Acts s (s.roomCoastExpired n m) :=
  Acts.over .refl (acts_roomRests _ n)

theorem acts_startMotors (s : State) (n : Room) (sl : Slot) (j : Job) (resumed : Bool) (which : List MotorId) :
    Acts s (s.startMotors n sl j resumed which) := by
  have starts : Quiet s (which.foldl (fun t m =>
      t.modRoomMotor n m (Motor.start j.roomDir s.roomProfile.breakawayDuty false)) s) :=
    quiet_foldl which (fun _ _ _ => quiet) s
  exact Acts.over starts.acts (acts_reportPhase _ sl _)

theorem acts_startRoom (s : State) (n : Room) (sl : Slot) (o : Op) (resumed : Bool) : Acts s (s.startRoom n sl o resumed) := by
  unfold State.startRoom
  dsimp only
  split
  · exact acts_reportEndWith s sl _ _
  · split
    · split
      · exact acts_reportEnd s sl _
      · exact acts_startMotors s n sl _ _ _
    · exact acts_startMotors s n sl _ _ _

/-! ### The awning, made of acts -/

theorem quiet_decideAwning (s : State) (p : Pend) : Quiet s (s.decideAwning p) := by
  unfold State.decideAwning
  split
  · exact quiet
  · exact .refl s

theorem quiet_referenceAwning (s : State) (count : Nat) : Quiet s (s.referenceAwning count) :=
  Quiet.trans quiet (quiet_judgeMove _ _ _ _ _ _)

theorem acts_setAwningPace (s : State) (sl : Slot) (o : Op) (creep : Bool) : Acts s (s.setAwningPace sl o creep) := by
  unfold State.setAwningPace
  dsimp only
  split
  · exact Acts.over .refl (acts_reportPhase _ sl _)
  · exact acts_quiet

theorem acts_endAwningBreakaway (s : State) : Acts s s.endAwningBreakaway := by
  unfold State.endAwningBreakaway
  dsimp only
  split
  · split
    · exact acts_quiet
    · exact Acts.over .refl (acts_setAwningPace _ _ _ _)
  · exact acts_quiet

theorem acts_testAwningBreakaway (s : State) : Acts s s.testAwningBreakaway := by
  unfold State.testAwningBreakaway
  split
  · exact acts_endAwningBreakaway s
  · exact .refl

theorem acts_testAwningCreep (s : State) : Acts s s.testAwningCreep := by
  unfold State.testAwningCreep
  split
  · split
    · exact acts_setAwningPace s _ _ true
    · exact .refl
  · exact .refl

theorem quiet_haltAwning (s : State) : Quiet s s.haltAwning := quiet

theorem quiet_testAwningStop (s : State) : Quiet s s.testAwningStop := by
  unfold State.testAwningStop
  split
  · exact quiet_if ((quiet_haltAwning s).trans (quiet_decideAwning _ _))
  · exact .refl s

theorem quiet_judgeAwningStall (s : State) : Quiet s s.judgeAwningStall := by
  have arrives := fun home => (quiet_haltAwning s).trans (quiet_referenceAwning s.haltAwning home)
  have obstructed := (quiet_haltAwning s).trans (quiet_decideAwning s.haltAwning (.result (.failed .obstructed)))
  unfold State.judgeAwningStall
  dsimp only
  split
  · exact .refl s
  · split
    · refine quiet_ite ?_ obstructed
      split
      · exact (arrives _).trans (quiet_decideAwning _ _)
      · exact arrives _
    · refine quiet_ite ?_ obstructed
      split
      · exact (arrives _).trans (quiet_decideAwning _ _)
      · exact arrives _

theorem quiet_awningHome (s : State) (changed : Bool) : Quiet s (s.awningHome changed) := by
  have stops := ((quiet_haltAwning s).trans (quiet_referenceAwning _ 0)).trans (quiet_decideAwning _ (.result .complete))
  exact quiet_ite stops (quiet_referenceAwning s 0)

theorem acts_awningPulse (s : State) : Acts s s.awningPulse := by
  unfold State.awningPulse
  dsimp only
  split
  · exact .refl
  · split
    · have tested := fun t => ((acts_testAwningBreakaway t).trans (quiet_testAwningStop _).acts).trans (acts_testAwningCreep _)
      split
      · exact (Acts.over .refl (tested _)).trans (quiet_judgeMove _ _ _ _ _ _).acts
      · exact Acts.over .refl (tested _)
    · split
      · split
        · exact Acts.over .refl (quiet_judgeMove _ _ _ _ _ _).acts
        · exact acts_quiet
      · exact acts_quiet

theorem quiet_tickAwning (s : State) (amps : Nat) : Quiet s (s.tickAwning amps) := by
  unfold State.tickAwning
  dsimp only
  split
  · exact .refl s
  · split
    · exact quiet
    · split
      · exact quiet
      · exact quiet

theorem quiet_awningBreakawayExpired (s : State) : Quiet s s.awningBreakawayExpired := by
  unfold State.awningBreakawayExpired
  dsimp only
  split
  · exact Quiet.trans quiet (quiet_judgeAwningStall _)
  · exact quiet

theorem quiet_awningStallExpired (s : State) : Quiet s s.awningStallExpired := by
  unfold State.awningStallExpired
  dsimp only
  split
  · exact Quiet.trans quiet (quiet_judgeAwningStall _)
  · exact quiet

theorem quiet_awningJogExpired (s : State) : Quiet s s.awningJogExpired := by
  unfold State.awningJogExpired
  dsimp only
  split
  · exact (Quiet.trans quiet (quiet_decideAwning _ _)).trans (quiet_haltAwning _)
  · exact quiet

theorem acts_awningRests (s : State) : Acts s s.awningRests := by
  unfold State.awningRests
  split
  · exact .refl
  · split
    · split
      · exact acts_reportEnd s _ _
      · exact acts_motionCeased s _
      · exact .refl
    · exact .refl

theorem acts_awningCoastExpired (s : State) : Acts s s.awningCoastExpired :=
  Acts.over .refl (acts_awningRests _)

theorem quiet_fixAwning (s : State) (j : Job) : Quiet s (s.fixAwning j) := by rw [fixAwning_eq]; exact quiet

theorem acts_runAwning (s : State) (sl : Slot) (o : Op) (resumed : Bool) : Acts s (s.runAwning sl o resumed) :=
  Acts.over .refl (acts_reportPhase _ sl _)

theorem acts_startAwning (s : State) (sl : Slot) (o : Op) (resumed : Bool) : Acts s (s.startAwning sl o resumed) := by
  have fixed : Acts s (if resumed then s.fixAwning o.job else s) := (quiet_if (quiet_fixAwning s o.job)).acts
  unfold State.startAwning
  dsimp only
  split
  · exact acts_reportEndWith s sl _ _
  · exact fixed.trans (acts_ite (acts_reportEnd _ sl _) (acts_runAwning _ sl o resumed))

end Sys2Proof.Machine
end

section
namespace Sys2Proof.Machine

-- One declaration at a time, so that the memory the check takes stays small.
set_option Elab.async false

/-! ### Grants and the examination of the queue (R30, R32) -/

theorem acts_startOp (s : State) (sl : Slot) (o : Op) : Acts s (s.startOp sl o) := by
  unfold State.startOp
  split
  · exact acts_startJacks s sl o _
  · exact acts_startRoom s _ sl o _
  · exact acts_startAwning s sl o _

/-- What follows the grant of a record: its controller starts it, and clearance is judged. -/
theorem acts_granted (s : State) (sl : Slot) (o : Op) : Acts (s.grantRecord sl o) (s.grant sl o) :=
  (acts_startOp _ sl o).trans (quiet_judgeStanding _ _ _).acts

theorem acts_grant {s : State} {sl : Slot} {o : Op} (ho : s.opAt sl = some o) (ha : o.state.isAdmitted = true)
    (hb : s.blockedBy o = none) : Acts s (s.grant sl o) :=
  (Act.grant ho ha hb).acts.trans (acts_granted s sl o)

theorem acts_setWait (s : State) (sl : Slot) (w : WaitReason) : Acts s (s.setWait sl w) := by
  unfold State.setWait
  split
  · next o ho =>
    split
    · next ha =>
      refine acts_setState ho (by rw [ha]; rfl) ?_ ?_ (fun hl => absurd hl (admitted_notLeaving ha))
      · rw [admitted_notActive ha]; rfl
      · rw [admitted_notEnded ha]; rfl
    · exact .refl
  · exact .refl

theorem acts_waits (s : State) (sl : Slot) (w : WaitReason) (behind : List Slot) :
    Acts s (behind.foldl (fun t q => t.setWait q .queue) (s.setWait sl w)) :=
  (acts_setWait s sl w).trans (acts_foldl behind (fun t q _ => acts_setWait t q .queue) _)

theorem acts_examine (n : Nat) (s : State) : Acts s (s.examine n) := by
  induction n generalizing s with
  | zero => exact .refl
  | succ n ih =>
    unfold State.examine
    split
    · exact .refl
    · split
      · exact .refl
      · next o ho =>
        split
        · exact .refl
        · next ha =>
          simp only [Bool.not_eq_true', Bool.not_eq_false] at ha
          split
          · next hb => exact (acts_grant ho ha hb).trans (ih _)
          · exact acts_waits s _ _ _

theorem acts_examineQueue (s : State) : Acts s s.examineQueue := acts_examine _ s

/-! ### What the examination leaves (R30, R31) -/

/-- Two states in which the four tests of a head come out alike. -/
structure SameTests (s t : State) : Prop where
  resSum : t.sta.resSum = s.sta.resSum
  normalSum : t.sta.normalSum = s.sta.normalSum
  stagger : t.sta.stagger = s.sta.stagger
  supply : t.sta.supply = s.sta.supply
  items : t.items = s.items
  moves : ∀ g, t.moves g ↔ s.moves g

theorem blockedBy_congr {s t : State} (h : SameTests s t) {o p : Op} (hj : p.job = o.job) (hr : p.reservation = o.reservation) :
    t.blockedBy p = s.blockedBy o := by
  have hc : p.opClass = o.opClass := by simp [Op.opClass, hj]
  have h1 : t.fitsBudget p = s.fitsBudget o := by simp only [State.fitsBudget, hc, hr, h.resSum, h.normalSum, h.items]
  have h2 : t.jacksMoving = s.jacksMoving := by
    rw [Bool.eq_iff_iff, jacksMoving_iff, jacksMoving_iff, h.moves]
  have h3 : t.roomMoving = s.roomMoving := by
    rw [Bool.eq_iff_iff, roomMoving_iff, roomMoving_iff]
    exact exists_congr (fun n => h.moves _)
  have h4 : t.frameAllows p.job.group = s.frameAllows o.job.group := by
    rw [hj]; unfold State.frameAllows; rw [h2, h3]
  have h5 : t.staggerAllows p = s.staggerAllows o := by simp only [State.staggerAllows, hc, h.stagger]
  have h6 : t.supplyAllows p = s.supplyAllows o := by simp only [State.supplyAllows, hc, h.supply]
  simp only [State.blockedBy, h1, h4, h5, h6]

/-- An ADMITTED record may get its wait reason; nothing else of the state changes. -/
structure WaitsOnly (s t : State) : Prop where
  tests : SameTests s t
  queue : t.sta.queue = s.sta.queue
  records : ∀ k o, s.opAt k = some o → o.state.isAdmitted = true → ∃ w, t.opAt k = some { o with state := .admitted w }

theorem SameTests.refl (s : State) : SameTests s s := ⟨rfl, rfl, rfl, rfl, rfl, fun _ => Iff.rfl⟩

theorem SameTests.trans {s t u : State} (h : SameTests s t) (k : SameTests t u) : SameTests s u :=
  ⟨k.resSum.trans h.resSum, k.normalSum.trans h.normalSum, k.stagger.trans h.stagger, k.supply.trans h.supply,
    k.items.trans h.items, fun g => (k.moves g).trans (h.moves g)⟩

theorem setWait_opAt {s : State} {sl : Slot} {o : Op} (ho : s.opAt sl = some o) (ha : o.state.isAdmitted = true)
    (w : WaitReason) : s.setWait sl w = s.setOp sl { o with state := .admitted w } := by
  simp [State.setWait, ho, ha]

theorem sameTests_setWait {s : State} {sl : Slot} {o : Op} (ho : s.opAt sl = some o) (ha : o.state.isAdmitted = true)
    (w : WaitReason) : SameTests s (s.setWait sl w) := by
  rw [setWait_opAt ho ha]
  have hw := wrote_setOp s sl { o with state := .admitted w }
  refine ⟨rfl, rfl, rfl, rfl, rfl, fun g => ⟨moves_back hw ho rfl (fun h => by cases h), ?_⟩⟩
  rintro ⟨k, p, hp, hg, hact⟩
  have hk : sl ≠ k := by
    rintro rfl
    rw [ho] at hp; cases hp
    rw [admitted_notActive ha] at hact; cases hact
  exact ⟨k, p, (hw.other hk).trans hp, hg, hact⟩

/-- The entries behind the head get QUEUE, the head keeps its record. -/
theorem waits_behind {s : State} {sl : Slot} {o : Op} (ho : s.opAt sl = some o) :
    ∀ behind : List Slot, sl ∉ behind → (∀ k ∈ behind, ∃ p, s.opAt k = some p ∧ p.state.isAdmitted = true) →
      SameTests s (behind.foldl (fun t q => t.setWait q .queue) s)
      ∧ (behind.foldl (fun t q => t.setWait q .queue) s).sta.queue = s.sta.queue
      ∧ (behind.foldl (fun t q => t.setWait q .queue) s).opAt sl = some o
      ∧ (∀ k ∈ behind, ∃ p, (behind.foldl (fun t q => t.setWait q .queue) s).opAt k = some p ∧ p.state = .admitted .queue)
      ∧ ∀ k p, s.opAt k = some p → p.state = .admitted .queue →
        (behind.foldl (fun t q => t.setWait q .queue) s).opAt k = some p := by
  intro behind
  induction behind generalizing s with
  | nil => exact fun _ _ => ⟨.refl s, rfl, ho, by simp, fun _ _ h _ => h⟩
  | cons q rest ih =>
    intro hn hall
    obtain ⟨p, hp, hpa⟩ := hall q (by simp)
    have hq : q ≠ sl := fun e => hn (by simp [e])
    have hset := setWait_opAt hp hpa .queue
    have hw := wrote_setOp s q { p with state := .admitted .queue }
    rw [← hset] at hw
    obtain ⟨h1, h2, h3, h4, h5⟩ := ih (s := s.setWait q .queue) ((hw.other hq).trans ho) (fun h => hn (by simp [h]))
      (fun k hk => by
        obtain ⟨x, hx, hxa⟩ := hall k (by simp [hk])
        by_cases e : q = k
        · subst e; exact ⟨_, hw.self, rfl⟩
        · exact ⟨x, (hw.other e).trans hx, hxa⟩)
    have stays : ∀ k x, s.opAt k = some x → x.state = .admitted .queue → (s.setWait q .queue).opAt k = some x := by
      intro k x hx hxs
      by_cases e : q = k
      · subst e
        rw [hp] at hx; cases hx
        rw [setWait_same hp hxs]; exact hp
      · exact (hw.other e).trans hx
    refine ⟨(sameTests_setWait hp hpa .queue).trans h1, h2.trans (by rw [hset]; rfl), h3, ?_,
      fun k x hx hxs => h5 k x (stays k x hx hxs) hxs⟩
    intro k hk
    rcases List.mem_cons.mp hk with rfl | hk
    · exact ⟨_, h5 k _ hw.self rfl, rfl⟩
    · exact h4 k hk

theorem headWaits_waits {s : State} (h : s.Ledger) {sl : Slot} {behind : List Slot} {o : Op} {w : WaitReason}
    (hq : s.sta.queue = sl :: behind) (ho : s.opAt sl = some o) (ha : o.state.isAdmitted = true)
    (hb : s.blockedBy o = some w) : (behind.foldl (fun t q => t.setWait q .queue) (s.setWait sl w)).headWaits := by
  have hset := setWait_opAt ho ha w
  have hw := wrote_setOp s sl { o with state := .admitted w }
  rw [← hset] at hw
  have hnd : sl ∉ behind := by
    have := h.queue.1
    rw [hq] at this
    exact (List.nodup_cons.mp this).1
  obtain ⟨h1, h2, h3, h4, _⟩ := waits_behind hw.self behind hnd (fun k hk => by
    obtain ⟨p, hp, hpa⟩ := (h.queue.2 k).mp (by rw [hq]; simp [hk])
    exact ⟨p, (hw.other (fun e => hnd (e ▸ hk))).trans hp, hpa⟩)
  have htests := (sameTests_setWait ho ha w).trans h1
  intro x rest hx
  have hx' : sl :: behind = x :: rest := by
    rw [← hq, ← hx, h2, hset]; rfl
  cases hx'
  exact ⟨⟨_, w, h3, rfl, (blockedBy_congr htests rfl rfl).trans hb⟩, h4⟩

theorem grant_shorter {s : State} {sl : Slot} {behind : List Slot} (o : Op) (hq : s.sta.queue = sl :: behind) :
    (s.grant sl o).sta.queue.length ≤ behind.length := by
  refine (Acts.queue_length (acts_granted s sl o)).trans ?_
  have : (s.grantRecord sl o).sta.queue = (sl :: behind).filter (fun q => q != sl) := by rw [← hq]; rfl
  rw [this, List.filter_cons_of_neg (by simp)]
  exact List.length_filter_le _ _

/-- With fuel for every entry, the examination ends with its head waiting. -/
theorem headWaits_examine (n : Nat) {s : State} (h : s.Ledger) (hn : s.sta.queue.length ≤ n) : (s.examine n).headWaits := by
  induction n generalizing s with
  | zero =>
    intro sl behind hq
    have : s.sta.queue = sl :: behind := hq
    simp [this] at hn
  | succ n ih =>
    unfold State.examine
    split
    · next hq => intro sl behind hq'; rw [hq] at hq'; cases hq'
    · next sl behind hq =>
      obtain ⟨o, ho, ha⟩ := (h.queue.2 sl).mp (by rw [hq]; simp)
      rw [ho]
      simp only [ha, Bool.not_true, Bool.false_eq_true, if_false]
      split
      · next hb =>
        refine ih ((acts_grant ho ha hb).ledger h) ((grant_shorter o hq).trans ?_)
        rw [hq] at hn
        simpa using hn
      · next w hb => exact headWaits_waits h hq ho ha hb

theorem headWaits_examineQueue {s : State} (h : s.Ledger) : s.examineQueue.headWaits := headWaits_examine _ h le_rfl

theorem headWaits_congr {s t : State} (h : s.headWaits) (ho : t.opt = s.opt) (hs : t.sta = s.sta) (hi : t.items = s.items) :
    t.headWaits := by
  have htests : SameTests s t :=
    ⟨by rw [hs], by rw [hs], by rw [hs], by rw [hs], hi, fun g => by simp only [State.moves, opAt_of_opt ho]⟩
  intro sl behind hq
  rw [hs] at hq
  obtain ⟨⟨o, w, h1, h2, h3⟩, h4⟩ := h sl behind hq
  refine ⟨⟨o, w, (opAt_of_opt ho sl).trans h1, h2, (blockedBy_congr htests rfl rfl).trans h3⟩, fun k hk => ?_⟩
  obtain ⟨p, h5, h6⟩ := h4 k hk
  exact ⟨p, (opAt_of_opt ho k).trans h5, h6⟩

end Sys2Proof.Machine
end

section
namespace Sys2Proof.Machine

-- One declaration at a time, so that the memory the check takes stays small.
set_option Elab.async false

/-! ### Internal admissions (R4, R22, R53) -/

theorem nextTag_range {t : Nat} (h : 240 ≤ t ∧ t ≤ 255) : 240 ≤ nextTag t ∧ nextTag t ≤ 255 := by
  unfold nextTag; split <;> omega

theorem freeTag_range (s : State) (n : Nat) {t : Nat} (h : 240 ≤ t ∧ t ≤ 255) :
    240 ≤ s.freeTag n t ∧ s.freeTag n t ≤ 255 := by
  induction n generalizing t with
  | zero => exact h
  | succ n ih =>
    unfold State.freeTag
    split
    · exact ih (nextTag_range h)
    · exact h

/-- The tag that is `k` places after `t` on the round of the internal tags. -/
def roundTag (t k : Nat) : Nat := 240 + (t - 240 + k) % 16

theorem roundTag_next {t : Nat} (h : 240 ≤ t ∧ t ≤ 255) (k : Nat) : roundTag (nextTag t) k = roundTag t (k + 1) := by
  unfold roundTag nextTag
  split <;> omega

/-- A search that ends on a tag in use has found every tag it tried in use. -/
theorem freeTag_used (s : State) (n : Nat) {t : Nat} (h : 240 ≤ t ∧ t ≤ 255)
    (hu : (s.slotOfTag (s.freeTag n t)).isSome = true) : ∀ k < n, (s.slotOfTag (roundTag t k)).isSome = true := by
  induction n generalizing t with
  | zero => intro k hk; omega
  | succ n ih =>
    unfold State.freeTag at hu
    split at hu
    · next ht =>
      intro k hk
      cases k with
      | zero =>
        have : roundTag t 0 = t := by unfold roundTag; omega
        rw [this]; exact ht
      | succ k =>
        rw [← roundTag_next h]
        exact ih (nextTag_range h) hu k (by omega)
    · next ht => exact absurd hu ht

/-- Four slots cannot hold five tags: the search over the sixteen internal tags finds one not in use (R4). -/
theorem internalTag_free (s : State) (h : 240 ≤ s.opt.internalTag ∧ s.opt.internalTag ≤ 255) :
    s.slotOfTag s.internalTag = none := by
  by_contra hne
  have hu := freeTag_used s 16 h (Option.isSome_iff_ne_none.mpr hne)
  have holder : ∀ k : Fin 5, ∃ sl, ∃ o, s.opAt sl = some o ∧ o.tag = roundTag s.opt.internalTag k.val := by
    intro k
    obtain ⟨sl, o, ho, ht⟩ := findSlot_isSome.mp (hu k.val (by omega))
    exact ⟨sl, o, ho, by simpa using ht⟩
  choose f hf using holder
  obtain ⟨a, b, hab, he⟩ := Fintype.exists_ne_map_eq_of_card_lt f (by simp)
  obtain ⟨o, ho, ht⟩ := hf a
  obtain ⟨p, hp, hp'⟩ := hf b
  rw [← he, ho] at hp
  cases hp
  have : roundTag s.opt.internalTag a.val = roundTag s.opt.internalTag b.val := ht.symm.trans hp'
  unfold roundTag at this
  exact hab (Fin.ext (by omega))

theorem writeEnd_counter {s : State} {sl : Slot} {o : Op} (h : s.opAt sl = some o) (r : Result) (rem : Option Remaining) :
    (s.writeEnd sl r rem).opt.internalTag = s.opt.internalTag := by
  obtain ⟨c, hc⟩ := writeEnd_eq h r rem
  rw [hc]

theorem admitJob_counter (s : State) (tag : Nat) (j : Job) : (s.admitJob tag j).opt.internalTag = s.opt.internalTag := by
  cases hp : s.placeSlot with
  | none => rw [admitJob_noSlot hp]
  | some sl =>
    have placed : (s.placed sl tag j).opt.internalTag = s.opt.internalTag := by
      unfold State.placed
      rw [fixAwning_opt, (placeRecord_list s sl _).2]
    rw [admitJob_eq tag j hp]
    split
    · exact (writeEnd_counter (wrote_placed s sl tag j).self _ _).trans placed
    · split <;> exact placed

theorem deeds_admitInternal {s : State} {j : Job} (hb : s.busySlot j.group = none) (hk : j.kind.fits j.group = true)
    (hc : s.claimOf j.group = .free ∨ (j.origin = .service ∨ j.origin = .internal ∧ j.kind.opClass = .safety))
    (hn : j.kind.opClass = .normal → s.normalCount < 3) : Deeds s (s.admitInternal j) := by
  have admitted : Deed s (s.admitJob s.internalTag j) := .enroll (internalTag_free s) hb hk hc hn
  have moved : Deed (s.admitJob s.internalTag j) (s.admitInternal j) := .counter (fun h => by
    rw [admitJob_counter] at h
    exact nextTag_range (freeTag_range s 16 h))
  exact admitted.deeds.tail moved

theorem findSome_none {l : List (Option Refuse)} (h : firstRefusal l = none) : ∀ x ∈ l, x = none := by
  intro x hx
  simpa using List.findSome?_eq_none_iff.mp h x hx

theorem refuseIf_none {b : Bool} {r : Refuse} (h : refuseIf b r = none) : b = false := by
  cases b
  · rfl
  · cases h

theorem step4_free {s : State} {who : Origin} {g : Group} (hw : who ≠ .service) (h : s.step4 who g = none) :
    s.claimOf g = .free := by
  have hc : s.claimed g = false := by
    cases who
    · exact refuseIf_none h
    · exact absurd rfl hw
    · exact refuseIf_none h
  cases hg : s.claimOf g <;> simp_all [State.claimed]

theorem step6_none {s : State} {g : Group} (h : s.step6 g = none) : s.busySlot g = none := by
  simpa using refuseIf_none h

theorem step7_none {s : State} {j : Job} (h : s.step7 j = none) (hc : j.kind.opClass = .normal) : s.normalCount < 3 := by
  simpa [hc] using refuseIf_none h

/-- What the tests of an admission that refuse nothing give (R8, R10, R185). -/
theorem admissionRefusal_none {s : State} {who : Origin} {tag : Option Nat} {j : Job}
    (h : s.admissionRefusal who tag j = none) :
    (who ≠ .service → s.claimOf j.group = .free) ∧ (∀ t, tag = some t → s.slotOfTag t = none)
    ∧ s.busySlot j.group = none ∧ (j.kind.opClass = .normal → s.normalCount < 3) := by
  have all := findSome_none h
  refine ⟨fun hw => step4_free hw (all _ (by simp)), ?_, step6_none (all _ (by simp)), step7_none (all _ (by simp))⟩
  rintro t rfl
  have : s.step5 t = none := all _ (by simp)
  simpa using refuseIf_none this

theorem deeds_relevel (s : State) : Deeds s s.relevel := by
  unfold State.relevel
  split
  · exact .refl
  · split
    · exact (quiet : Quiet s _).deeds
    · split
      · exact (quiet : Quiet s _).deeds
      · next hr =>
        have all := findSome_none hr
        obtain ⟨hc, _, hb, hn⟩ := admissionRefusal_none (all _ (by simp) : s.admissionRefusal .internal none relevelJob = none)
        exact deeds_admitInternal hb rfl (Or.inl (hc (by decide))) hn

theorem immediate_some {st : OpState} (r : Result) (h : st.isEnded = false) : ∃ x, st.immediate r = some x := by
  cases st with
  | stopping d ph => cases d <;> exact ⟨_, rfl⟩
  | ended r rem n => cases h
  | _ => exact ⟨_, rfl⟩

/-- An operation that is ended at once has ended. -/
theorem endNow_ends {s : State} {sl : Slot} {o : Op} (ho : s.opAt sl = some o) (r : Result) :
    ∃ p, (s.endNow sl r).opAt sl = some p ∧ p.state.isEnded = true := by
  unfold State.endNow
  rw [ho]
  dsimp only
  cases hi : o.state.immediate r with
  | none =>
    refine ⟨o, ho, ?_⟩
    by_contra hn
    obtain ⟨x, hx⟩ := immediate_some r (Bool.eq_false_iff.mpr hn)
    rw [hi] at hx; cases hx
  | some x =>
    dsimp only
    split
    · have ho' : (s.cutGroup o.job.group).opAt sl = some o := (opAt_of_opt (quiet_cutGroup s _).table sl).trans ho
      exact ⟨_, (wrote_writeEnd ho' x _).self, rfl⟩
    · exact ⟨_, (wrote_writeEnd ho x _).self, rfl⟩

theorem supersede_idle {s : State} (h : s.onePerGroup) : s.supersede.busySlot .awning = none := by
  cases hb : s.busySlot .awning with
  | none => simp [State.supersede, hb]
  | some sl =>
    have heq : s.supersede = s.endNow sl (.cancelled .superseded) := by simp [State.supersede, hb]
    obtain ⟨o, ho, hg, hn⟩ := busySlot_some hb
    obtain ⟨q, hq, he⟩ := endNow_ends ho (.cancelled .superseded)
    cases hb' : (s.endNow sl (.cancelled .superseded)).busySlot .awning with
    | none => rw [heq]; exact hb'
    | some k =>
      obtain ⟨p, hp, hpg, hpn⟩ := busySlot_some hb'
      obtain ⟨x, hx, hxn, hxj⟩ := Acts.noNew (acts_endNow s sl _) k p hp hpn
      have : k = sl := h k sl x hx o ho hxn hn (by rw [hxj, hpg, hg])
      subst this
      rw [hq] at hp; cases hp
      rw [he] at hpn; cases hpn

theorem acts_supersede (s : State) : Acts s s.supersede := by
  unfold State.supersede
  split
  · exact acts_endNow s _ _
  · exact .refl

theorem deeds_createStow {s : State} (h : s.onePerGroup) : Deeds s s.createStow := by
  unfold State.createStow
  split
  · refine Relation.ReflTransGen.trans (acts_supersede s).deeds
      (deeds_admitInternal (supersede_idle h) rfl (Or.inr (Or.inr ⟨rfl, rfl⟩)) (fun hc => by cases hc))
  · exact .refl

theorem acts_barOutward (s : State) : Acts s s.barOutward := by
  unfold State.barOutward
  split
  · exact acts_if (acts_endNow s _ _)
  · exact .refl

theorem deeds_triggerGate {s : State} (h : s.onePerGroup) : Deeds s s.triggerGate :=
  (deeds_createStow h).trans (acts_barOutward _).deeds

/-! ### Inputs (R136, R140, R141) -/

theorem deeds_brakeReleased {s : State} (h : s.onePerGroup) : Deeds s s.brakeReleased := by
  have cancels := Acts.deeds (acts_cancelAll s (fun s o => o.opClass == .normal && s.deployingOp o) (.cancelled .interlock))
  exact cancels.trans (deeds_createStow (Deeds.onePerGroup cancels h))

theorem deeds_handChange {s : State} (h : s.onePerGroup) (f : Func) (c : Contact) : Deeds s (s.handChange f c) := by
  unfold State.handChange
  split
  · exact deeds_brakeReleased h
  · exact Acts.deeds (acts_endAll s _ _)
  · exact deeds_if (quiet_roomHome s _ true).deeds
  · exact deeds_if (acts_jackStowed s _).deeds
  · exact (quiet_awningHome s true).deeds
  · exact .refl

theorem quiet_handFirst (s : State) (f : Func) : Quiet s (s.handFirst f) := by
  unfold State.handFirst
  split
  · exact quiet_if (quiet_roomHome s _ false)
  · exact quiet_if (quiet_awningHome s false)
  · exact .refl s

theorem quiet_modInput (s : State) (i : Input) (f : InputUnit → InputUnit) : Quiet s (s.modInput i f) := quiet

theorem quiet_modInputs (s : State) (l : List Input) (f : State → Input → InputUnit → InputUnit) :
    Quiet s (l.foldl (fun s i => s.modInput i (f s i)) s) :=
  quiet_foldl l (fun s i _ => quiet_modInput s i _) s

theorem quiet_raiseInput (s : State) (i : Input) : Quiet s (s.raiseInput i) := quiet

theorem deeds_debouncedChange {s : State} (h : s.onePerGroup) (i : Input) (c : Contact) : Deeds s (s.debouncedChange i c) := by
  have turned := quiet_modInput s i (fun u => { u with debounced := some c, debounce := none })
  have noticed := fun t => (quiet_if (c := t.items.inp.notice.get i = true) (quiet_raiseInput t i)).deeds
  have h1 := turned.deeds.trans (noticed _)
  exact Relation.ReflTransGen.trans h1 (deeds_handChange (Deeds.onePerGroup h1 h) _ c)

theorem quiet_endStartUp (s : State) : Quiet s s.endStartUp := quiet_if quiet

theorem quiet_sampleInputs (s : State) (levels : Bank Level 24) : Quiet s (s.sampleInputs levels) := by
  unfold State.sampleInputs
  split
  · exact .refl s
  · exact ((quiet_modInputs s _ _).trans (quiet_modInputs _ _ _)).trans (quiet_endStartUp _)

theorem deeds_debounceExpired {s : State} (h : s.onePerGroup) (i : Input) : Deeds s (s.debounceExpired i) :=
  deeds_if (deeds_debouncedChange h i _)

theorem quiet_firstDebounceExpired (s : State) (i : Input) : Quiet s (s.firstDebounceExpired i) := by
  unfold State.firstDebounceExpired
  dsimp only
  split
  · split
    · exact quiet_modInput s i _
    · exact ((quiet_modInput s i _).trans (quiet_handFirst _ _)).trans (quiet_endStartUp _)
  · exact .refl s

theorem quiet_faultExpired (s : State) (i : Input) : Quiet s (s.faultExpired i) := by
  unfold State.faultExpired
  dsimp only
  split
  · exact (quiet_modInput s i _).trans (quiet_endStartUp _)
  · exact .refl s

theorem quiet_inputReassigned (s : State) (i : Input) : Quiet s (s.inputReassigned i) := by
  unfold State.inputReassigned
  dsimp only
  split
  · exact (quiet_modInput s i _).trans (quiet_endStartUp _)
  · exact ((quiet_modInput s i _).trans (quiet_handFirst _ _)).trans (quiet_endStartUp _)

/-! ### The wake, polls and the gate (R130, R150, R153) -/

theorem deeds_applyPolled {s : State} (h : s.onePerGroup) (i : Input) : Deeds s (s.applyPolled i) := by
  unfold State.applyPolled
  split
  · split
    · exact .refl
    · exact deeds_debouncedChange h i _
  · exact .refl

/-- The pending polled values are applied after a change of the state's other parts. -/
theorem deeds_applyAll {s t : State} (q : Quiet s t) (h : s.onePerGroup) (l : List Input) :
    Deeds s (l.foldl State.applyPolled t) :=
  q.deeds.trans (deeds_foldl (I := State.onePerGroup) l
    (fun _ hu i _ => ⟨deeds_applyPolled hu i, Deeds.onePerGroup (deeds_applyPolled hu i) hu⟩) t (Deeds.onePerGroup q.deeds h)).1

theorem deeds_wake {s : State} (h : s.onePerGroup) (cause : WakeCause) : Deeds s (s.wake cause) := by
  unfold State.wake
  refine Relation.ReflTransGen.trans (deeds_applyAll ?_ h _) (quiet_modInputs _ _ _).deeds
  exact Quiet.trans quiet (quiet_modInputs _ _ _)

theorem deeds_pollInputs {s : State} (h : s.onePerGroup) (levels : Bank Level 24) : Deeds s (s.pollInputs levels) := by
  unfold State.pollInputs
  split
  · dsimp only
    have read := fun (t : State) (q : Quiet s t) (l : List Input) (f : State → Input → InputUnit → InputUnit) =>
      q.trans (quiet_modInputs t l f)
    split
    · refine Relation.ReflTransGen.trans ?_ (deeds_wake ?_ _)
      · exact (read _ quiet _ _).deeds
      · exact Deeds.onePerGroup (read _ quiet _ _).deeds h
    · exact (read _ quiet _ _).deeds
  · exact .refl

theorem quiet_measureWind (s : State) : Quiet s s.measureWind := by
  unfold State.measureWind
  dsimp only
  split
  · exact quiet
  · exact quiet

theorem deeds_endGate {s : State} (h : s.onePerGroup) : Deeds s s.endGate := by
  have measured := (quiet_measureWind s).deeds
  have h1 := Deeds.onePerGroup measured h
  have woken : Deeds s (if s.measureWind.inm.parked then s.measureWind.wake .wind else s.measureWind) :=
    measured.trans (deeds_if (deeds_wake h1 _))
  unfold State.endGate
  dsimp only
  split
  · exact woken.trans (deeds_triggerGate (Deeds.onePerGroup woken h))
  · exact measured

/-! ### The supply monitor (R35 to R41) -/

theorem acts_enterSupply (s : State) (x : SupplyState) : Acts s (s.enterSupply x) := by
  cases x with
  | hold => exact acts_holdAll s _ _
  | cut => exact acts_endAll s _ _
  | normal => exact .refl
  | low => exact .refl

theorem acts_followSupply (s : State) (first : Bool) : Acts s (s.followSupply first) := by
  have told : ∀ t : State, Quiet t (if first then t else t.raise .supply) := fun t => quiet_ite (.refl t) quiet
  unfold State.followSupply
  dsimp only
  split
  · exact .refl
  · have followed : Act s { s with sta := { s.sta with supply := s.sta.flags.state } } := .monitor rfl rfl rfl
    exact (followed.acts.trans (told _).acts).trans (acts_enterSupply _ _)

theorem acts_sampleSupply (s : State) (tenths : Nat) : Acts s (s.sampleSupply tenths) := by
  unfold State.sampleSupply
  dsimp only
  split
  · refine Act.acts (.monitor ?_ ?_ ?_) <;> rfl
  · refine Relation.ReflTransGen.trans (Act.acts ?_) (acts_followSupply _ _)
    exact .monitor rfl rfl rfl

theorem acts_holdTimerExpired (s : State) : Acts s s.holdTimerExpired := by
  refine Relation.ReflTransGen.trans (Act.acts ?_) (acts_followSupply _ false)
  exact .monitor rfl rfl rfl

end Sys2Proof.Machine
end

section
namespace Sys2Proof.Machine

-- One declaration at a time, so that the memory the check takes stays small.
set_option Elab.async false

/-! ### The end of an event -/

theorem quiet_sync (s : State) : Quiet s s.sync := by rw [sync_frame]; exact quiet

theorem quiet_pins (s : State) : Quiet s s.pins := quiet

/-- What an event's end does behind the examination of the queue. -/
theorem quiet_followUp (s : State) : Quiet s ((s.deriveClearance.driftIdle.deriveCoach.followIdle).sync) := by
  have drift : ∀ t : State, Quiet t t.driftIdle := fun t => quiet_ite (.refl t) quiet
  have coach : ∀ t : State, Quiet t t.deriveCoach := fun t => quiet_ite (.refl t) quiet
  have idle : ∀ t : State, Quiet t t.followIdle := fun t => quiet_ite (quiet_ite (.refl t) quiet) quiet
  exact ((((quiet_deriveClearance s).trans (drift _)).trans (coach _)).trans (idle _)).trans (quiet_sync _)

theorem acts_settle (s : State) : Acts s s.settle :=
  (((acts_watchRetract s).trans (quiet_deriveClearance _).acts).trans (acts_examineQueue _)).trans (quiet_followUp _).acts

theorem headWaits_quiet {s t : State} (q : Quiet s t) (h : s.headWaits) : t.headWaits :=
  headWaits_congr h q.table q.arbiter q.items

theorem headWaits_settle {s : State} (h : s.Ledger) : s.settle.headWaits := by
  have before : s.watchRetract.deriveClearance.Ledger :=
    Acts.ledger ((acts_watchRetract s).trans (quiet_deriveClearance _).acts) h
  exact headWaits_quiet (quiet_followUp _) (headWaits_examineQueue before)

/-- From `s` to `t` by deeds, the queue of `t` examined. -/
structure Turn (s t : State) : Prop where
  deeds : Deeds s t
  waits : s.Ledger → s.headWaits → t.headWaits

theorem Turn.refl (s : State) : Turn s s := ⟨.refl, fun _ h => h⟩

theorem Turn.trans {s t u : State} (h : Turn s t) (k : Turn t u) : Turn s u :=
  ⟨h.deeds.trans k.deeds, fun hl hw => k.waits (Deeds.ledger h.deeds hl) (h.waits hl hw)⟩

theorem Quiet.turn {s t : State} (q : Quiet s t) : Turn s t := ⟨q.deeds, fun _ h => headWaits_quiet q h⟩

theorem turn_settle {s t : State} (h : Deeds s t) : Turn s t.settle :=
  ⟨h.trans (acts_settle t).deeds, fun hl _ => headWaits_settle (Deeds.ledger h hl)⟩

theorem turn_if {s t : State} {c : Prop} [Decidable c] (h : Turn s t) : Turn s (if c then t else s) := by
  split
  · exact h
  · exact .refl s

theorem Turn.onePerGroup {s t : State} (h : Turn s t) (hs : s.onePerGroup) : t.onePerGroup := Deeds.onePerGroup h.deeds hs

/-! ### The frames of the links -/

/-- No frame waits that the LIU may take (R169). -/
def State.drained (s : State) : Prop := ∀ l, s.mayTake l = true → (s.link l).buffer = []

/-- Two frames at most wait in a buffer. -/
def State.short (s : State) : Prop := ∀ l, (s.link l).buffer.length ≤ 2

theorem books_iff (s : State) : s.Books ↔ s.Ledger ∧ s.headWaits ∧ s.short ∧ s.drained := by
  constructor
  · exact fun h => ⟨h.ledger, h.examined, fun l => (h.buffers l).1, fun l => (h.buffers l).2⟩
  · rintro ⟨h, hw, h1, h2⟩
    exact ⟨h.tags, h.counter, h.ended, h.groups, h.normal, h.kinds, h.sums, h.budget, h.queue, h.order, hw, h.frame, h.claims,
      fun l => ⟨h1 l, h2 l⟩⟩

/-- What an event leads to: two operations of one group never, and where the books agree they agree again. -/
structure Keeps (s t : State) : Prop where
  groups : s.onePerGroup → t.onePerGroup
  books : s.Books → t.Books

theorem link_buffer {s t : State} (h : t.lines = s.lines) (l : Link) : (t.link l).buffer = (s.link l).buffer := by
  simp only [State.lines, Prod.mk.injEq] at h
  cases l
  · exact h.1.1
  · exact h.1.2

theorem mayTake_lines {s t : State} (h : t.lines = s.lines) (l : Link) : t.mayTake l = s.mayTake l := by
  simp only [State.lines, Prod.mk.injEq] at h
  simp only [State.mayTake, h.2.1, h.2.2]

theorem Turn.keeps {s t : State} (h : Turn s t) : Keeps s t := by
  have hl := Deeds.lines h.deeds
  refine ⟨h.onePerGroup, fun hb => ?_⟩
  rw [books_iff] at hb ⊢
  obtain ⟨h1, h2, h3, h4⟩ := hb
  refine ⟨Deeds.ledger h.deeds h1, h.waits h1 h2, fun l => ?_, fun l hm => ?_⟩
  · rw [link_buffer hl]; exact h3 l
  · rw [link_buffer hl]
    exact h4 l ((mayTake_lines hl l).symm.trans hm)

/-- What the taking of a frame leaves: the waiting frames as they were, and no link that the LIU may take from which it might
not before. -/
structure Served (s t : State) : Prop where
  groups : s.onePerGroup → t.onePerGroup
  kept : s.Ledger → s.headWaits → t.Ledger ∧ t.headWaits
  buffers : ∀ l, (t.link l).buffer = (s.link l).buffer
  taking : ∀ l, t.mayTake l = true → s.mayTake l = true

theorem Served.trans {s t u : State} (h : Served s t) (k : Served t u) : Served s u :=
  ⟨k.groups ∘ h.groups, fun hl hw => k.kept (h.kept hl hw).1 (h.kept hl hw).2, fun l => (k.buffers l).trans (h.buffers l),
    fun l => h.taking l ∘ k.taking l⟩

theorem Turn.served {s t : State} (h : Turn s t) : Served s t :=
  ⟨h.onePerGroup, fun hl hw => ⟨Deeds.ledger h.deeds hl, h.waits hl hw⟩, link_buffer (Deeds.lines h.deeds),
    fun l hm => (mayTake_lines (Deeds.lines h.deeds) l).symm.trans hm⟩

theorem Served.keeps {s t : State} (h : Served s t) : Keeps s t := by
  refine ⟨h.groups, fun hb => ?_⟩
  rw [books_iff] at hb ⊢
  obtain ⟨h1, h2, h3, h4⟩ := hb
  obtain ⟨h5, h6⟩ := h.kept h1 h2
  exact ⟨h5, h6, fun l => by rw [h.buffers]; exact h3 l, fun l hm => by rw [h.buffers]; exact h4 l (h.taking l hm)⟩

theorem Keeps.trans {s t u : State} (h : Keeps s t) (k : Keeps t u) : Keeps s u := ⟨k.groups ∘ h.groups, k.books ∘ h.books⟩

end Sys2Proof.Machine
end

section
namespace Sys2Proof.Machine

-- One declaration at a time, so that the memory the check takes stays small.
set_option Elab.async false

/-! ### The visit of every record in turn -/

/-- One slot's part of a visit of every record. -/
def State.visit (p : State → Op → Bool) (f : State → Slot → State) (s : State) (sl : Slot) : State :=
  match s.opAt sl with
  | some o => if p s o then f s sl else s
  | none => s

theorem eachOp_eq (s : State) (p : State → Op → Bool) (f : State → Slot → State) :
    s.eachOp p f = slots.foldl (State.visit p f) s := rfl

theorem visit_some {p : State → Op → Bool} {f : State → Slot → State} {s : State} {sl : Slot} {o : Op}
    (ho : s.opAt sl = some o) : s.visit p f sl = if p s o then f s sl else s := by
  simp [State.visit, ho]

theorem visit_none {p : State → Op → Bool} {f : State → Slot → State} {s : State} {sl : Slot} (ho : s.opAt sl = none) :
    s.visit p f sl = s := by
  simp [State.visit, ho]

/-- A change of a record that keeps `R` and writes no other slot. -/
def Local (p : State → Op → Bool) (f : State → Slot → State) (R : State → Prop) : Prop :=
  ∀ u sl o, R u → u.opAt sl = some o → p u o = true → R (f u sl) ∧ ∀ k, sl ≠ k → (f u sl).opAt k = u.opAt k

theorem visit_local {p : State → Op → Bool} {f : State → Slot → State} {R : State → Prop} (h : Local p f R) {u : State}
    (hu : R u) (sl : Slot) : R (u.visit p f sl) ∧ ∀ k, sl ≠ k → (u.visit p f sl).opAt k = u.opAt k := by
  cases ho : u.opAt sl with
  | none => rw [visit_none ho]; exact ⟨hu, fun _ _ => rfl⟩
  | some o =>
    rw [visit_some ho]
    split
    · next hp => exact h u sl o hu ho hp
    · exact ⟨hu, fun _ _ => rfl⟩

theorem visits_local {p : State → Op → Bool} {f : State → Slot → State} {R : State → Prop} (h : Local p f R) (l : List Slot) :
    ∀ {u : State}, R u → R (l.foldl (State.visit p f) u)
      ∧ ∀ k, k ∉ l → (l.foldl (State.visit p f) u).opAt k = u.opAt k := by
  induction l with
  | nil => exact fun hu => ⟨hu, fun _ _ => rfl⟩
  | cons a l ih =>
    intro u hu
    obtain ⟨h1, h2⟩ := visit_local h hu a
    obtain ⟨h3, h4⟩ := ih h1
    refine ⟨h3, fun k hk => ?_⟩
    rw [List.mem_cons, not_or] at hk
    exact (h4 k hk.2).trans (h2 k (Ne.symm hk.1))

/-- Each record is as its own slot's part of the visit left it, made in a state in which the record still stood. -/
theorem visits_slot {p : State → Op → Bool} {f : State → Slot → State} {R : State → Prop} (h : Local p f R) {sl : Slot}
    (l : List Slot) : l.Nodup → sl ∈ l → ∀ {s : State}, R s → ∃ u, R u ∧ u.opAt sl = s.opAt sl
      ∧ (l.foldl (State.visit p f) s).opAt sl = (u.visit p f sl).opAt sl := by
  induction l with
  | nil => exact fun _ hm => absurd hm List.not_mem_nil
  | cons a l ih =>
    intro hn hm s hs
    rw [List.nodup_cons] at hn
    obtain ⟨h1, h2⟩ := visit_local h hs a
    by_cases e : a = sl
    · subst e
      exact ⟨s, hs, rfl, (visits_local h l h1).2 a hn.1⟩
    · obtain ⟨u, h3, h4, h5⟩ := ih hn.2 ((List.mem_cons.mp hm).resolve_left (Ne.symm e)) h1
      exact ⟨u, h3, h4.trans (h2 sl e), h5⟩

theorem eachOp_slot {p : State → Op → Bool} {f : State → Slot → State} {R : State → Prop} (h : Local p f R) {s : State}
    (hs : R s) (sl : Slot) : ∃ u, R u ∧ u.opAt sl = s.opAt sl ∧ (s.eachOp p f).opAt sl = (u.visit p f sl).opAt sl :=
  visits_slot h slots (by decide) (mem_slots sl) hs

/-! ### A cancel reaches its own record alone -/

theorem endOp_opAt {s : State} {sl : Slot} {o : Op} (ho : s.opAt sl = some o) (r : Result) :
    Wrote s (s.endOp sl r) sl { o with state := .ended r (s.remainingOf o) (s.opt.ends + 1), resumed := false } := by
  unfold State.endOp
  rw [ho]
  exact wrote_writeEnd ho r _

theorem motionCeased_other (s : State) {sl k : Slot} (hk : sl ≠ k) : (s.motionCeased sl).opAt k = s.opAt k := by
  unfold State.motionCeased
  split
  · rfl
  · next o ho =>
    split
    · exact (endOp_opAt ho _).other hk
    · exact (wrote_moveHeld ho _).other hk
    · rfl

theorem stopToward_other (s : State) {sl k : Slot} (d : Dest) (hk : sl ≠ k) : (s.stopToward sl d).opAt k = s.opAt k := by
  unfold State.stopToward
  split
  · rfl
  · next o ho =>
    split
    · next ph hs =>
      have stopped : ((s.setOp sl { o with state := .stopping d ph }).rampGroup o.job.group).opAt k = s.opAt k :=
        (opAt_of_opt (quiet_rampGroup _ _).table k).trans ((wrote_setOp s sl _).other hk)
      dsimp only
      split
      · exact (motionCeased_other _ hk).trans stopped
      · exact stopped
    · rfl

theorem cancelOp_other (s : State) {sl k : Slot} (r : Result) (hk : sl ≠ k) : (s.cancelOp sl r).opAt k = s.opAt k := by
  unfold State.cancelOp
  split
  · rfl
  · next o ho =>
    split
    · exact (endOp_opAt ho r).other hk
    · exact (endOp_opAt ho r).other hk
    · exact stopToward_other s _ hk
    · exact (wrote_setOp s sl _).other hk
    · rfl
    · rfl

/-- A stopped operation ramps down, or has ended or is HELD where its outputs are off already. -/
theorem stopToward_self {s : State} {sl : Slot} {o : Op} {ph : Option Phase} (ho : s.opAt sl = some o)
    (hs : o.state = .running ph) (r : Result) :
    ∃ p, (s.stopToward sl (.ended r)).opAt sl = some p ∧ p.job = o.job
      ∧ (p.state.isEnded = true ∨ p.state = .stopping (.ended r) ph) := by
  have stopped : ((s.setOp sl { o with state := .stopping (.ended r) ph }).rampGroup o.job.group).opAt sl
      = some { o with state := .stopping (.ended r) ph } :=
    (opAt_of_opt (quiet_rampGroup _ _).table sl).trans (wrote_setOp s sl _).self
  unfold State.stopToward
  rw [ho]
  dsimp only
  rw [hs]
  dsimp only
  split
  · unfold State.motionCeased
    rw [stopped]
    exact ⟨_, (endOp_opAt stopped r).self, rfl, Or.inl rfl⟩
  · exact ⟨_, stopped, rfl, Or.inr rfl⟩

/-- A cancelled operation has ended, or is in STOPPING toward an end. -/
theorem cancelOp_self {s : State} {sl : Slot} {o : Op} (ho : s.opAt sl = some o) (r : Result) :
    ∃ p, (s.cancelOp sl r).opAt sl = some p ∧ p.job = o.job ∧ (p.state.isEnded = true ∨ p.state.leaving) := by
  unfold State.cancelOp
  rw [ho]
  dsimp only
  split
  · exact ⟨_, (endOp_opAt ho r).self, rfl, Or.inl rfl⟩
  · exact ⟨_, (endOp_opAt ho r).self, rfl, Or.inl rfl⟩
  · next ph hs =>
    obtain ⟨p, hp, hj, he⟩ := stopToward_self ho hs r
    exact ⟨p, hp, hj, he.imp id (fun e => ⟨_, _, e⟩)⟩
  · exact ⟨_, (wrote_setOp s sl _).self, rfl, Or.inr ⟨_, _, rfl⟩⟩
  · next r' ph hs => exact ⟨o, ho, rfl, Or.inr ⟨_, _, hs⟩⟩
  · next hs => exact ⟨o, ho, rfl, Or.inl (by rw [hs]; rfl)⟩

theorem cancels_local (p : State → Op → Bool) (r : Result) : Local p (fun s sl => s.cancelOp sl r) (fun _ => True) :=
  fun _ _ _ _ _ _ => ⟨trivial, fun _ hk => cancelOp_other _ r hk⟩

/-- Every operation that a cancel of all reaches by its job has ended or is in STOPPING toward an end. -/
theorem cancelAll_leaves (s : State) (q : Job → Bool) (p : State → Op → Bool) (r : Result)
    (hp : ∀ s o, p s o = q o.job) {sl : Slot} {o : Op} (ho : (s.cancelAll p r).opAt sl = some o) (hq : q o.job = true)
    (hn : o.state.isEnded = false) : o.state.leaving := by
  obtain ⟨u, -, hu, ht⟩ := eachOp_slot (cancels_local (fun s o => !o.state.isEnded && p s o) r) (s := s) trivial sl
  rw [State.cancelAll, ht] at ho
  cases hx : u.opAt sl with
  | none => rw [visit_none hx, hx] at ho; cases ho
  | some x =>
    rw [visit_some hx] at ho
    split at ho
    · obtain ⟨y, hy, _, he⟩ := cancelOp_self hx r
      rw [hy] at ho; cases ho
      rcases he with he | he
      · rw [he] at hn; cases hn
      · exact he
    · next hc =>
      rw [hx] at ho; cases ho
      simp [hn, hp, hq] at hc

end Sys2Proof.Machine
end

section
namespace Sys2Proof.Machine

-- One declaration at a time, so that the memory the check takes stays small.
set_option Elab.async false

/-! ### Claims (R183, R184) -/

theorem deeds_takeClaims (s : State) (set : List Group) : Deeds s (s.takeClaims set) := by
  unfold State.takeClaims
  dsimp only
  generalize hfree : set.filter (fun g => s.claimOf g == .free) = free
  have cancels := Acts.deeds (acts_cancelAll s (fun _ o => free.contains o.job.group && o.claimable) (.cancelled .claimed))
  generalize ht : s.cancelAll (fun _ o => free.contains o.job.group && o.claimable) (.cancelled .claimed) = t at cancels ⊢
  have leaves : ∀ g ∈ free, ∀ sl o, t.opAt sl = some o → o.job.group = g → o.claimable = true → o.state.isEnded = false →
      ∃ r ph, o.state = .stopping (.ended r) ph := by
    intro g hg sl o ho hog hc hn
    have key := cancelAll_leaves s
      (fun j => free.contains j.group && (j.origin == .link || (j.origin == .internal && j.kind.opClass == .normal)))
      (fun _ o => free.contains o.job.group && o.claimable) (.cancelled .claimed) (sl := sl) (o := o)
    rw [ht] at key
    refine key (fun _ x => ?_) ho ?_ hn
    · rfl
    · subst hog
      have hc' := hc
      simp only [Op.claimable, Op.opClass] at hc'
      simp [hg, hc']
  refine cancels.trans (deeds_foldl (I := fun u => u.opt = t.opt) free (fun u hu g hg => ?_) t rfl).1
  refine ⟨(Deed.claim (fun sl o ho => leaves g hg sl o ((opAt_of_opt hu sl).symm.trans ho))).deeds, hu⟩

theorem acts_setClaim_free (s : State) (g : Group) : Acts s (s.setClaim g .free) := by
  refine (Act.unclaim (fun k => ?_)).acts
  have := claimOf_setClaim s g k .free
  by_cases e : g = k
  · left; rw [if_pos e] at this; exact this
  · right; rw [if_neg e] at this; exact this

/-! ### Requests -/

theorem turn_raiseClaims {s t : State} (h : Deeds s t) :
    Turn s (if t.liu.claims = s.liu.claims then t else t.raise .claims).settle :=
  turn_settle (h.trans (Quiet.deeds (quiet_ite (.refl t) quiet)))

theorem turn_handleClaim (s : State) (l : Link) (p : List Byte) : Turn s (handleClaim s l p).1 := by
  unfold handleClaim oneByte
  split
  · exact .refl s
  · split
    · dsimp only
      split
      · exact .refl s
      · exact turn_raiseClaims (deeds_takeClaims s _)
    · exact .refl s

theorem turn_handleRelease (s : State) (l : Link) (p : List Byte) : Turn s (handleRelease s l p).1 := by
  have frees := fun l => Acts.deeds (acts_foldl (f := fun t g => State.setClaim t g .free) l
    (fun t g _ => acts_setClaim_free t g) s)
  unfold handleRelease oneByte
  split
  · exact .refl s
  · split
    · dsimp only
      split
      · exact .refl s
      · exact turn_raiseClaims (frees _)
    · exact .refl s

theorem turn_handleDismiss (s : State) (l : Link) (p : List Byte) : Turn s (handleDismiss s l p).1 := by
  unfold handleDismiss oneByte
  split
  · dsimp only
    split
    · exact turn_settle (Acts.deeds (acts_eachOp s (fun s sl o ho he => (Act.clear ho he).acts)))
    · split
      · exact .refl s
      · split
        · next he =>
          rw [Option.any_eq_true] at he
          obtain ⟨o, ho, he⟩ := he
          exact turn_settle (Act.clear ho he).acts.deeds
        · exact .refl s
  · exact .refl s

theorem turn_handleResume (s : State) (l : Link) (p : List Byte) : Turn s (handleResume s l p).1 := by
  unfold handleResume oneByte
  split
  · dsimp only
    split
    · exact .refl s
    · split
      · exact .refl s
      · next o ho =>
        split
        · exact .refl s
        · next hh =>
          split
          · exact .refl s
          · exact turn_settle (Deed.readmit ho (by simpa using hh)).deeds
  · exact .refl s

theorem turn_handleHaltAll (s : State) (l : Link) (p : List Byte) : Turn s (handleHaltAll s l p).1 := by
  unfold handleHaltAll noPayload
  split
  · exact turn_settle (Acts.deeds (acts_endAll s _ _))
  · exact .refl s

theorem turn_handleStop (s : State) (l : Link) (p : List Byte) : Turn s (handleStop s l p).1 := by
  unfold handleStop
  split
  · split
    · exact .refl s
    · split
      · exact .refl s
      · split
        · exact turn_settle (Acts.deeds (acts_cancelOp s _ _))
        · exact .refl s
        · exact .refl s
  · exact .refl s

/-- What the job that SUBMIT reads is (R9). -/
theorem readJob_ok {s : State} {l : Link} {q : Submit} {j : Job} (h : s.readJob l q = .ok j) :
    j.kind.fits j.group = true ∧ j.origin = linkOrigin l := by
  unfold State.readJob at h
  split at h
  · cases h
  · split at h
    · cases h
    · split at h
      · cases h
      · next hf =>
        split at h
        · cases h
        · cases h
        · cases h
        · split at h
          · cases h
          · split at h
            · cases h
            · cases h
              exact ⟨by simpa using hf, rfl⟩

theorem turn_handleSubmit (s : State) (l : Link) (p : List Byte) : Turn s (handleSubmit s l p).1 := by
  unfold handleSubmit
  split
  · exact .refl s
  · split
    · exact .refl s
    · split
      · exact .refl s
      · next q _ _ j hj =>
        obtain ⟨hfit, horg⟩ := readJob_ok hj
        split
        · exact .refl s
        · next hr =>
          obtain ⟨hc, ht, hb, hn⟩ := admissionRefusal_none hr
          split
          · exact .refl s
          · refine turn_settle (Deed.enroll (fun _ => ht _ rfl) hb hfit ?_ hn).deeds
            cases l with
            | coach => exact Or.inl (hc (by decide))
            | service => exact Or.inr (Or.inl horg)

/-! ### Items (R195) -/

theorem quiet_rotationChanged (s : State) : Quiet s s.rotationChanged := by
  unfold State.rotationChanged
  dsimp only
  split
  · exact quiet
  · exact quiet

theorem quiet_referenceChanged (s : State) : Quiet s s.referenceChanged := by
  unfold State.referenceChanged
  dsimp only
  split
  · split
    · split
      · exact quiet
      · exact quiet
    · exact quiet
  · exact quiet

theorem quiet_jackCountChanged (s : State) : Quiet s s.jackCountChanged := by
  refine Quiet.trans (quiet_foldl jackPositions (fun s j _ => ?_) s) (quiet_lvc _ _)
  exact quiet_ite (.refl s) quiet

theorem quiet_forgetLast (s : State) (g : Group) : Quiet s (s.forgetLast g) :=
  quiet_foldl entryNumbers (fun s _ _ => quiet_if quiet) s

theorem quiet_roomCountChanged (s : State) : Quiet s s.roomCountChanged :=
  quiet_foldl roomNumbers (fun s n _ => quiet_ite (.refl s) ((quiet_modRoom s n _).trans (quiet_forgetLast _ _))) s

theorem quiet_itemTaken (s : State) (k : ItemKey) : Quiet s (s.itemTaken k) := by
  unfold State.itemTaken
  split
  · exact quiet_rotationChanged s
  · exact quiet_referenceChanged s
  · exact quiet_referenceChanged s
  · exact quiet_jackCountChanged s
  · exact quiet_roomCountChanged s
  · exact (quiet_modRoom s _ _).trans (quiet_judgeChanged _ _ _)
  · exact Quiet.trans quiet (quiet_judgeChanged _ _ _)
  · exact quiet_inputReassigned s _
  · exact quiet_inputReassigned s _
  · exact quiet_if quiet
  · exact quiet
  · exact quiet
  · exact .refl s

/-- An item outside the group of all leaves the budget. -/
theorem put_budget (t : Items) (k : ItemKey) (v : Int) (h : k.group ≠ .all) :
    (t.put k v).supply.budgetLimit = t.supply.budgetLimit ∧ (t.put k v).normalBudget = t.normalBudget := by
  cases k with
  | budgetLimit | safetyReserve | sharePump | shareRoomMotor | shareAwning | staggerTime | function | invert | debounce | clearance =>
    exact absurd rfl h
  | _ => exact ⟨rfl, rfl⟩

/-- With every operation ended nothing is reserved. -/
theorem reserved_idle {s : State} (h : s.anyNonEnded = false) (p : Op → Bool) : s.reserved p = 0 := by
  have ended : ∀ sl o, s.opAt sl = some o → o.state.isEnded = true := by
    intro sl o ho
    have : s.findSlot (fun o => !o.state.isEnded) = none := by simpa [State.anyNonEnded] using h
    simpa using findSlot_none.mp this sl o ho
  have zero : ∀ sl, share p (s.opAt sl) = 0 := by
    intro sl
    cases ho : s.opAt sl with
    | none => rfl
    | some o => exact share_idle (ended_notActive (ended sl o ho))
  rw [reserved_eq]
  simp [zero]

/-- The sums stay within a budget that is that of before, or that comes with every operation ended (R27, R195). -/
theorem budget_setItems {s : State} (h : s.Ledger) (t : Items)
    (ht : s.anyNonEnded = false ∨ t.supply.budgetLimit = s.items.supply.budgetLimit ∧ t.normalBudget = s.items.normalBudget) :
    s.sta.resSum ≤ t.supply.budgetLimit ∧ s.sta.normalSum ≤ t.normalBudget := by
  rcases ht with hn | ⟨h1, h2⟩
  · rw [h.sums.1, h.sums.2, reserved_idle hn, reserved_idle hn]
    exact ⟨Nat.zero_le _, Nat.zero_le _⟩
  · rw [h1, h2]; exact h.budget

/-- New items, their effects, and the end of the event. -/
theorem served_setItems {s u : State} (t : Items)
    (ht : s.anyNonEnded = false ∨ t.supply.budgetLimit = s.items.supply.budgetLimit ∧ t.normalBudget = s.items.normalBudget)
    (q : Quiet (s.setItems t) u) : Served s u.settle := by
  have after := turn_settle q.deeds
  have hl : (s.setItems t).lines = s.lines := rfl
  refine ⟨fun hs => after.onePerGroup (NoNew.onePerGroup (.of_opt rfl) hs), fun hs _ => ?_, fun l => ?_, fun l hm => ?_⟩
  · have set : (s.setItems t).Ledger := hs.congr rfl rfl rfl rfl rfl (budget_setItems hs t ht)
    exact ⟨Deeds.ledger after.deeds set, headWaits_settle (Deeds.ledger q.deeds set)⟩
  · exact link_buffer ((Deeds.lines after.deeds).trans hl) l
  · exact (mayTake_lines ((Deeds.lines after.deeds).trans hl) l).symm.trans hm

theorem served_takeItem {s : State} (k : ItemKey) (t : Items)
    (ht : t = s.items ∨ s.anyNonEnded = false
      ∨ t.supply.budgetLimit = s.items.supply.budgetLimit ∧ t.normalBudget = s.items.normalBudget) :
    Served s (s.takeItem k t) := by
  unfold State.takeItem
  split
  · exact (Turn.refl s).served
  · next hne => exact served_setItems t (ht.resolve_left hne) (quiet_itemTaken _ k)

theorem served_setItemTo {s : State} (num idx : Nat) (k : ItemKey) (own : Option Refuse) (t : Items)
    (ht : k.group ≠ .all → t.supply.budgetLimit = s.items.supply.budgetLimit ∧ t.normalBudget = s.items.normalBudget) :
    Served s (s.setItemTo num idx k own t).1 := by
  unfold State.setItemTo
  split
  · exact (Turn.refl s).served
  · next hr =>
    refine served_takeItem k t (Or.inr ?_)
    by_cases hk : k.group = .all
    · left
      have := findSome_none hr (refuseIf (s.itemGroupActive k.group) .groupActive) (by simp)
      rw [hk] at this
      exact refuseIf_none this
    · exact Or.inr (ht hk)

theorem served_handleSetItem (s : State) (l : Link) (p : List Byte) : Served s (handleSetItem s l p).1 := by
  have refused : Served s s := (Turn.refl s).served
  unfold handleSetItem
  split
  · split
    · exact refused
    · unfold State.setItemValue
      split
      · split
        · exact refused
        · split
          · exact refused
          · split
            · exact served_setItemTo _ _ _ _ _ (fun _ => ⟨rfl, rfl⟩)
            · exact served_setItemTo _ _ _ _ _ (fun _ => ⟨rfl, rfl⟩)
      · split
        · exact served_setItemTo _ _ _ _ _ (put_budget _ _ _)
        · exact refused
  · exact refused

theorem served_handleSetReference (s : State) (l : Link) (p : List Byte) : Served s (handleSetReference s l p).1 := by
  have refused : Served s s := (Turn.refl s).served
  unfold handleSetReference noPayload
  split
  · split
    · exact refused
    · split
      · exact refused
      · split
        · exact refused
        · split
          · exact refused
          · refine served_setItems _ (Or.inr ?_) (quiet_referenceChanged _)
            exact ⟨rfl, rfl⟩
  · exact refused

/-! ### The other requests -/

/-- A store begins, or an accepted PARK waits: the LIU takes fewer frames than before. -/
theorem served_waits {s t : State} (ho : t.opt = s.opt) (hs : t.sta = s.sta) (hc : t.liu.claims = s.liu.claims)
    (hi : t.items = s.items) (hb : ∀ l, (t.link l).buffer = (s.link l).buffer)
    (ht : ∀ l, t.mayTake l = true → s.mayTake l = true) : Served s t :=
  ⟨NoNew.onePerGroup (.of_opt ho), fun h hw => ⟨h.congr ho (by rw [hs]) (by rw [hs]) (by rw [hs]) hc (by rw [hi]; exact h.budget),
    headWaits_congr hw ho hs hi⟩, hb, ht⟩

theorem served_handleStoreItems (s : State) (l : Link) (p : List Byte) : Served s (handleStoreItems s l p).1 := by
  unfold handleStoreItems noPayload
  split
  · split
    · exact (Turn.refl s).served
    · next hn =>
      have begins : Served s { s with ist := { s.ist with storing := some l } } :=
        served_waits rfl rfl rfl rfl (fun m => by cases m <;> rfl) (fun m hm => by
          have none : s.ist.storing = none := by simpa using hn
          simp only [State.mayTake, Bool.and_eq_true] at hm ⊢
          exact ⟨by simp [none], hm.2⟩)
      exact begins.trans (turn_settle .refl).served
  · exact (Turn.refl s).served

theorem served_handlePark (s : State) (l : Link) (p : List Byte) : Served s (handlePark s l p).1 := by
  unfold handlePark noPayload
  split
  · split
    · exact (Turn.refl s).served
    · exact served_waits rfl rfl rfl rfl (fun m => by cases m <;> rfl) (fun m hm => by simp [State.mayTake] at hm)
  · exact (Turn.refl s).served

end Sys2Proof.Machine
end

section
namespace Sys2Proof.Machine

-- One declaration at a time, so that the memory the check takes stays small.
set_option Elab.async false

theorem quiet_handleReadChanges (s : State) (l : Link) (p : List Byte) : Quiet s (handleReadChanges s l p).1 := by
  have cleared : Quiet s (s.clearChanges l) := by cases l <;> exact quiet
  unfold handleReadChanges noPayload
  split
  · exact cleared.trans (quiet_pins _)
  · exact .refl s

theorem quiet_handleReadFaults (s : State) (l : Link) (p : List Byte) : Quiet s (handleReadFaults s l p).1 := by
  unfold handleReadFaults noPayload
  split
  · cases l
    · exact Quiet.trans quiet (quiet_pins _)
    · exact .refl s
  · exact .refl s

/-- A request with a one-byte payload leaves what each of its cases leaves. -/
theorem quiet_oneByte {s : State} (p : List Byte) {k : Byte → State × Answer} (h : ∀ b, Quiet s (k b).1) :
    Quiet s (oneByte p s k).1 := by
  unfold oneByte
  split
  · exact h _
  · exact .refl s

theorem quiet_noPayload {s : State} (p : List Byte) {k : State × Answer} (h : Quiet s k.1) : Quiet s (noPayload p s k).1 := by
  unfold noPayload
  split
  · exact h
  · exact .refl s

theorem quiet_handleSetNoticeMask (s : State) (l : Link) (p : List Byte) : Quiet s (handleSetNoticeMask s l p).1 :=
  quiet_oneByte p (fun _ => Quiet.trans quiet (quiet_pins _))

theorem quiet_handlePostNotice (s : State) (l : Link) (p : List Byte) : Quiet s (handlePostNotice s l p).1 := by
  refine quiet_oneByte p (fun _ => ?_)
  split
  · exact .refl s
  · exact Quiet.trans quiet (quiet_pins _)

theorem quiet_handleReadOp (s : State) (l : Link) (p : List Byte) : Quiet s (handleReadOp s l p).1 := by
  refine quiet_oneByte p (fun _ => ?_)
  split
  · exact .refl s
  · exact .refl s

theorem quiet_handleReadInputs (s : State) (l : Link) (p : List Byte) : Quiet s (handleReadInputs s l p).1 := by
  refine quiet_oneByte p (fun _ => ?_)
  split
  · exact .refl s
  · exact .refl s

theorem quiet_handleReadMotion (s : State) (l : Link) (p : List Byte) : Quiet s (handleReadMotion s l p).1 := by
  refine quiet_oneByte p (fun _ => ?_)
  split
  · exact .refl s
  · split
    · exact .refl s
    · exact .refl s

theorem quiet_handleGetItem (s : State) (l : Link) (p : List Byte) : Quiet s (handleGetItem s l p).1 := by
  unfold handleGetItem
  split
  · split
    · exact .refl s
    · exact .refl s
  · exact .refl s

theorem quiet_handleRestart (s : State) (l : Link) (p : List Byte) : Quiet s (handleRestart s l p).1 := by
  refine quiet_noPayload p ?_
  split
  · exact .refl s
  · exact .refl s

theorem quiet_read (s : State) (p : List Byte) (d : List Byte) : Quiet s (noPayload p s (s, Answer.ok d)).1 :=
  quiet_noPayload p (.refl s)

/-- Every request leaves the operations, the queue and the waiting frames in order. -/
theorem served_handlerOf (kind : Byte) (s : State) (l : Link) (p : List Byte) : Served s (handlerOf kind s l p).1 := by
  generalize hk : handlerOf kind = h
  unfold handlerOf at hk
  split at hk <;> subst hk
  · exact (quiet_read s p _).turn.served
  · exact (quiet_read s p _).turn.served
  · exact (turn_handleSubmit s l p).served
  · exact (turn_handleStop s l p).served
  · exact (turn_handleHaltAll s l p).served
  · exact (turn_handleResume s l p).served
  · exact (turn_handleDismiss s l p).served
  · exact (quiet_handleReadOp s l p).turn.served
  · exact (quiet_read s p _).turn.served
  · exact (quiet_handleReadChanges s l p).turn.served
  · exact (quiet_handleReadFaults s l p).turn.served
  · exact (quiet_read s p _).turn.served
  · exact (quiet_handleReadInputs s l p).turn.served
  · exact (quiet_handleReadMotion s l p).turn.served
  · exact (quiet_read s p _).turn.served
  · exact served_handleSetItem s l p
  · exact (quiet_handleGetItem s l p).turn.served
  · exact served_handleStoreItems s l p
  · exact served_handleSetReference s l p
  · exact (quiet_handleSetNoticeMask s l p).turn.served
  · exact (quiet_handlePostNotice s l p).turn.served
  · exact served_handlePark s l p
  · exact (quiet_handleRestart s l p).turn.served
  · exact (turn_handleClaim s l p).served
  · exact (turn_handleRelease s l p).served
  · exact (Turn.refl s).served

/-! ### Frames taken, buffered and drained (R169) -/

theorem quiet_modLink (s : State) (l : Link) {f : LinkUnit → LinkUnit} (h : ∀ u, (f u).buffer = u.buffer) :
    Quiet s (s.modLink l f) := by
  cases l
  · exact quiet rfl rfl rfl rfl (by simp [State.modLink, State.lines, h])
  · exact quiet rfl rfl rfl rfl (by simp [State.modLink, State.lines, h])

theorem quiet_pushReply (s : State) (l : Link) (k o : Byte) (d : List Byte) (a : After) : Quiet s (s.pushReply l k o d a) :=
  quiet_modLink s l (fun _ => rfl)

theorem quiet_reply (s : State) (l : Link) (k : Byte) (a : Answer) : Quiet s (s.reply l k a) := by
  cases a with
  | accepted d a => exact quiet_pushReply s l k _ d a
  | refused r => exact quiet_pushReply s l k _ _ _
  | later => exact .refl s

theorem served_serve {s : State} {l : Link} {p : List Byte} {h : Handler} (kind : Byte) (hh : Served s (h s l p).1) :
    Served s (s.serve l kind p h) := hh.trans (quiet_reply _ l kind _).turn.served

/-- The frames that wait on both links. -/
def State.waitingFrames (s : State) : Nat := (s.link .coach).buffer.length + (s.link .service).buffer.length

/-- The operations and the queue in order, and no buffer over its bound. -/
def State.inOrder (s : State) : Prop := s.Ledger ∧ s.headWaits ∧ s.short

theorem link_modLink (s : State) (l m : Link) (f : LinkUnit → LinkUnit) :
    (s.modLink l f).link m = if l = m then f (s.link m) else s.link m := by
  cases l <;> cases m <;> rfl

theorem modLink_lists (s : State) (l : Link) (f : LinkUnit → LinkUnit) : (s.modLink l f).opt = s.opt
    ∧ (s.modLink l f).sta = s.sta ∧ (s.modLink l f).liu.claims = s.liu.claims ∧ (s.modLink l f).items = s.items
    ∧ ∀ m, (s.modLink l f).mayTake m = s.mayTake m := by
  cases l <;> exact ⟨rfl, rfl, rfl, rfl, fun _ => rfl⟩

/-- A write of a buffer leaves the operations and the queue in order. -/
theorem kept_modLink (s : State) (l : Link) (f : LinkUnit → LinkUnit) :
    (s.onePerGroup → (s.modLink l f).onePerGroup)
    ∧ (s.Ledger → s.headWaits → (s.modLink l f).Ledger ∧ (s.modLink l f).headWaits) := by
  obtain ⟨ho, hs, hc, hi, -⟩ := modLink_lists s l f
  exact ⟨NoNew.onePerGroup (.of_opt ho), fun h hw => ⟨h.congr ho (by rw [hs]) (by rw [hs]) (by rw [hs]) hc
    (by rw [hi]; exact h.budget), headWaits_congr hw ho hs hi⟩⟩

theorem takeHead_kept {s : State} {l : Link} {f : Frame} {rest : List Frame} (hb : (s.link l).buffer = f :: rest) :
    (s.onePerGroup → (s.takeHead l).onePerGroup) ∧ (s.inOrder → (s.takeHead l).inOrder)
    ∧ (s.takeHead l).waitingFrames + 1 = s.waitingFrames := by
  have heq : s.takeHead l = (s.modLink l (fun u => { u with buffer := rest })).serve l f.kind f.payload (handlerOf f.kind) := by
    simp [State.takeHead, hb]
  have served := served_serve f.kind (served_handlerOf f.kind (s.modLink l (fun u => { u with buffer := rest })) l f.payload)
  obtain ⟨k1, k2⟩ := kept_modLink s l (fun u => { u with buffer := rest })
  have buffers : ∀ m, ((s.takeHead l).link m).buffer = if l = m then rest else (s.link m).buffer := by
    intro m
    rw [heq, served.buffers, link_modLink]
    split <;> rfl
  rw [heq] at *
  refine ⟨served.groups ∘ k1, fun ⟨h1, h2, h3⟩ => ?_, ?_⟩
  · obtain ⟨h4, h5⟩ := k2 h1 h2
    obtain ⟨h6, h7⟩ := served.kept h4 h5
    refine ⟨h6, h7, fun m => ?_⟩
    rw [buffers]
    split
    · next e =>
      have := h3 l
      rw [hb] at this
      simp only [List.length_cons] at this
      omega
    · exact h3 m
  · unfold State.waitingFrames
    rw [buffers, buffers]
    cases l
    · simp only [if_true, reduceCtorEq, if_false]; rw [hb]; simp only [List.length_cons]; omega
    · simp only [if_true, reduceCtorEq, if_false]; rw [hb]; simp only [List.length_cons]; omega

theorem nextLink_some {s : State} {l : Link} (h : s.nextLink = some l) : ∃ f rest, (s.link l).buffer = f :: rest := by
  have := List.find?_some h
  simp only [Bool.and_eq_true, Bool.not_eq_true', List.isEmpty_eq_false_iff] at this
  exact List.exists_cons_of_ne_nil this.2

theorem nextLink_none {s : State} (h : s.nextLink = none) : s.drained := by
  intro l hm
  have := List.find?_eq_none.mp h l (by cases l <;> simp)
  simpa [hm] using this

theorem drain_groups (n : Nat) {s : State} (h : s.onePerGroup) : (s.drain n).onePerGroup := by
  induction n generalizing s with
  | zero => exact h
  | succ n ih =>
    unfold State.drain
    split
    · next l hl =>
      obtain ⟨f, rest, hb⟩ := nextLink_some hl
      exact ih ((takeHead_kept hb).1 h)
    · exact h

theorem drain_inOrder (n : Nat) {s : State} (h : s.inOrder) : (s.drain n).inOrder := by
  induction n generalizing s with
  | zero => exact h
  | succ n ih =>
    unfold State.drain
    split
    · next l hl =>
      obtain ⟨f, rest, hb⟩ := nextLink_some hl
      exact ih ((takeHead_kept hb).2.1 h)
    · exact h

/-- With fuel for every waiting frame, none is left that the LIU may take. -/
theorem drain_drained (n : Nat) {s : State} (hn : s.waitingFrames ≤ n) : (s.drain n).drained := by
  induction n generalizing s with
  | zero =>
    intro l _
    unfold State.waitingFrames at hn
    change (s.link l).buffer = []
    cases l <;> exact List.length_eq_zero_iff.mp (by omega)
  | succ n ih =>
    unfold State.drain
    split
    · next l hl =>
      obtain ⟨f, rest, hb⟩ := nextLink_some hl
      have := (takeHead_kept hb).2.2
      exact ih (by omega)
    · next hl => exact nextLink_none hl

theorem drainAll_books {s : State} (h : s.inOrder) : s.drainAll.Books := by
  obtain ⟨h1, h2, h3⟩ := drain_inOrder 4 h
  rw [books_iff]
  refine ⟨h1, h2, h3, drain_drained 4 ?_⟩
  have c := h.2.2 .coach
  have d := h.2.2 .service
  unfold State.waitingFrames
  omega

end Sys2Proof.Machine
end

section
namespace Sys2Proof.Machine

-- One declaration at a time, so that the memory the check takes stays small.
set_option Elab.async false

/-! ### Frames and parking -/

theorem inOrder_congr {s t : State} (h : s.inOrder) (ho : t.opt = s.opt) (hs : t.sta = s.sta)
    (hc : t.liu.claims = s.liu.claims) (hi : t.items = s.items) (hb : t.short) : t.inOrder :=
  ⟨h.1.congr ho (by rw [hs]) (by rw [hs]) (by rw [hs]) hc (by rw [hi]; exact h.1.budget), headWaits_congr h.2.1 ho hs hi, hb⟩

theorem short_congr {s t : State} (h : s.short) (hc : t.liu.coach.buffer = s.liu.coach.buffer)
    (hs : t.liu.service.buffer = s.liu.service.buffer) : t.short := by
  intro l
  cases l
  · exact (congrArg List.length hc).le.trans (h .coach)
  · exact (congrArg List.length hs).le.trans (h .service)

theorem State.Books.inOrder {s : State} (h : s.Books) : s.inOrder := by
  obtain ⟨h1, h2, h3, -⟩ := (books_iff s).mp h
  exact ⟨h1, h2, h3⟩

theorem Turn.inOrder {s t : State} (h : Turn s t) (hs : s.inOrder) : t.inOrder :=
  ⟨Deeds.ledger h.deeds hs.1, h.waits hs.1 hs.2.1, fun l => by rw [link_buffer (Deeds.lines h.deeds)]; exact hs.2.2 l⟩

theorem turn_wakeOnFrame {s : State} (h : s.onePerGroup) (l : Link) : Turn s (s.wakeOnFrame l) :=
  turn_if (turn_settle (deeds_wake h _))

theorem quiet_linkError (s : State) (l : Link) : Quiet s (s.linkError l) := by cases l <;> exact quiet

theorem bufferFrame_kept (s : State) (l : Link) (f : Frame) :
    (s.onePerGroup → (s.bufferFrame l f).onePerGroup) ∧ (s.inOrder → (s.bufferFrame l f).inOrder) := by
  unfold State.bufferFrame
  split
  · next hlen =>
    obtain ⟨ho, hs, hc, hi, -⟩ := modLink_lists s l (fun u => { u with buffer := u.buffer ++ [f] })
    refine ⟨(kept_modLink s l _).1, fun h => inOrder_congr h ho hs hc hi (fun m => ?_)⟩
    rw [link_modLink]
    split
    · next e => subst e; simpa using hlen
    · exact h.2.2 m
  · have told := ((quiet_linkError s l).trans (quiet_sync _)).turn
    exact ⟨told.onePerGroup, told.inOrder⟩

theorem keeps_bufferFrame {s : State} {l : Link} (f : Frame) (hm : s.mayTake l = false) : Keeps s (s.bufferFrame l f) := by
  refine ⟨(bufferFrame_kept s l f).1, fun hb => ?_⟩
  obtain ⟨h1, h2, h3⟩ := (bufferFrame_kept s l f).2 hb.inOrder
  obtain ⟨-, -, -, dry⟩ := (books_iff s).mp hb
  refine (books_iff _).mpr ⟨h1, h2, h3, ?_⟩
  unfold State.bufferFrame
  split
  · intro m hm'
    rw [(modLink_lists s l _).2.2.2.2 m] at hm'
    rw [link_modLink, if_neg (fun e => by rw [e, hm'] at hm; cases hm)]
    exact dry m hm'
  · have q := (quiet_linkError s l).trans (quiet_sync _)
    intro m hm'
    rw [link_buffer q.lines]
    exact dry m ((mayTake_lines q.lines m).symm.trans hm')

theorem keeps_request {s : State} (h1 : s.onePerGroup) (l : Link) (kind : Byte) (p : List Byte) {h : Handler}
    (hh : ∀ t, Served t (h t l p).1) : Keeps s (s.request l kind p h) := by
  have woken := turn_wakeOnFrame h1 l
  unfold State.request
  dsimp only
  split
  · exact woken.keeps.trans (served_serve kind (hh _)).keeps
  · next hm => exact woken.keeps.trans (keeps_bufferFrame _ (by simpa using hm))

/-- A request that leaves the operations alone. -/
theorem keeps_read {s : State} (h1 : s.onePerGroup) (l : Link) (kind : Byte) (p : List Byte) {h : Handler}
    (hh : ∀ t, Quiet t (h t l p).1) : Keeps s (s.request l kind p h) :=
  keeps_request h1 l kind p (fun t => (hh t).turn.served)

/-- What ends with the taking of the waiting frames keeps the books. -/
theorem keeps_drained {s t : State} (hg : s.onePerGroup → t.onePerGroup) (ho : s.inOrder → t.inOrder) : Keeps s t.drainAll :=
  ⟨fun h => drain_groups 4 (hg h), fun h => drainAll_books (ho h.inOrder)⟩

theorem quiet_validFrame (s : State) (l : Link) : Quiet s (s.validFrame l) := by
  cases l
  · exact quiet
  · exact Quiet.trans (t := { s with liu := { s.liu with connected := true, silence := some (s.now + 10000) } }) quiet
      (quiet_ite (.refl _) quiet)

theorem keeps_receiveByte {s : State} (h : s.onePerGroup) (l : Link) (b : Byte) : Keeps s (s.receiveByte l b) := by
  have woken := turn_wakeOnFrame h l
  unfold State.receiveByte
  dsimp only
  split
  · exact (woken.trans (quiet_modLink _ l (by intro; rfl)).turn).keeps
  · exact (woken.trans (((quiet_modLink _ l (by intro; rfl)).trans (quiet_linkError _ l)).trans (quiet_sync _)).turn).keeps
  · have heard := fun (f : LinkUnit → LinkUnit) (hf : ∀ u, (f u).buffer = u.buffer) => woken.trans
      (turn_settle ((quiet_modLink (s.wakeOnFrame l) l hf).trans (quiet_validFrame _ l)).deeds)
    have after := heard (fun u => { u with assembler := .hunt, gap := none }) (fun _ => rfl)
    exact keeps_drained ((bufferFrame_kept _ l _).1 ∘ after.onePerGroup) ((bufferFrame_kept _ l _).2 ∘ after.inOrder)

theorem enterParked_kept (s : State) :
    (s.onePerGroup → s.enterParked.onePerGroup) ∧ (s.inOrder → s.enterParked.inOrder) :=
  ⟨NoNew.onePerGroup (.of_opt rfl), fun h => inOrder_congr h rfl rfl rfl rfl (short_congr h.2.2 rfl rfl)⟩

theorem waitingLink_none {s : State} (h : s.waitingLink = none) : s.drained := by
  intro l _
  have := List.find?_eq_none.mp h l (by cases l <;> simp)
  simpa using this

theorem keeps_goParked (s : State) : Keeps s s.goParked := by
  obtain ⟨k1, k2⟩ := enterParked_kept s
  have after : Turn s.enterParked s.enterParked.settle := turn_settle .refl
  unfold State.goParked
  dsimp only
  split
  · next l _ =>
    refine ⟨fun h => ?_, fun h => ?_⟩
    · exact drain_groups 4 ((turn_wakeOnFrame (after.onePerGroup (k1 h)) l).onePerGroup (after.onePerGroup (k1 h)))
    · exact drainAll_books ((turn_wakeOnFrame (after.onePerGroup (k1 h.groups)) l).inOrder (after.inOrder (k2 h.inOrder)))
  · next hw =>
    refine ⟨fun h => after.onePerGroup (k1 h), fun h => (books_iff _).mpr ?_⟩
    obtain ⟨h1, h2, h3⟩ := after.inOrder (k2 h.inOrder)
    exact ⟨h1, h2, h3, waitingLink_none hw⟩

theorem keeps_parkEntry (s : State) : Keeps s s.parkEntry := by
  unfold State.parkEntry
  split
  · exact (Turn.refl s).keeps
  · split
    · exact keeps_drained (NoNew.onePerGroup (.of_opt rfl))
        (fun h => inOrder_congr h rfl rfl rfl rfl (short_congr h.2.2 rfl rfl))
    · exact keeps_goParked s

/-! ### Resets -/

theorem boot_opAt (pending : List Instr) (now draws : Nat) (cause : RestartCause) (items : Items) (source : ItemSource)
    (image : Image) (sl : Slot) : (State.boot pending now draws cause items source image).opAt sl = none := by
  revert sl
  show ∀ sl : Slot, (Opt.reset).slots.get sl = none
  decide

/-- After a reset the books agree, whatever items it loaded. -/
theorem boot_books (pending : List Instr) (now draws : Nat) (cause : RestartCause) (items : Items) (source : ItemSource)
    (image : Image) : (State.boot pending now draws cause items source image).Books := by
  have none := boot_opAt pending now draws cause items source image
  generalize hs : State.boot pending now draws cause items source image = s at none
  have empty : ∀ {sl : Slot} {o : Op}, s.opAt sl = some o → False := fun ho => by rw [none] at ho; cases ho
  have queue : s.sta.queue = [] := by rw [← hs]; rfl
  have list : s.opt.endedList = [] := by rw [← hs]; rfl
  have sums : s.sta.resSum = 0 ∧ s.sta.normalSum = 0 := by rw [← hs]; exact ⟨rfl, rfl⟩
  have idle : s.anyNonEnded = false := by
    have : s.findSlot (fun o => !o.state.isEnded) = Option.none := findSlot_none.mpr (fun sl o ho => (empty ho).elim)
    simp [State.anyNonEnded, this]
  have free : ∀ g : Group, s.claimOf g = .free := by
    intro g
    rw [← hs]
    show Liu.reset.claims.get g.idx = .free
    generalize g.idx = i
    revert i; decide
  have buffers : ∀ l, (s.link l).buffer = [] := by intro l; rw [← hs]; cases l <;> rfl
  have still : ∀ g, ¬ s.moves g := fun g ⟨_, _, ho, _⟩ => empty ho
  refine ⟨fun sl k o ho => (empty ho).elim, ?_, ?_, fun sl k o ho => (empty ho).elim, ?_, fun sl o ho => (empty ho).elim,
    ⟨?_, ?_⟩, ?_, ?_, ?_, ?_, ?_, fun g => ?_, fun l => ?_⟩
  · rw [← hs]
    show 240 ≤ Opt.reset.internalTag ∧ Opt.reset.internalTag ≤ 255
    decide
  · rw [list]
    exact ⟨.nil, fun x => ⟨fun h => absurd h List.not_mem_nil, fun ⟨sl, o, ho, _⟩ => (empty ho).elim⟩⟩
  · rw [normalCount_eq]; simp [none, counts]
  · rw [sums.1, reserved_idle idle]
  · rw [sums.2, reserved_idle idle]
  · rw [sums.1, sums.2]; exact ⟨Nat.zero_le _, Nat.zero_le _⟩
  · rw [queue]
    exact ⟨.nil, fun sl => ⟨fun h => absurd h List.not_mem_nil, fun ⟨o, ho, _⟩ => (empty ho).elim⟩⟩
  · rw [queue]; exact .nil
  · intro sl behind hq; rw [queue] at hq; cases hq
  · rw [frame_iff]; exact fun hj => absurd hj (still _)
  · rw [claimLaw_iff, free]; simp
  · rw [buffers]; exact ⟨Nat.zero_le _, fun _ => rfl⟩

theorem keeps_restart (s : State) (cause : RestartCause) : Keeps s (s.restart cause) :=
  ⟨fun _ => (boot_books _ _ _ _ _ _ _).groups, fun _ => boot_books _ _ _ _ _ _ _⟩

/-! ### The ends of replies and stores, the two silences -/

theorem keeps_replyEnded (s : State) (l : Link) : Keeps s (s.replyEnded l) := by
  unfold State.replyEnded
  split
  · exact (Turn.refl s).keeps
  · next r rest _ =>
    have sent := (quiet_modLink s l (f := fun u => { u with replies := rest }) (fun _ => rfl)).turn.keeps
    dsimp only
    split
    · exact sent
    · exact sent.trans (keeps_parkEntry _)
    · exact sent.trans (keeps_restart _ _)

/-- A store ends: its record of the image, the end of the event, its reply. -/
theorem storeEnd_kept {s u : State} (x : Ist) (hx : x.items = s.ist.items) (q : Quiet { s with ist := x } u)
    (l : Link) (k o : Byte) (d : List Byte) (a : After) : Keeps s (u.settle.pushReply l k o d a).drainAll := by
  have after : Turn { s with ist := x } (u.settle.pushReply l k o d a) :=
    (turn_settle q.deeds).trans (quiet_pushReply _ l k o d a).turn
  refine keeps_drained (fun h => after.onePerGroup (NoNew.onePerGroup (.of_opt rfl) h)) (fun h => after.inOrder ?_)
  exact inOrder_congr h rfl rfl rfl hx (short_congr h.2.2 rfl rfl)

theorem keeps_storeEnded (s : State) (readBack : Option Image) : Keeps s (s.storeEnded readBack) := by
  unfold State.storeEnded
  split
  · exact (Turn.refl s).keeps
  · dsimp only
    split
    · exact storeEnd_kept { s.ist with storing := none, image := readBack.getD s.items.image, source := .image } rfl
        (.refl _) _ _ _ _ _
    · exact storeEnd_kept { s.ist with storing := none, image := readBack.getD s.items.image } rfl quiet _ _ _ _ _

theorem turn_watchdogExpired {s : State} (h : s.onePerGroup) : Turn s s.watchdogExpired := by
  have held : Deeds s (State.holdAll { s with liu := { s.liu with watchdog := none, silent := true } }
      (fun o => o.job.origin == .link) .linkSilent) := (Acts.over .refl (acts_holdAll _ _ _) : Acts s _).deeds
  unfold State.watchdogExpired
  dsimp only
  split
  · split
    · exact turn_settle (held.trans (deeds_createStow (Deeds.onePerGroup held h)))
    · exact turn_settle held
  · exact .refl s

theorem quiet_raise (s : State) (c : Category) : Quiet s (s.raise c) := quiet

theorem turn_silenceExpired (s : State) : Turn s s.silenceExpired := by
  have freed : Acts s { s with liu := { s.liu with claims := Bank.fill 6 .free } } := by
    refine (Act.unclaim (fun g => Or.inl ?_)).acts
    generalize g.idx = i
    revert i; decide
  unfold State.silenceExpired
  refine turn_if (turn_settle (Acts.deeds ?_))
  refine Relation.ReflTransGen.trans ?_ (quiet_raise _ _).acts
  refine Relation.ReflTransGen.trans (freed.trans ?_) (acts_cancelAll _ _ _)
  exact acts_quiet

end Sys2Proof.Machine
end

section
namespace Sys2Proof.Machine

-- One declaration at a time, so that the memory the check takes stays small.
set_option Elab.async false

/-! ### Every command -/

/-- A command's next state is one that keeps one operation of a group, and the books. -/
def ExecKeeps (c : Instr) (s : State) : Prop := ∃ t, exec c s = .next t ∧ Keeps s t

/-- A command that acts on a running timer, or not at all. -/
theorem keeps_ifSettled {s t : State} {c : Prop} [Decidable c] (h : Deeds s t) : Keeps s (if c then t.settle else s) :=
  (turn_if (turn_settle h)).keeps

theorem keeps_unlessSettled {s t : State} {c : Prop} [Decidable c] (h : Deeds s t) : Keeps s (if c then s else t.settle) := by
  split
  · exact (Turn.refl s).keeps
  · exact (turn_settle h).keeps

theorem acts_sampleAttitude (s : State) (ready : Byte) (a b : Word) : Acts s (s.sampleAttitude ready a b) := by
  have told : ∀ (t : State) (c : Prop) [Decidable c], Quiet t (if c then t else t.raiseAttitude 0x08#8) :=
    fun t _ _ => quiet_ite (.refl t) quiet
  have drift : ∀ t : State, Quiet t t.evalDrift := by
    intro t
    unfold State.evalDrift
    split
    · split
      · exact quiet
      · exact .refl t
    · exact .refl t
  have tail : ∀ (t : State) (c d : Prop) [Decidable c] [Decidable d],
      Acts t (if d then (if c then t.touchdownAttitude else t).evalDrift else if c then t.touchdownAttitude else t) := by
    intro t c d _ _
    have down : Acts t (if c then t.touchdownAttitude else t) := acts_if (acts_touchdownAttitude t)
    exact acts_ite (down.trans (drift _).acts) down
  exact (Quiet.trans (quiet : Quiet s { s with atu := _ }) (told _ _)).acts.trans (tail _ _ _)

theorem quiet_declareDrift (s : State) : Quiet s s.declareDrift := quiet

theorem quiet_endLockout (s : State) : Quiet s s.endLockout := quiet

theorem deeds_jacksTimeout (s : State) (t : JackTimers) (r : Result) :
    Deeds s (State.jacksTimeout { s with lvc := { s.lvc with timers := t } } r) :=
  (quiet_lvc s _).deeds.trans (acts_jacksTimeout _ r).deeds

theorem execKeeps (c : Instr) {s : State} (h : s.onePerGroup) : ExecKeeps c s := by
  cases c with
  | ident l p => exact ⟨_, rfl, keeps_read h l _ p (fun t => quiet_read t p _)⟩
  | status l p => exact ⟨_, rfl, keeps_read h l _ p (fun t => quiet_read t p _)⟩
  | submit l p => exact ⟨_, rfl, keeps_request h l _ p (fun t => (turn_handleSubmit t l p).served)⟩
  | stop l p => exact ⟨_, rfl, keeps_request h l _ p (fun t => (turn_handleStop t l p).served)⟩
  | haltAll l p => exact ⟨_, rfl, keeps_request h l _ p (fun t => (turn_handleHaltAll t l p).served)⟩
  | resume l p => exact ⟨_, rfl, keeps_request h l _ p (fun t => (turn_handleResume t l p).served)⟩
  | dismiss l p => exact ⟨_, rfl, keeps_request h l _ p (fun t => (turn_handleDismiss t l p).served)⟩
  | readOp l p => exact ⟨_, rfl, keeps_read h l _ p (fun t => quiet_handleReadOp t l p)⟩
  | listOps l p => exact ⟨_, rfl, keeps_read h l _ p (fun t => quiet_read t p _)⟩
  | readChanges l p => exact ⟨_, rfl, keeps_read h l _ p (fun t => quiet_handleReadChanges t l p)⟩
  | readFaults l p => exact ⟨_, rfl, keeps_read h l _ p (fun t => quiet_handleReadFaults t l p)⟩
  | readAttitude l p => exact ⟨_, rfl, keeps_read h l _ p (fun t => quiet_read t p _)⟩
  | readInputs l p => exact ⟨_, rfl, keeps_read h l _ p (fun t => quiet_handleReadInputs t l p)⟩
  | readMotion l p => exact ⟨_, rfl, keeps_read h l _ p (fun t => quiet_handleReadMotion t l p)⟩
  | readWind l p => exact ⟨_, rfl, keeps_read h l _ p (fun t => quiet_read t p _)⟩
  | setItem l p => exact ⟨_, rfl, keeps_request h l _ p (fun t => served_handleSetItem t l p)⟩
  | getItem l p => exact ⟨_, rfl, keeps_read h l _ p (fun t => quiet_handleGetItem t l p)⟩
  | storeItems l p => exact ⟨_, rfl, keeps_request h l _ p (fun t => served_handleStoreItems t l p)⟩
  | setReference l p => exact ⟨_, rfl, keeps_request h l _ p (fun t => served_handleSetReference t l p)⟩
  | setNoticeMask l p => exact ⟨_, rfl, keeps_read h l _ p (fun t => quiet_handleSetNoticeMask t l p)⟩
  | postNotice l p => exact ⟨_, rfl, keeps_read h l _ p (fun t => quiet_handlePostNotice t l p)⟩
  | park l p => exact ⟨_, rfl, keeps_request h l _ p (fun t => served_handlePark t l p)⟩
  | restart l p => exact ⟨_, rfl, keeps_read h l _ p (fun t => quiet_handleRestart t l p)⟩
  | claim l p => exact ⟨_, rfl, keeps_request h l _ p (fun t => (turn_handleClaim t l p).served)⟩
  | release l p => exact ⟨_, rfl, keeps_request h l _ p (fun t => (turn_handleRelease t l p).served)⟩
  | unknownKind l kind p => exact ⟨_, rfl, keeps_read h l kind p (fun t => .refl t)⟩
  | receiveByte l b => exact ⟨_, rfl, keeps_receiveByte h l b⟩
  | gapTimerExpiry l =>
    refine ⟨_, rfl, (turn_if (Quiet.turn ?_)).keeps⟩
    exact ((quiet_modLink s l (f := fun u => { u with assembler := .hunt, gap := none }) (fun _ => rfl)).trans
      (quiet_linkError _ l)).trans (quiet_sync _)
  | wakeOnFrameStart l => exact ⟨_, rfl, (turn_wakeOnFrame h l).keeps⟩
  | replySent l => exact ⟨_, rfl, keeps_replyEnded s l⟩
  | reset cause => exact ⟨_, rfl, keeps_restart s _⟩
  | storeEnd readBack => exact ⟨_, rfl, keeps_storeEnded s readBack⟩
  | watchdogExpiry => exact ⟨_, rfl, (turn_watchdogExpired h).keeps⟩
  | serviceSilenceExpiry => exact ⟨_, rfl, (turn_silenceExpired s).keeps⟩
  | staggerExpiry =>
    have stopped : Act s { s with sta := { s.sta with stagger := none } } := .monitor rfl rfl rfl
    exact ⟨_, rfl, keeps_ifSettled stopped.acts.deeds⟩
  | supplySample tenths => exact ⟨_, rfl, (turn_settle (acts_sampleSupply s tenths).deeds).keeps⟩
  | holdTimerExpiry => exact ⟨_, rfl, keeps_ifSettled (acts_holdTimerExpired s).deeds⟩
  | attitudeSample ready a b => exact ⟨_, rfl, keeps_unlessSettled (acts_sampleAttitude s ready a b).deeds⟩
  | driftTimerExpiry => exact ⟨_, rfl, keeps_ifSettled ((quiet_declareDrift s).deeds.trans (deeds_relevel _))⟩
  | jackSample readings => exact ⟨_, rfl, keeps_unlessSettled (acts_sampleJacks s readings).deeds⟩
  | contactTimerExpiry j =>
    have touched : Quiet s (s.modJack j (fun u => { u with contact := true, contactTimer := none })) := quiet
    exact ⟨_, rfl, keeps_ifSettled (touched.deeds.trans (acts_jackContact _ j).deeds)⟩
  | pumpRampTick => exact ⟨_, rfl, (turn_settle (acts_pumpTick s).deeds).keeps⟩
  | groundTimerExpiry => exact ⟨_, rfl, keeps_ifSettled (deeds_jacksTimeout s _ _)⟩
  | settleTimerExpiry => exact ⟨_, rfl, keeps_ifSettled (acts_settleExpired s).deeds⟩
  | liftTimerExpiry => exact ⟨_, rfl, keeps_ifSettled (deeds_jacksTimeout s _ _)⟩
  | touchdownTimerExpiry => exact ⟨_, rfl, keeps_ifSettled (deeds_jacksTimeout s _ _)⟩
  | stowTimerExpiry => exact ⟨_, rfl, keeps_ifSettled (deeds_jacksTimeout s _ _)⟩
  | jackJogTimerExpiry => exact ⟨_, rfl, keeps_ifSettled (deeds_jacksTimeout s _ _)⟩
  | roomHallPulse ch => exact ⟨_, rfl, (turn_settle (acts_roomPulse s _ _).deeds).keeps⟩
  | roomTick n a b => exact ⟨_, rfl, (turn_settle (quiet_tickRoom s n a b).deeds).keeps⟩
  | roomBreakawayExpiry n late =>
    refine ⟨_, rfl, ?_⟩
    cases late
    · exact keeps_ifSettled (acts_breakawayExpired s n).deeds
    · exact keeps_ifSettled (quiet_lateBreakawayExpired s n).deeds
  | roomStallWindowExpiry n => exact ⟨_, rfl, keeps_ifSettled (quiet_stallExpired s n).deeds⟩
  | roomJogTimerExpiry n => exact ⟨_, rfl, keeps_ifSettled (quiet_roomJogExpired s n).deeds⟩
  | roomCoastExpiry ch => exact ⟨_, rfl, keeps_ifSettled (acts_roomCoastExpired s _ _).deeds⟩
  | awningHallPulse => exact ⟨_, rfl, (turn_settle (acts_awningPulse s).deeds).keeps⟩
  | awningTick amps => exact ⟨_, rfl, (turn_settle (quiet_tickAwning s amps).deeds).keeps⟩
  | awningBreakawayExpiry => exact ⟨_, rfl, keeps_ifSettled (quiet_awningBreakawayExpired s).deeds⟩
  | awningStallWindowExpiry => exact ⟨_, rfl, keeps_ifSettled (quiet_awningStallExpired s).deeds⟩
  | awningJogTimerExpiry => exact ⟨_, rfl, keeps_ifSettled (quiet_awningJogExpired s).deeds⟩
  | awningCoastExpiry => exact ⟨_, rfl, keeps_ifSettled (acts_awningCoastExpired s).deeds⟩
  | windPulse => exact ⟨_, rfl, (quiet : Quiet s _).turn.keeps⟩
  | windGateEnd => exact ⟨_, rfl, keeps_ifSettled (deeds_endGate h)⟩
  | lockoutExpiry => exact ⟨_, rfl, keeps_ifSettled (quiet_endLockout s).deeds⟩
  | inputSample levels => exact ⟨_, rfl, keeps_unlessSettled (quiet_sampleInputs s levels).deeds⟩
  | debounceExpiry i => exact ⟨_, rfl, keeps_ifSettled (deeds_debounceExpired h i)⟩
  | firstDebounceExpiry i => exact ⟨_, rfl, keeps_ifSettled (quiet_firstDebounceExpired s i).deeds⟩
  | faultTimerExpiry i => exact ⟨_, rfl, keeps_ifSettled (quiet_faultExpired s i).deeds⟩
  | idleTimerExpiry =>
    refine ⟨_, rfl, ?_⟩
    split
    · exact keeps_goParked s
    · exact (Turn.refl s).keeps
  | parkPoll levels => exact ⟨_, rfl, keeps_ifSettled (deeds_pollInputs h levels)⟩
  | thermalSample x => exact ⟨_, rfl, (Quiet.trans quiet (quiet_sync _)).turn.keeps⟩
  | bridgeFaultSample b =>
    refine ⟨_, rfl, ?_⟩
    split
    · exact (Turn.refl s).keeps
    · exact (Quiet.trans quiet (quiet_sync _)).turn.keeps

/-- What the queue of commands and the clock hold concerns neither the operations nor the links. -/
theorem keeps_front {s u t : State} (q : Quiet s u) (h : s.onePerGroup) {c : Instr} (ht : exec c u = .next t) : Keeps s t := by
  obtain ⟨t', ht', k⟩ := execKeeps c (NoNew.onePerGroup (.of_opt q.table) h)
  rw [ht] at ht'
  cases ht'
  exact q.turn.keeps.trans k

theorem step_keeps {s t : State} (h : s.onePerGroup) (ht : step s = .next t) : Keeps s t := by
  unfold step at ht
  split at ht
  · exact keeps_front quiet h ht
  · split at ht
    · exact keeps_front (.refl s) h ht
    · cases ht
      exact (quiet : Quiet s s.tick).turn.keeps

/-- Settles O7: what an event does is made of acts, and only an admission, which its group's being free guards (R10), brings
an operation. -/
theorem stepKeepsOnePerGroup : Obligations.StepKeepsOnePerGroup :=
  fun _ _ h ht => (step_keeps h ht).groups h

/-- Settles O8: each act of an event keeps the books but for the wait reasons, which its end writes, and the buffers, which
it drains. -/
theorem stepKeepsBooks : Obligations.StepKeepsBooks :=
  fun _ _ h ht => (step_keeps h.groups ht).books h

end Sys2Proof.Machine
end

section
namespace Sys2Proof.Machine

-- One declaration at a time, so that the memory the check takes stays small.
set_option Elab.async false

/-! ### The state after a reset -/

theorem reset_opAt (sl : Slot) : State.reset.opAt sl = none := boot_opAt _ _ _ _ _ _ _ sl

theorem reset_allEnded : State.reset.allEnded := fun sl o ho => by
  rw [reset_opAt] at ho
  exact absurd ho (by simp)

theorem reset_deEnergised : State.reset.deEnergised := by
  refine ⟨fun n m => ?_, rfl, rfl, fun j => ?_⟩
  · have : State.reset.roomUnit n = RoomUnit.reset := by revert n; decide +kernel
    rw [this]; cases m <;> rfl
  · revert j; decide +kernel

theorem reset_guarded : State.reset.Guarded := by
  obtain ⟨rooms, awning, pump, valves⟩ := reset_deEnergised
  refine ⟨fun n m h => ?_, fun h => ?_, fun _ => rfl, fun h => ?_, fun h => ?_, fun j h => ?_, fun h => ?_, fun g h => ?_,
    fun _ => ?_, fun _ => ⟨reset_allEnded, reset_deEnergised⟩, fun _ => reset_allEnded, fun h => ?_, fun _ => reset_allEnded, fun h => ?_⟩
  · rw [rooms] at h; cases h
  · rw [awning] at h; cases h
  · rcases h with h | ⟨j, h | h⟩
    · exact absurd pump h
    · rw [(valves j).1] at h; cases h
    · rw [(valves j).2] at h; cases h
  · cases h
  · rw [(valves j).2] at h; cases h
  · rw [awning] at h; cases h
  · have : ∀ i, Clm.reset.ordered.get i = false := by decide
    rw [show State.reset.clm = Clm.reset from rfl, this] at h; cases h
  · decide +kernel
  · cases h
  · cases h

/-- Settles O6: a reset fills every block afresh, and frees every slot. -/
theorem resetMeetsInvariants : Obligations.ResetMeetsInvariants :=
  ⟨by decide +kernel, rfl, rfl, (boot_books _ _ _ _ _ _ _).groups, reset_opAt, boot_books _ _ _ _ _ _ _, reset_guarded,
    reset_deEnergised⟩

end Sys2Proof.Machine
end

section
namespace Sys2Proof.Machine

-- One declaration at a time, so that the memory the check takes stays small.
set_option Elab.async false

/-! ### A JACK_JOG without a direction

The books do not say that a JACK_JOG names a direction (R9 asks it of a SUBMIT only). One without retracts its jack, though no
operation that retracts runs. -/

/-- A JACK_JOG of the first jack that names no direction. -/
def aimlessJog : Op :=
  { tag := 33
    job := { kind := .jackJog, group := .jacks, sub := some 0, dir := none, value := some 500, origin := .link
             bestEffort := false, override := false }
    state := .admitted .stagger, pass := 0, admission := 1, reservation := 0, resumed := false }

/-- A part that has started up, every input closed, its coach record not yet derived. -/
def startedPart : State :=
  { State.reset with
    pending := [.staggerExpiry]
    opt := { Opt.reset with slots := Opt.reset.slots.set 0 (some aimlessJog) }
    sta := { Sta.reset with queue := [0], stagger := some 0, supply := .normal }
    inm := { Inm.reset with
      notReady := false
      inputs := Bank.fill 24 { InputUnit.reset with debounced := some .closed, firstDone := true } } }

/-- The part with the jog waiting for the stagger timer, whose expiry comes next. -/
def aimlessWait : State := { startedPart with inm := { startedPart.inm with coach := startedPart.coachNow } }

/-- The part after that expiry. -/
def aimlessRun : State := { { aimlessWait with pending := [] } with sta := { aimlessWait.sta with stagger := none } }.settle

theorem aimlessWait_step : step aimlessWait = .next aimlessRun := rfl

theorem aimlessWait_opAt (sl : Slot) : aimlessWait.opAt sl = if sl = 0 then some aimlessJog else none := by
  revert sl; decide +kernel

theorem aimlessWait_only {sl : Slot} {o : Op} (h : aimlessWait.opAt sl = some o) : sl = 0 ∧ o = aimlessJog := by
  rw [aimlessWait_opAt] at h
  split at h
  · next e => exact ⟨e, (Option.some.inj h).symm⟩
  · cases h

theorem aimlessWait_books : aimlessWait.Books := by
  have self : aimlessWait.opAt 0 = some aimlessJog := by rw [aimlessWait_opAt, if_pos rfl]
  have idle : ∀ sl p, share p (aimlessWait.opAt sl) = 0 := by
    intro sl p
    rw [aimlessWait_opAt]
    split
    · exact share_idle rfl
    · rfl
  have still : ∀ g, ¬ aimlessWait.moves g := by
    rintro g ⟨sl, o, ho, _, ha⟩
    obtain ⟨-, rfl⟩ := aimlessWait_only ho
    cases ha
  have none : ∀ p, aimlessWait.reserved p = 0 := fun p => by rw [reserved_eq]; simp [idle]
  refine ⟨fun sl k o ho p hp _ => ?_, by decide, ⟨.nil, fun x => ⟨fun h => absurd h List.not_mem_nil, ?_⟩⟩,
    fun sl k o ho p hp _ _ _ => ?_, ?_, fun sl o ho => ?_, ⟨(none _).symm, (none _).symm⟩, ⟨Nat.zero_le _, Nat.zero_le _⟩,
    ⟨List.nodup_singleton _, fun sl => ?_⟩, List.pairwise_singleton _ _, ?_, ?_, fun g => ?_, fun l => ?_⟩
  · exact (aimlessWait_only ho).1.trans (aimlessWait_only hp).1.symm
  · rintro ⟨sl, o, ho, he, _⟩
    obtain ⟨-, rfl⟩ := aimlessWait_only ho
    cases he
  · exact (aimlessWait_only ho).1.trans (aimlessWait_only hp).1.symm
  · decide +kernel
  · obtain ⟨-, rfl⟩ := aimlessWait_only ho
    rfl
  · constructor
    · intro h
      exact ⟨aimlessJog, by rw [List.mem_singleton.mp h]; exact self, rfl⟩
    · rintro ⟨o, ho, _⟩
      exact List.mem_singleton.mpr (aimlessWait_only ho).1
  · intro sl behind hq
    cases hq
    exact ⟨⟨aimlessJog, .stagger, self, rfl, by decide +kernel⟩, fun k hk => absurd hk List.not_mem_nil⟩
  · rw [frame_iff]
    exact fun hj => absurd hj (still _)
  · have free : aimlessWait.claimOf g = .free := (by decide : ∀ i, Liu.reset.claims.get i = .free) g.idx
    rw [claimLaw_iff, free]
    simp
  · cases l <;> exact ⟨Nat.zero_le _, fun _ => rfl⟩

theorem aimlessWait_guarded : aimlessWait.Guarded := by
  have rooms : ∀ n m, ((aimlessWait.roomUnit n).motor m).driven = false := reset_deEnergised.1
  have valves : ∀ j, (aimlessWait.jack j).extending = false ∧ (aimlessWait.jack j).retracting = false := reset_deEnergised.2.2.2
  refine ⟨fun n m h => ?_, fun h => ?_, fun _ => rfl, fun h => ?_, fun h => ?_, fun j h => ?_, fun h => ?_, fun g h => ?_,
    fun _ => ?_, fun h => ?_, fun h => ?_, fun _ => ?_, fun h => ?_, fun h => ?_⟩
  · rw [rooms] at h; cases h
  · cases h
  · rcases h with h | ⟨j, h | h⟩
    · exact absurd rfl h
    · rw [(valves j).1] at h; cases h
    · rw [(valves j).2] at h; cases h
  · cases h
  · rw [(valves j).2] at h; cases h
  · cases h
  · have := (by decide : ∀ i, Clm.reset.ordered.get i = false) g.idx
    rw [show aimlessWait.clm = Clm.reset from rfl, this] at h; cases h
  · decide +kernel
  · exact absurd h (by decide +kernel)
  · cases h
  · decide +kernel
  · cases h
  · cases h

/-- The jog runs and its jack's retract valve is open. -/
theorem aimlessRun_retracts : (aimlessRun.jack 0).retracting = true
    ∧ (aimlessRun.runningOp .jacks).map (fun p => p.2.retracts) = some false := by
  decide +kernel

/-- Refutes O9: a JACK_JOG without a direction, which `Books` and `Guarded` allow, opens its jack's retract valve at its grant,
though it is no operation that retracts. -/
theorem not_stepKeepsInterlocks : ¬ Obligations.StepKeepsInterlocks := by
  intro h
  obtain ⟨valve, run⟩ := aimlessRun_retracts
  obtain ⟨sl, o, ho, _, hr, _⟩ := (h _ _ aimlessWait_books aimlessWait_guarded aimlessWait_step).retract 0 valve
  rw [ho] at run
  simp [hr] at run

end Sys2Proof.Machine
end

section
namespace Sys2Proof.Machine

-- One declaration at a time, so that the memory the check takes stays small.
set_option Elab.async false

/-! ### Plain and selective reads -/

/-- Any request that a handler accepts, the state left. -/
theorem read_answers {s : State} {l : Link} (h : s.takes l) {kind : Byte} {p data : List Byte} {f : Handler}
    (hf : f s l p = (s, Answer.ok data)) : s.request l kind p f = s.pushReply l kind 0 data .nothing := by
  rw [request_taken h, serve_eq hf]
  rfl

/-- A request that a handler refuses, the state left. -/
theorem request_refused {s : State} {l : Link} (h : s.takes l) {kind : Byte} {p : List Byte} {f : Handler} {r : Refuse}
    (hf : f s l p = (s, .refused r)) : s.request l kind p f = s.pushReply l kind (BitVec.ofNat 8 r.code) [] .nothing := by
  rw [request_taken h, serve_eq hf]
  rfl

theorem byte_ofNat_toNat (b : Byte) : BitVec.ofNat 8 b.toNat = b := by simp

theorem out16_num16 (lo hi : Byte) : out16 (num16 lo hi) = [lo, hi] := by
  unfold out16 num16
  refine congrArg₂ (fun a b => [a, b]) (BitVec.eq_of_toNat_eq ?_) (BitVec.eq_of_toNat_eq ?_)
  · simp; omega
  · simp; omega

theorem revisionLetter_toNat :
    (BitVec.ofNat 8 (65 + Config.revisionLetter.val) : Byte).toNat = 65 + Config.revisionLetter.val := by
  have := Config.revisionLetter.isLt
  rw [BitVec.toNat_ofNat]
  omega

/-- Settles O14: each handler answers its record and leaves the state as it was. -/
theorem plainReadsAnswer : Obligations.PlainReadsAnswer := by
  intro s l h
  refine ⟨⟨BitVec.ofNat 8 (65 + Config.revisionLetter.val), ?_, ?_, ?_⟩, ?_, ?_, ?_, ?_⟩
  · rw [revisionLetter_toNat]; omega
  · rw [revisionLetter_toNat]; have := Config.revisionLetter.isLt; omega
  · exact congrArg _ (read_answers h (f := handleIdent) rfl)
  · exact congrArg _ (read_answers h (f := handleStatus) rfl)
  · exact congrArg _ (read_answers h (f := handleListOps) rfl)
  · exact congrArg _ (read_answers h (f := handleReadAttitude) rfl)
  · exact congrArg _ (read_answers h (f := handleReadWind) rfl)

end Sys2Proof.Machine
end

section
namespace Sys2Proof.Machine

-- One declaration at a time, so that the memory the check takes stays small.
set_option Elab.async false

/-! ### The fields of a record (R173) -/

@[simp] theorem out8_length (n : Nat) : (out8 n).length = 1 := by simp [out8]

@[simp] theorem out16_length (n : Nat) : (out16 n).length = 2 := by simp [out16]

@[simp] theorem out32_length (n : Nat) : (out32 n).length = 4 := by simp [out32]

@[simp] theorem out24_length (v : BitVec 24) : (out24 v).length = 3 := by simp [out24]

@[simp] theorem outInt16_length (x : Int) : (outInt16 x).length = 2 := by simp [outInt16, out16]

@[simp] theorem outInt32_length (x : Int) : (outInt32 x).length = 4 := by simp [outInt32, out32]

@[simp] theorem outBool_length (b : Bool) : (outBool b).length = 1 := by simp [outBool, out8]

/-- A field that may be absent holds its presence byte and its room. -/
theorem outOpt_length {n : Nat} {x : Option (List Byte)} (h : ∀ l, x = some l → l.length = n) :
    (outOpt n x).length = n + 1 := by
  cases x with
  | none => simp [outOpt]; omega
  | some l => simp [outOpt, h l rfl]; omega

theorem outOpt_none (n : Nat) : outOpt n none = List.replicate (n + 1) 0 := by
  simp [outOpt, out8, List.replicate_succ]

theorem outOpt_some (n : Nat) (l : List Byte) : outOpt n (some l) = 1 :: l := rfl

@[simp] theorem padTo_length {n : Nat} {l : List Byte} (h : l.length ≤ n) : (padTo n l).length = n := by
  simp [padTo, h]

/-- A place beyond the first field lies in the rest. -/
@[simp] theorem drop_beyond {α : Type} {a b : List α} {i : Nat} (h : a.length ≤ i) : (a ++ b).drop i = b.drop (i - a.length) := by
  rw [List.drop_append, List.drop_of_length_le h, List.nil_append]

/-- A part that holds the first field whole begins with it. -/
@[simp] theorem take_whole {α : Type} {a b : List α} {k : Nat} (h : a.length ≤ k) : (a ++ b).take k = a ++ b.take (k - a.length) := by
  rw [List.take_append, List.take_of_length_le h]

@[simp] theorem Dest.write_length (d : Dest) : d.write.length = 2 := by cases d <;> simp [Dest.write]

@[simp] theorem Remaining.write_length (r : Remaining) : r.write.length = 4 := by cases r <;> simp [Remaining.write, padTo]


@[simp] theorem outOpt_map_length {α : Type} {n : Nat} {f : α → List Byte} {x : Option α} (h : ∀ a, (f a).length = n) :
    (outOpt n (x.map f)).length = n + 1 := by
  cases x <;> simp [outOpt, h, Nat.add_comm]

@[simp] theorem Coach.write_length (c : Coach) : c.write.length = 6 := by simp [Coach.write]

@[simp] theorem outAngle_length (x : Option Int) : (outAngle x).length = 3 := by simp [outAngle]

@[simp] theorem Op.listEntry_length (sl : Slot) (o : Op) : (o.listEntry sl).length = 10 := by simp [Op.listEntry]

@[simp] theorem Op.write_length (o : Op) : o.write.length = 38 := by
  simp only [Op.write, List.flatten_cons, List.flatten_nil, List.length_append, List.length_nil, out8_length, out16_length,
    outOpt_map_length, Dest.write_length, Remaining.write_length, implies_true]

@[simp] theorem State.inputRecord_length (s : State) (i : Input) : (s.inputRecord i).length = 6 := by
  simp [State.inputRecord]

@[simp] theorem State.jackRecord_length (s : State) (j : Jack) : (s.jackRecord j).length = 9 := by
  unfold State.jackRecord
  split
  · simp
  · simp

@[simp] theorem State.motorRecord_length (s : State) (n : Room) (m : MotorId) : (s.motorRecord n m).length = 13 := by
  unfold State.motorRecord
  split
  · simp [outOpt_some]
  · simp [outOpt_none]

@[simp] theorem State.syncFields_length (s : State) (n : Room) : (s.syncFields n).length = 8 := by
  by_cases both : (s.items.room.motors.get n == 2 && (s.roomUnit n).a.driven && (s.roomUnit n).b.driven) = true
  · simp [State.syncFields, both, outOpt_some]
  · simp [State.syncFields, both, outOpt_none]

@[simp] theorem State.drivePhase_length (s : State) (g : Group) (x y : Nat) : (s.drivePhase g x y).length = 8 := by
  have phase : (outOpt 1 ((s.activeOp g).bind (fun p => p.2.state.phase.map (fun f => out8 f.code)))).length = 2 := by
    cases s.activeOp g with
    | none => simp [outOpt_none]
    | some p => simp
  simp [State.drivePhase, phase]

@[simp] theorem State.entryRecord_length (s : State) (k : Entry) : (s.entryRecord k).length = 5 := by
  simp [State.entryRecord]

/-! ### Lists of records of one width -/

section
variable {α β : Type} {f : α → List β} {w : Nat}

theorem flatMap_length_of_width (hf : ∀ a, (f a).length = w) (l : List α) : (l.flatMap f).length = w * l.length := by
  induction l with
  | nil => rfl
  | cons a l ih => rw [List.flatMap_cons, List.length_append, hf, ih, List.length_cons, Nat.mul_succ, Nat.add_comm]

/-- A part of the record at a place of the list. -/
theorem flatMap_part (hf : ∀ a, (f a).length = w) {l : List α} {i : Nat} {a : α} (ha : l[i]? = some a) {k n : Nat}
    (hk : k + n ≤ w) (rest : List β) :
    ((l.flatMap f ++ rest).drop (w * i + k)).take n = ((f a).drop k).take n := by
  induction l generalizing i with
  | nil => cases ha
  | cons b l ih =>
    cases i with
    | zero =>
      cases ha
      rw [List.flatMap_cons, List.append_assoc, Nat.mul_zero, Nat.zero_add,
        List.drop_append_of_le_length (by rw [hf]; omega),
        List.take_append_of_le_length (by rw [List.length_drop, hf]; omega)]
    | succ i =>
      rw [List.flatMap_cons, List.append_assoc, Nat.mul_succ, drop_beyond (by rw [hf]; omega), hf,
        show w * i + w + k - w = w * i + k by omega]
      exact ih ha

/-- The record at a place of the list. -/
theorem flatMap_record (hf : ∀ a, (f a).length = w) {l : List α} {i : Nat} {a : α} (ha : l[i]? = some a) (rest : List β) :
    ((l.flatMap f ++ rest).drop (w * i)).take w = f a := by
  have := flatMap_part hf ha (k := 0) (n := w) (by omega) rest
  rwa [Nat.add_zero, List.drop_zero, List.take_of_length_le (hf a).le] at this

end

section
variable {α : Type} {f : α → List Byte} {w N : Nat} {l : List α}

/-- A record of a padded list. -/
theorem padTo_record (hf : ∀ a, (f a).length = w) {i : Nat} {a : α} (ha : l[i]? = some a) (rest : List Byte) :
    ((padTo N (l.flatMap f) ++ rest).drop (w * i)).take w = f a := by
  rw [padTo, List.append_assoc]
  exact flatMap_record hf ha _

/-- The padding after the last record. -/
theorem padTo_zeros (hf : ∀ a, (f a).length = w) {i : Nat} (hi : l.length ≤ i) (hN : w * i + w ≤ N) (rest : List Byte) :
    ((padTo N (l.flatMap f) ++ rest).drop (w * i)).take w = List.replicate w 0 := by
  have whole := flatMap_length_of_width hf l
  have within : w * l.length ≤ w * i := Nat.mul_le_mul_left w hi
  generalize w * i = d at hN within ⊢
  rw [padTo, List.append_assoc, drop_beyond (by omega), whole, List.drop_append_of_le_length (by simp; omega),
    List.drop_replicate, List.take_append_of_le_length (by simp; omega), List.take_replicate, min_eq_left (by omega)]

theorem padTo_flatMap_length (hf : ∀ a, (f a).length = w) (hN : w * l.length ≤ N) : (padTo N (l.flatMap f)).length = N :=
  padTo_length (by rw [flatMap_length_of_width hf]; exact hN)

end

/-! ### Sets of bits -/

theorem getLsbD_bitAt {w n i : Nat} (hi : i < w) : (bitAt w n).getLsbD i = decide (i = n) := by
  rw [bitAt, BitVec.getLsbD_ofNat, Nat.testBit_two_pow]
  simp [hi, eq_comm]

theorem getLsbD_foldl_bitAt {α : Type} {w i : Nat} (hi : i < w) (f : α → Nat) (l : List α) (acc : BitVec w) :
    (l.foldl (fun acc a => acc ||| bitAt w (f a)) acc).getLsbD i = (acc.getLsbD i || decide (∃ a ∈ l, f a = i)) := by
  induction l generalizing acc with
  | nil => simp
  | cons a l ih =>
    rw [List.foldl_cons, ih, BitVec.getLsbD_or, getLsbD_bitAt hi, Bool.or_assoc]
    simp [eq_comm]

/-- A set of jacks has the bit of each of its jacks. -/
theorem getLsbD_jackSet (l : List Jack) (j : Jack) : (jackSet l).getLsbD j.val = decide (j ∈ l) := by
  rw [jackSet, getLsbD_foldl_bitAt (f := fun k : Jack => k.val) (by omega)]
  simp [Fin.val_inj]

end Sys2Proof.Machine
end

section
namespace Sys2Proof.Machine

-- One declaration at a time, so that the memory the check takes stays small.
set_option Elab.async false

/-! ### The record layouts -/

theorem getLsbD_bitsOf {w i : Nat} (hi : i < w) (l : List Bool) : (bitsOf w l).getLsbD i = (l[i]?).getD false := by
  have fold : ∀ (l : List Bool) (k : Nat) (acc : BitVec w),
      ((l.zipIdx k).foldl (fun acc p => if p.1 then acc ||| bitAt w p.2 else acc) acc).getLsbD i
        = (acc.getLsbD i || (decide (k ≤ i) && (l[i - k]?).getD false)) := by
    intro l
    induction l with
    | nil => simp
    | cons b l ih =>
      intro k acc
      rw [List.zipIdx_cons, List.foldl_cons, ih]
      rcases Nat.lt_trichotomy i k with before | rfl | beyond
      · have off : ¬ k ≤ i ∧ ¬ k + 1 ≤ i ∧ i ≠ k := by omega
        cases b <;> simp [getLsbD_bitAt hi, off]
      · cases b <;> simp [getLsbD_bitAt hi]
      · obtain ⟨d, rfl⟩ := Nat.exists_eq_add_of_lt beyond
        have place : k + d + 1 - k = d + 1 ∧ k + d + 1 - (k + 1) = d ∧ k ≤ k + d + 1 ∧ k + 1 ≤ k + d + 1
            ∧ k + d + 1 ≠ k := by omega
        cases b <;> simp [getLsbD_bitAt hi, place]
  simpa [bitsOf] using fold l 0 0

@[simp] theorem State.roomBytes_length (s : State) : (roomNumbers.flatMap (fun n => out8 (s.roomByte n))).length = 4 := by
  simp [roomNumbers]

theorem State.statusRecord_length (s : State) : s.statusRecord.length = 26 := by
  simp only [State.statusRecord, List.flatten_cons, List.flatten_nil, List.length_append, List.length_nil, out8_length,
    out16_length, outBool_length, outOpt_map_length, Coach.write_length, State.roomBytes_length, implies_true]

theorem roomNumbers_getElem (n : Room) : roomNumbers[n.val]? = some n := by revert n; decide

theorem jackPositions_getElem (j : Jack) : jackPositions[j.val]? = some j := by revert j; decide

theorem entryNumbers_getElem (k : Entry) : entryNumbers[k.val]? = some k := by revert k; decide

theorem inputBlock_getElem (i : Input) : (inputBlock (i.val / 8))[i.val % 8]? = some i := by revert i; decide

theorem inputBlock_length {b : Nat} (h : b ≤ 2) : (inputBlock b).length = 8 := by
  interval_cases b <;> decide

/-- The set of two flags is their sum. -/
theorem flagsByte_eq (j : Job) :
    out8 j.flagsByte = [(if j.bestEffort = true then 1 else 0) ||| (if j.override = true then 2 else 0)] := by
  unfold Job.flagsByte
  cases j.bestEffort <;> cases j.override <;> rfl

/-- A bit of a set of three bytes lies in the byte that holds it. -/
theorem out24_getLsbD (v : BitVec 24) (i : Input) :
    (((out24 v)[i.val / 8]?).getD 0).getLsbD (i.val % 8) = v.getLsbD i.val := by
  have byte : (out24 v)[i.val / 8]? = some (v.extractLsb' (8 * (i.val / 8)) 8) := by
    have : i.val / 8 = 0 ∨ i.val / 8 = 1 ∨ i.val / 8 = 2 := by omega
    rcases this with e | e | e <;> rw [e] <;> rfl
  rw [byte, Option.getD_some, BitVec.getLsbD_extractLsb']
  simp [Nat.div_add_mod, Nat.mod_lt]

theorem State.statusRecord_room (s : State) (n : Room) :
    (s.statusRecord.drop (18 + n.val)).take 1 = out8 (s.roomByte n) := by
  rw [← List.drop_drop]
  have := flatMap_record (f := fun n => out8 (s.roomByte n)) (fun _ => out8_length _) (roomNumbers_getElem n)
    (out8 s.awningByte ++ (outOpt 2 (s.awningShown.map out16) ++ []))
  simpa [State.statusRecord] using this

/-- A list in ascending order holds each of its elements behind those below it. -/
theorem getElem_below {n : Nat} {l : List (Fin n)} (h : l.Pairwise (· < ·)) {a : Fin n} (ha : a ∈ l) :
    l[(l.filter (fun k => decide (k < a))).length]? = some a := by
  induction l with
  | nil => cases ha
  | cons b l ih =>
    obtain ⟨first, rest⟩ := List.pairwise_cons.mp h
    rcases List.mem_cons.mp ha with rfl | later
    · have none : l.filter (fun k => decide (k < a)) = [] :=
        List.filter_eq_nil_iff.mpr fun k hk => by simpa using (first k hk).le
      simp [none]
    · simp [first a later, ih rest later]

/-- The slots in use, in ascending order. -/
def State.occupied (s : State) : List Slot := slots.filter (fun sl => (s.opAt sl).isSome)

/-- The LIST_OPS entry of a slot in use. -/
def State.entryOf (s : State) (sl : Slot) : List Byte := ((s.opAt sl).map (fun o => o.listEntry sl)).getD (List.replicate 10 0)

theorem State.entryOf_length (s : State) (sl : Slot) : (s.entryOf sl).length = 10 := by
  unfold State.entryOf
  cases s.opAt sl with
  | none => simp
  | some o => simp

theorem State.entryOf_some {s : State} {sl : Slot} {o : Op} (h : s.opAt sl = some o) : s.entryOf sl = o.listEntry sl := by
  rw [State.entryOf, h]; rfl

theorem State.mem_occupied {s : State} {sl : Slot} : sl ∈ s.occupied ↔ ∃ o, s.opAt sl = some o := by
  simp [State.occupied, mem_slots, Option.isSome_iff_exists]

/-- LIST_OPS: the entries of the slots in use, then the ended list (R175). -/
theorem State.listOps_eq (s : State) :
    s.listOps = out8 s.occupied.length ++ (s.occupied.flatMap s.entryOf
      ++ (out8 s.opt.endedList.length ++ padTo 4 (s.opt.endedList.flatMap out8))) := by
  have entries : ∀ l : List Slot, l.filterMap (fun sl => (s.opAt sl).map (fun o => o.listEntry sl))
      = (l.filter (fun sl => (s.opAt sl).isSome)).map s.entryOf := by
    intro l
    induction l with
    | nil => rfl
    | cons sl l ih =>
      cases h : s.opAt sl with
      | none => simp [h, ih]
      | some o => simp [h, ih, State.entryOf_some h]
  simp [State.listOps, entries, State.occupied, List.flatMap]

theorem State.occupied_ascending (s : State) : s.occupied.Pairwise (· < ·) :=
  List.Pairwise.filter _ (by decide)

/-- A part of an entry of LIST_OPS. -/
theorem State.listOps_part (s : State) {i : Nat} {sl : Slot} (h : s.occupied[i]? = some sl) (k n : Nat) (hk : k + n ≤ 10) :
    (s.listOps.drop (1 + 10 * i + k)).take n = ((s.entryOf sl).drop k).take n := by
  rw [s.listOps_eq, Nat.add_assoc, ← List.drop_drop, drop_beyond (by simp)]
  exact flatMap_part s.entryOf_length h hk _

theorem drop_getElem? {l : List Byte} {b rest : List Byte} {n k : Nat} (h : l.drop n = b ++ rest) (hk : k < b.length) :
    l[n + k]? = b[k]? := by
  rw [← List.getElem?_drop, h, List.getElem?_append_left hk]

theorem clampInt_eq {lo hi : Int} (h : lo ≤ hi) (x : Int) : clampInt lo hi x = max lo (min hi x) := by
  unfold clampInt
  split
  · omega
  · split <;> omega

theorem State.watching_iff (s : State) :
    s.watching = true ↔ s.jacksCondition = .levelled ∧ s.inm.parked = false ∧ s.atu.filtered.isSome = true := by
  simp [State.watching, State.attitudeValid, and_assoc]

theorem averageSpeed_empty : averageSpeed [] = none := rfl

theorem averageSpeed_some {l : List Nat} (h : l.length ≠ 0) : averageSpeed l = some ((l.sum + l.length / 2) / l.length) := by
  have : l ≠ [] := fun e => h (by rw [e]; rfl)
  simp [averageSpeed, this]

theorem Func.none_beq (f : Func) : (f == Func.none) = true ↔ f = .none := by
  simp

theorem State.inputsRecord_block (s : State) {b : Nat} (h : b ≤ 2) :
    s.inputsRecord b = (inputBlock b).flatMap s.inputRecord := by
  rw [State.inputsRecord, if_neg (by omega)]

theorem Motor.out8_stateCode (m : Motor) :
    out8 m.stateCode = if m.driven = true then [0] else if m.coast.isSome = true then [1] else [2] := by
  unfold Motor.stateCode
  split
  · rfl
  · split <;> rfl

theorem State.motorRecord_absent {s : State} {n : Room} {m : MotorId} (h : m ∉ s.items.motors n) :
    s.motorRecord n m = List.replicate 13 0 := by
  simp [State.motorRecord, h, outOpt_none]

theorem State.motorRecord_present {s : State} {n : Room} {m : MotorId} (h : m ∈ s.items.motors n) :
    s.motorRecord n m = 1 :: out16 ((s.roomUnit n).motor m).count ++ out16 (s.motorPosition (.room n m))
      ++ out8 (dirCode ((s.roomUnit n).motor m).dir)
      ++ (if ((s.roomUnit n).motor m).driven = true then [0]
        else if ((s.roomUnit n).motor m).coast.isSome = true then [1] else [2])
      ++ out16 ((s.roomUnit n).motor m).applied ++ out8 ((s.roomUnit n).motor m).amps ++ out8 ((s.roomUnit n).motor m).run
      ++ out16 ((s.roomUnit n).motor m).tally := by
  simp [State.motorRecord, h, outOpt_some, Motor.out8_stateCode]

/-- Both motors of a two-motor room are driven (R106). -/
def State.bothDriven (s : State) (n : Room) : Prop :=
  s.items.room.motors.get n = 2 ∧ (s.roomUnit n).a.driven = true ∧ (s.roomUnit n).b.driven = true

theorem State.syncFields_idle {s : State} {n : Room} (h : ¬ s.bothDriven n) : s.syncFields n = List.replicate 8 0 := by
  have off : (s.items.room.motors.get n == 2 && (s.roomUnit n).a.driven && (s.roomUnit n).b.driven) = false :=
    Bool.eq_false_iff.mpr fun on => h (by simpa [State.bothDriven, and_assoc] using on)
  simp [State.syncFields, off, outOpt_none]

theorem State.syncFields_driven {s : State} {n : Room} (h : s.bothDriven n) :
    s.syncFields n = (1 :: outInt32 (if (s.roomUnit n).a.dir = some .outward
        then ((s.roomUnit n).a.count : Int) - (s.roomUnit n).b.count else ((s.roomUnit n).b.count : Int) - (s.roomUnit n).a.count))
      ++ 1 :: out16 (min s.items.room.syncTrimMax ((if (s.roomUnit n).a.count < (s.roomUnit n).b.count
        then (s.roomUnit n).b.count - (s.roomUnit n).a.count else (s.roomUnit n).a.count - (s.roomUnit n).b.count)
          * s.items.room.syncGain)) := by
  have on : (s.items.room.motors.get n == 2 && (s.roomUnit n).a.driven && (s.roomUnit n).b.driven) = true := by
    simpa [State.bothDriven, and_assoc] using h
  have apart : ∀ a b : Nat, ((a : Int) - b).natAbs = if a < b then b - a else a - b := fun a b => by split <;> omega
  have apart' : ∀ a b : Nat, ((b : Int) - a).natAbs = if a < b then b - a else a - b := fun a b => by split <;> omega
  rcases e : (s.roomUnit n).a.dir with _ | _ | _
  · simp [State.syncFields, on, e, outOpt_some, apart']
  · simp [State.syncFields, on, e, outOpt_some, apart]
  · simp [State.syncFields, on, e, outOpt_some, apart']

theorem State.drivePhase_idle {s : State} {g : Group} (h : s.activeOp g = none) (x y : Nat) :
    s.drivePhase g x y = List.replicate 8 0 := by
  simp [State.drivePhase, h, outOpt_none]

theorem State.drivePhase_active {s : State} {g : Group} {sl : Slot} {o : Op} (h : s.activeOp g = some (sl, o)) (x y : Nat) :
    s.drivePhase g x y = (1 :: out16 x ++ 1 :: out16 y) ++ outOpt 1 (o.state.phase.map (fun f => out8 f.code)) := by
  simp [State.drivePhase, h, outOpt_some]

theorem liftFields_length (l : List (Jack × Nat)) : (liftFields l).length = 12 :=
  flatMap_length_of_width (fun _ => out16_length _) jackPositions

theorem State.solverSection_lifts {s : State} {r : SolverRecord} (h : s.lvc.solver = some r) {l : List (Jack × Nat)}
    {limited : Bool} (e : r.solution = .lifts l limited) :
    s.solverSection = out8 1 ++ (out8 0 ++ (outBool limited ++ (outInt16 r.pitch ++ (outInt16 r.roll ++ (out8 r.pass
      ++ liftFields l))))) := by
  simp [State.solverSection, h, e]

theorem State.solverSection_short {s : State} {r : SolverRecord} (h : s.lvc.solver = some r) {l : List Jack}
    (e : r.solution = .short l) :
    s.solverSection = out8 1 ++ (out8 1 ++ (outBool false ++ (outInt16 r.pitch ++ (outInt16 r.roll ++ (out8 r.pass
      ++ ([jackSet l] ++ List.replicate 11 0)))))) := by
  simp [State.solverSection, h, e, padTo]

/-- The first entry of a jack in a list that gives it one lift. -/
theorem find_lift {l : List (Jack × Nat)} {j : Jack} {x : Nat} (mem : (j, x) ∈ l) (one : ∀ y, (j, y) ∈ l → y = x) :
    l.find? (fun p => p.1 == j) = some (j, x) := by
  cases found : l.find? (fun p => p.1 == j) with
  | none => exact absurd (List.find?_eq_none.mp found _ mem) (by simp)
  | some p =>
    obtain ⟨k, y⟩ := p
    obtain rfl : k = j := by simpa using List.find?_some found
    rw [one y (List.mem_of_find?_eq_some found)]

/-- Settles O15: each record is its fields one after another, so that each part is the field at its place. -/
theorem recordLayouts : Obligations.RecordLayouts := by
  refine ⟨fun s => ?status, fun c => ?coach, fun o => ?op, fun s ends => ?list, fun c few => ?changes, fun f => ?faults,
    fun s => ?attitude, fun s gates => ?wind, fun s i => ?input, fun s => ?block, fun s => ?jacks, fun s n => ?room,
    fun s => ?awning, fun s k => ?entry, fun s => ?solver, ?codes⟩
  case status =>
    refine ⟨s.statusRecord_length, ?_, fun h => ?_, fun h => ?_, fun h => ?_, fun i h => ?_, fun h => ?_, ?_, ?_, ?_,
      s.statusRecord_room, ?_, fun h => ?_, fun x present h => ?_⟩
    · simp [State.statusRecord]
    · simp [State.statusRecord, h, outOpt_none]
    · simp [State.statusRecord, h, outOpt_some]; rfl
    · simp [State.statusRecord, h, outOpt_some]; rfl
    · simp [State.statusRecord, h, outOpt_some]; rfl
    · simp [State.statusRecord, h, outOpt_some]; rfl
    · simp [State.statusRecord]
    · simp [State.statusRecord]
    · simp [State.statusRecord]; rfl
    · simp [State.statusRecord]; rfl
    · have : s.awningShown = none := by
        rw [State.awningShown]; split
        · next p => exact h.resolve_left (by simp [p])
        · rfl
      simp [State.statusRecord, -List.length_flatMap, this, outOpt_none]
    · simp [State.statusRecord, -List.length_flatMap, State.awningShown, present, h, outOpt_some]
  case coach =>
    refine ⟨c.write_length, ?_, ?_, ?_, ?_, ?_⟩
    · simp [Coach.write]; cases c.brake <;> rfl
    · simp [Coach.write]
    · simp [Coach.write]; cases c.door <;> rfl
    · simp [Coach.write]; cases c.eStop <;> rfl
    · simp [Coach.write]
  case op =>
    refine ⟨o.write_length, ?_, fun h => ?_, fun j h => ?_, fun h => ?_, fun h => ?_, fun h => ?_, fun h => ?_, fun v h => ?_,
      ?_, ?_, ?_, fun w h => ?_, fun h => ?_, fun h held => ?_, fun held bound => ?_, fun r ph h => ?_, fun x ph h => ?_,
      fun h => ?_, fun h => ?_, fun ph h => ?_, ?_, ?_, fun h => ?_, fun r rem n h => ?_⟩
    · simp [Op.write]
    · simp [Op.write, h, outOpt_none]
    · simp [Op.write, h, outOpt_some]; rfl
    · simp [Op.write, h, outOpt_none]
    · simp [Op.write, h, outOpt_some]; rfl
    · simp [Op.write, h, outOpt_some]; rfl
    · simp [Op.write, h, outOpt_none]
    · simp [Op.write, h, outOpt_some]
    · simp [Op.write]
    · simp [Op.write, flagsByte_eq]
    · simp [Op.write]
    · simp [Op.write, h, OpState.wait, outOpt_some]
    · have : o.state.wait = none := by
        cases e : o.state with
        | admitted w => simp [e, OpState.isAdmitted] at h
        | _ => rfl
      simp [Op.write, this, outOpt_none]
    · have : o.state.hold = some h := by rcases held with e | ⟨ph, e⟩ <;> rw [e] <;> rfl
      simp [Op.write, this, outOpt_some]
    · have : o.state.hold = none := by
        unfold OpState.hold
        split
        · next e => exact absurd e (held _)
        · next e => exact absurd e (bound _ _)
        · rfl
      simp [Op.write, this, outOpt_none]
    · simp [Op.write, h, OpState.dest, outOpt_some]; rfl
    · simp [Op.write, h, OpState.dest, outOpt_some]; rfl
    · have : o.state.dest = none := by
        unfold OpState.dest
        split
        · next e => exact absurd e (h _ _)
        · rfl
      simp [Op.write, this, outOpt_none]
    · simp [Op.write, h, outOpt_none]
    · simp [Op.write, h, outOpt_some]
    · by_cases level : o.job.kind = .level
      · simp [Op.write, level]
      · simp [Op.write, level]; rfl
    · simp [Op.write]
    · have none : o.state.result = none ∧ o.state.remaining = none ∧ o.state.endNumber = none := by
        cases e : o.state <;> simp_all [OpState.isEnded, OpState.result, OpState.remaining, OpState.endNumber]
      obtain ⟨result, remaining, number⟩ := none
      simp [Op.write, result, remaining, number, outOpt_none]
    · have result : o.state.result = some r := by rw [h]; rfl
      have remaining : o.state.remaining = rem := by rw [h]; rfl
      have number : o.state.endNumber = some n := by rw [h]; rfl
      refine ⟨?_, fun x => ?_, fun x y => ?_, fun x => ?_, fun x y => ?_, fun x y z => ?_, fun x y => ?_, ?_⟩
      · simp [Op.write, result, outOpt_some]
      · simp [Op.write, -Option.map_bind, result, x, outOpt_none, outOpt_some]
      · simp [Op.write, -Option.map_bind, result, y, outOpt_some]
      · simp [Op.write, -Option.map_bind, remaining, x, outOpt_none]
      · rcases y with rfl | rfl
        · simp [Op.write, -Option.map_bind, remaining, outOpt_some]; rfl
        · simp [Op.write, -Option.map_bind, remaining, outOpt_some]; rfl
      · simp [Op.write, -Option.map_bind, remaining, z, outOpt_some]; rfl
      · refine ⟨jackSet x, ?_, getLsbD_jackSet x⟩
        simp [Op.write, -Option.map_bind, remaining, y, outOpt_some]; rfl
      · simp [Op.write, -Option.map_bind, number, outOpt_some]
  case list =>
    have ended : (padTo 4 (s.opt.endedList.flatMap out8)).length = 4 := padTo_flatMap_length (w := 1) out8_length (by omega)
    have entries := flatMap_length_of_width s.entryOf_length s.occupied
    have behind : s.listOps.drop (1 + 10 * s.occupied.length)
        = out8 s.opt.endedList.length ++ (padTo 4 (s.opt.endedList.flatMap out8) ++ []) := by
      rw [← List.drop_drop, s.listOps_eq, drop_beyond (by simp), ← entries]
      simp
    have later : ∀ k, s.listOps.drop (1 + 10 * s.occupied.length + 1 + k)
        = (padTo 4 (s.opt.endedList.flatMap out8) ++ []).drop (1 * k) := fun k => by
      rw [← List.drop_drop, ← List.drop_drop, behind, drop_beyond (by simp)]
      simp
    refine ⟨?_, ?_, fun sl o at_sl => ?_, ?_, fun k x at_k => ?_, fun k beyond within => ?_⟩
    · rw [s.listOps_eq]
      simp only [List.length_append, out8_length, entries, ended]
      exact (by omega : 1 + (10 * s.occupied.length + (1 + 4)) = 1 + 10 * s.occupied.length + 5)
    · rw [s.listOps_eq]
      simp [State.occupied]
    · have at_sl := getElem_below s.occupied_ascending (State.mem_occupied.mpr ⟨o, at_sl⟩)
      have entry := s.listOps_part at_sl
      rw [State.entryOf_some ‹_›] at entry
      refine ⟨(entry 0 7 (by omega)).trans ?_, fun h => (entry 7 3 (by omega)).trans ?_,
        fun r rem n h => (entry 7 3 (by omega)).trans ?_⟩
      · simp [Op.listEntry]
      · have none : o.state.result = none ∧ o.state.endNumber = none := by
          cases e : o.state <;> simp_all [OpState.isEnded, OpState.result, OpState.endNumber]
        simp [Op.listEntry, none]; rfl
      · simp [Op.listEntry, h, OpState.result, OpState.endNumber]
    · beta_reduce
      refine (congrArg (List.take 1) behind).trans ?_
      simp
    · refine (congrArg (List.take 1) (later k)).trans ?_
      simpa using padTo_record (w := 1) (N := 4) out8_length at_k []
    · refine (congrArg (List.take 1) (later k)).trans ?_
      simpa using padTo_zeros (w := 1) (N := 4) out8_length beyond (by omega) []
  case changes =>
    have tags : (padTo 8 (c.tags.flatMap out8)).length = 8 := padTo_flatMap_length (w := 1) out8_length (by omega)
    refine ⟨?_, ?_, fun k x at_k => ?_, fun k beyond within => ?_, fun i => ?_, ?_⟩
    · simp only [ChangeSet.write, List.flatten_cons, List.flatten_nil, List.length_append, List.length_cons, List.length_nil,
        out8_length, outBool_length, out24_length, tags]
    · simp [ChangeSet.write]
    · beta_reduce
      rw [← List.drop_drop]
      simpa [ChangeSet.write] using padTo_record (w := 1) (N := 8) out8_length at_k _
    · beta_reduce
      rw [← List.drop_drop]
      simpa [ChangeSet.write] using padTo_zeros (w := 1) (N := 8) out8_length beyond (by omega) _
    · have inputs : c.write.drop 11 = out24 c.inputs ++ [c.entries, c.attitude, c.wind] := by simp [ChangeSet.write, tags]
      rw [drop_getElem? inputs (by simp; omega), out24_getLsbD]
    · simp [ChangeSet.write, tags]
  case faults =>
    refine ⟨?_, ?_, ?_, fun i => ?_, ?_, ?_, ?_⟩
    · simp only [FaultRecord.write, List.flatten_cons, List.flatten_nil, List.length_append, List.length_cons, List.length_nil,
        out8_length, out16_length, out24_length]
    · simp [FaultRecord.write]
    · simp [FaultRecord.write]
    · have inputs : f.write.drop 5
          = out24 f.since.inputs ++ ([f.since.jacks, f.since.stray] ++ (out16 f.since.channels.toNat ++ out8 f.cause.code)) := by
        simp [FaultRecord.write]
      rw [drop_getElem? inputs (by simp; omega), out24_getLsbD]
    · simp [FaultRecord.write]
    · simp [FaultRecord.write]
    · simp [FaultRecord.write]
  case attitude =>
    refine ⟨?_, fun h => ?_, fun f h => ⟨?_, ?_, ?_, ?_, ?_⟩, ?_, ?_, fun h => ?_, fun h off => ?_, fun h on => ?_, fun h => ?_,
      fun e h => ?_, ?_⟩
    · simp only [State.attitudeRecord, List.flatten_cons, List.flatten_nil, List.length_append, List.length_nil, out8_length,
        out16_length, outInt16_length, outBool_length, outAngle_length, outOpt_map_length, implies_true]
    · have off : outBool s.attitudeValid = [0] := by simp [State.attitudeValid, h]; rfl
      simp [State.attitudeRecord, State.reported, h, off, outAngle, outOpt_none]
    · have on : outBool s.attitudeValid = [1] := by simp [State.attitudeValid, h]; rfl
      simp [State.attitudeRecord, on]
    · simp [State.attitudeRecord, h, outAngle, outOpt_some]
    · simp [State.attitudeRecord, h, outAngle, outOpt_some]
    · simp [State.attitudeRecord, State.reported, h, outAngle, outOpt_some, clampInt_eq]
    · simp [State.attitudeRecord, State.reported, h, outAngle, outOpt_some, clampInt_eq]
    · simp [State.attitudeRecord]
    · simp [State.attitudeRecord]
    · have idle : s.watching = false := by simpa using mt s.watching_iff.mp h
      simp [State.attitudeRecord, State.driftCode, idle]; rfl
    · simp [State.attitudeRecord, State.driftCode, s.watching_iff.mpr h, off]; rfl
    · simp [State.attitudeRecord, State.driftCode, s.watching_iff.mpr h, Option.isSome_iff_ne_none.mpr on]; rfl
    · simp [State.attitudeRecord, h, outOpt_none]
    · simp [State.attitudeRecord, h, outOpt_some]; rfl
    · simp [State.attitudeRecord]
  case wind =>
    have window : (padTo 40 (s.wind.window.flatMap out32)).length = 40 := padTo_flatMap_length out32_length (by omega)
    refine ⟨?_, ?_, ?_, fun i v at_i => ?_, fun i beyond within => ?_, fun h => ?_, fun h => ?_, ?_, fun h => ?_, fun e h => ?_⟩
    · simp only [State.windRecord, List.flatten_cons, List.flatten_nil, List.length_append, List.length_nil, out8_length,
        out16_length, out32_length, outBool_length, outOpt_map_length, window, implies_true]
    · simp [State.windRecord]
    · simp [State.windRecord]
    · beta_reduce
      rw [← List.drop_drop]
      simpa [State.windRecord] using padTo_record (N := 40) out32_length at_i _
    · beta_reduce
      rw [← List.drop_drop]
      simpa [State.windRecord] using padTo_zeros (N := 40) out32_length beyond (by omega) _
    · have empty : s.wind.window = [] := List.eq_nil_of_length_eq_zero h
      simp [State.windRecord, empty, averageSpeed_empty, outOpt_none]
    · simp [State.windRecord, window, averageSpeed_some h, outOpt_some]
    · simp [State.windRecord, window]
    · simp [State.windRecord, window, h, outOpt_none]
    · simp [State.windRecord, window, h, outOpt_some]; rfl
  case input =>
    have record : ∀ {k n : Nat}, k + n ≤ 6 → ((s.inputsRecord (i.val / 8)).drop (6 * (i.val % 8) + k)).take n
        = ((s.inputRecord i).drop k).take n := fun hk => by
      rw [s.inputsRecord_block (by omega)]
      simpa using flatMap_part s.inputRecord_length (inputBlock_getElem i) hk []
    have shown_hidden : s.inm.parked = true ∨ s.funcOf i = .none → s.shownReading i = 255 := fun h => by
      rw [State.shownReading, if_pos (by simpa [Func.none_beq] using h)]; rfl
    have shown : ¬ (s.inm.parked = true ∨ s.funcOf i = .none) → s.shownReading i = (s.reading i).code := fun h => by
      rw [State.shownReading, if_neg (by simpa [Func.none_beq] using h)]
    refine ⟨?_, (record (by omega)).trans ?_, fun h => (record (by omega)).trans ?_, fun h => (record (by omega)).trans ?_,
      (record (by omega)).trans ?_, (record (by omega)).trans ?_, ?_⟩
    · rw [s.inputsRecord_block (by omega), flatMap_length_of_width s.inputRecord_length, inputBlock_length (by omega)]
    · simp [State.inputRecord]
    · simp [State.inputRecord, shown_hidden h]; rfl
    · simp [State.inputRecord, shown h]
      cases s.reading i <;> rfl
    · simp [State.inputRecord, contactCode]
      rcases (s.input i).debounced with _ | _ | _ <;> rfl
    · simp [State.inputRecord, contactCode]
      rcases (s.input i).pending with _ | _ | _ <;> rfl
    · refine ⟨_, (record (by omega)).trans (by simp [State.inputRecord]; rfl), ?_⟩
      exact ⟨getLsbD_bitsOf (by decide) _, getLsbD_bitsOf (by decide) _, getLsbD_bitsOf (by decide) _,
        getLsbD_bitsOf (by decide) _, getLsbD_bitsOf (by decide) _, getLsbD_bitsOf (by decide) _,
        getLsbD_bitsOf (by decide) _, getLsbD_bitsOf (by decide) _⟩
  case block =>
    have bytes : s.inputsRecord 3 = s.coachBlock := rfl
    have two : ∀ f : Func, (out8 f.code ++ out8 f.arg).length = 2 := fun f => by simp
    have funcs := flatMap_length_of_width two s.unassigned
    have behind : (s.inputsRecord 3).drop (7 + 2 * s.unassigned.length)
        = outBool s.inm.idle ++ (outOpt 2 (s.inm.idleTimer.map (fun e => out16 (s.secondsLeft e))) ++ []) := by
      rw [bytes, ← funcs, ← List.drop_drop]
      simp [State.coachBlock, -List.length_flatMap]
    have last : (s.inputsRecord 3).drop (8 + 2 * s.unassigned.length)
        = outOpt 2 (s.inm.idleTimer.map (fun e => out16 (s.secondsLeft e))) := by
      rw [show 8 + 2 * s.unassigned.length = 7 + 2 * s.unassigned.length + 1 by omega, ← List.drop_drop, behind]
      simp
    refine ⟨?_, ?_, fun i f at_i => ?_, ?_, fun h => ?_, fun e h => ?_⟩
    · rw [bytes]
      simp [State.coachBlock]
    · rw [bytes]
      simp [State.coachBlock]
    · rw [bytes]
      beta_reduce
      rw [← List.drop_drop]
      simpa [State.coachBlock] using flatMap_record two at_i
        (outBool s.inm.idle ++ outOpt 2 (s.inm.idleTimer.map (fun e => out16 (s.secondsLeft e))))
    · refine (congrArg (List.take 1) behind).trans ?_
      simp
    · refine (congrArg (List.take 4) last).trans ?_
      simp [h, outOpt_none]
    · refine (congrArg (List.take 4) last).trans ?_
      simp [h, outOpt_some]; rfl
  case jacks =>
    have whole : s.motionSection 0 = jackPositions.flatMap s.jackRecord ++ (out16 s.lvc.pump ++ out16 s.lvc.extension) :=
      List.append_assoc _ _ _
    have jacks : (jackPositions.flatMap s.jackRecord).length = 54 := flatMap_length_of_width s.jackRecord_length _
    have record := fun j => flatMap_record s.jackRecord_length (jackPositions_getElem j) (out16 s.lvc.pump ++ out16 s.lvc.extension)
    refine ⟨?_, fun j => ⟨fun absent => ?_, fun present => ?_⟩, ?_⟩
    · rw [whole, List.length_append, jacks, List.length_append, out16_length, out16_length]
    · beta_reduce
      rw [whole, record j, State.jackRecord, if_neg (by simpa using absent)]
    · beta_reduce
      rw [whole, record j, State.jackRecord, if_pos (by simpa using present)]
      simp; rfl
    · rw [whole]
      beta_reduce
      rw [drop_beyond jacks.le, jacks]
      simp
  case room =>
    have whole : s.motionSection (n.val + 1) = s.roomSection n := by
      fin_cases n <;> rfl
    rw [whole]
    refine ⟨?_, ?_, fun h => ?_, fun x h => ?_, ?_, fun i m place => ?_, fun h => ?_, fun h => ?_, fun h => ?_,
      fun sl o h => ?_⟩
    · simp only [State.roomSection, List.flatten_cons, List.flatten_nil, List.length_append, List.length_nil, out8_length,
        outBool_length, outOpt_map_length, out16_length, State.motorRecord_length, State.syncFields_length,
        State.drivePhase_length, implies_true]
    · simp [State.roomSection]; rfl
    · simp [State.roomSection, h, outOpt_none]
    · simp [State.roomSection, h, outOpt_some]
    · simp [State.roomSection]
    · have record : ((s.roomSection n).drop i).take 13 = s.motorRecord n m := by
        rcases place with ⟨rfl, rfl⟩ | ⟨rfl, rfl⟩
        · simp [State.roomSection]
        · simp [State.roomSection]
      exact ⟨fun absent => record.trans (State.motorRecord_absent absent),
        fun present => record.trans (State.motorRecord_present present)⟩
    · simp [State.roomSection, State.syncFields_idle h]
    · rw [State.roomSection, State.syncFields_driven h]
      exact ⟨by simp, by simp⟩
    · simp [State.roomSection, State.drivePhase_idle h]
    · refine ⟨?_, fun p => ?_, fun ph p => ?_⟩
      · simp [State.roomSection, State.drivePhase_active h]
      · simp [State.roomSection, State.drivePhase_active h, p, outOpt_none]
      · simp [State.roomSection, State.drivePhase_active h, p, outOpt_some]
  case awning =>
    have whole : s.motionSection 5 = s.awningSection := rfl
    rw [whole]
    refine ⟨?_, ?_, fun h => ?_, fun x h => ?_, ?_, ?_, ?_, fun h => ?_, fun sl o h => ⟨?_, fun p => ?_, fun ph p => ?_, ?_⟩⟩
    · simp only [State.awningSection, List.flatten_cons, List.flatten_nil, List.length_append, List.length_nil, out8_length,
        outBool_length, outOpt_map_length, out16_length, State.drivePhase_length, implies_true]
    · simp [State.awningSection]; rfl
    · simp [State.awningSection, h, outOpt_none]
    · simp [State.awningSection, h, outOpt_some]
    · simp [State.awningSection]
    · rw [← Motor.out8_stateCode]
      simp [State.awningSection]
    · simp [State.awningSection]
    · simp [State.awningSection, h, State.drivePhase_idle h, outOpt_none]
    · simp [State.awningSection, State.drivePhase_active h]
    · simp [State.awningSection, State.drivePhase_active h, p, outOpt_none]
    · simp [State.awningSection, State.drivePhase_active h, p, outOpt_some]
    · have phase : (outOpt 1 (o.state.phase.map (fun f => out8 f.code))).length = 2 := by simp
      simp [State.awningSection, State.drivePhase_active h, h, outOpt_some]
  case entry =>
    have record : ∀ {i n : Nat}, i + n ≤ 5 →
        ((s.motionSection 6).drop (5 * k.val + i)).take n = ((s.entryRecord k).drop i).take n := fun hk => by
      rw [show s.motionSection 6 = entryNumbers.flatMap s.entryRecord from rfl]
      simpa using flatMap_part s.entryRecord_length (entryNumbers_getElem k) hk []
    refine ⟨?_, (record (by omega)).trans ?_, fun h => (record (by omega)).trans ?_, fun h => (record (by omega)).trans ?_⟩
    · exact flatMap_length_of_width s.entryRecord_length entryNumbers
    · simp [State.entryRecord]; rfl
    · have h : s.activeOp (s.items.clearance.get k).subject = none := h
      simp [State.entryRecord, h, outOpt_none]
    · obtain ⟨p, h⟩ := Option.ne_none_iff_exists'.mp h
      have h : s.activeOp (s.items.clearance.get k).subject = some p := h
      simp [State.entryRecord, h, outOpt_some]; rfl
  case solver =>
    have whole : s.motionSection 7 = s.solverSection := rfl
    have lift : ∀ {r l limited}, s.lvc.solver = some r → r.solution = .lifts l limited → ∀ j : Jack,
        (s.solverSection.drop (8 + 2 * j.val)).take 2 = out16 (((l.find? (fun p => p.1 == j)).map Prod.snd).getD 0) :=
      fun {r l limited} h e j => by
        rw [State.solverSection_lifts h e, ← List.drop_drop]
        simpa [liftFields] using flatMap_record
          (f := fun j : Jack => out16 (((l.find? (fun p => p.1 == j)).map Prod.snd).getD 0)) (fun _ => out16_length _)
          (jackPositions_getElem j) []
    rw [whole]
    refine ⟨?_, fun h => ?_, fun r h => ⟨?_, ?_, fun l limited e => ⟨?_, fun j => ⟨fun x at_j one => ?_, fun absent => ?_⟩⟩,
      fun l e => ⟨?_, ?_, jackSet l, ?_, getLsbD_jackSet l⟩⟩⟩
    · unfold State.solverSection
      split
      · rfl
      · next r _ =>
        cases r.solution with
        | lifts l limited => simp [liftFields_length]
        | short l => simp [padTo]
    · rw [State.solverSection, h]
    · cases e : r.solution with
      | lifts l limited => rw [State.solverSection_lifts h e]; simp; rfl
      | short l => rw [State.solverSection_short h e]; simp; rfl
    · cases e : r.solution with
      | lifts l limited => rw [State.solverSection_lifts h e]; simp
      | short l => rw [State.solverSection_short h e]; simp
    · rw [State.solverSection_lifts h e]; simp; rfl
    · refine (lift h e j).trans ?_
      rw [find_lift at_j one]; rfl
    · refine (lift h e j).trans ?_
      have none : l.find? (fun p => p.1 == j) = none := List.find?_eq_none.mpr fun p hp same => by
        obtain rfl : p.1 = j := by simpa using same
        exact absent p.2 hp
      rw [none]; rfl
    · rw [State.solverSection_short h e]; simp; rfl
    · rw [State.solverSection_short h e]; simp
    · rw [State.solverSection_short h e]; simp
  case codes =>
    refine ⟨rfl, fun n => ?_, rfl, rfl, rfl, rfl, rfl, rfl, rfl, rfl, rfl, rfl, rfl, rfl, rfl, ⟨rfl, fun x => ⟨rfl, rfl, rfl⟩⟩,
      fun w ph d h r rem n => ⟨rfl, rfl, rfl, rfl, rfl⟩⟩
    revert n; decide

end Sys2Proof.Machine
end

section
namespace Sys2Proof.Machine

-- One declaration at a time, so that the memory the check takes stays small.
set_option Elab.async false

/-- Settles O16: each handler tests its operand, and answers or refuses without touching the state. -/
theorem selectiveReadsAnswer : Obligations.SelectiveReadsAnswer := by
  intro s l b h
  refine ⟨fun sl o at_tag at_sl => ⟨o.write_length, ?_⟩, fun unused => ?_, fun low => ?_, fun low => ?_, fun high => ?_,
    fun low fitted => ?_, fun g low group absent => ?_, fun high => ?_, fun n0 n1 k known => ?_, fun n0 n1 unknown => ?_⟩
  · refine congrArg _ (read_answers h (f := handleReadOp) ?_)
    simp [handleReadOp, oneByte, at_tag, at_sl]
  · refine congrArg _ (request_refused h (f := handleReadOp) (r := .noSuchTag) ?_)
    simp [handleReadOp, oneByte, unused]
  · rw [s.inputsRecord_block low, flatMap_length_of_width s.inputRecord_length, inputBlock_length low]
  · refine congrArg _ (read_answers h (f := handleReadInputs) ?_)
    simp [handleReadInputs, oneByte, not_lt.mpr low]
  · refine congrArg _ (request_refused h (f := handleReadInputs) (r := .badRange) ?_)
    simp [handleReadInputs, oneByte, high]
  · refine congrArg _ (read_answers h (f := handleReadMotion) ?_)
    have whole : ((sectionGroup b.toNat).any fun g => !s.items.configured g) = false := by
      cases e : sectionGroup b.toNat with
      | none => rfl
      | some g => simp [fitted g e]
    simp [handleReadMotion, oneByte, not_lt.mpr low, whole]
  · refine congrArg _ (request_refused h (f := handleReadMotion) (r := .badGroup) ?_)
    simp [handleReadMotion, oneByte, not_lt.mpr low, group, absent]
  · refine congrArg _ (request_refused h (f := handleReadMotion) (r := .badRange) ?_)
    simp [handleReadMotion, oneByte, high]
  · refine congrArg _ (read_answers h (f := handleGetItem) ?_)
    simp [handleGetItem, known, State.itemReply, out16_num16, out8]
  · refine congrArg _ (request_refused h (f := handleGetItem) (r := .unknownItem) ?_)
    simp [handleGetItem, unknown]

end Sys2Proof.Machine
end

section
namespace Sys2Proof.Machine

-- One declaration at a time, so that the memory the check takes stays small.
set_option Elab.async false

/-! ### Blocks left as they are -/

theorem State.keeps_refl (s : State) (b : Block) : s.keeps s b := by
  cases b with
  | clearance => exact fun _ => ⟨rfl, rfl⟩
  | _ => rfl

theorem State.keeps_trans {s t u : State} {b : Block} (h : s.keeps t b) (k : t.keeps u b) : s.keeps u b := by
  cases b with
  | clearance => exact fun x => ⟨(k x).1.trans (h x).1, (k x).2.trans (h x).2⟩
  | attitude =>
    have h : t.atu = { s.atu with drift := t.atu.drift } := h
    have k : u.atu = { t.atu with drift := u.atu.drift } := k
    show u.atu = { s.atu with drift := u.atu.drift }
    rw [k, h]
  | inputs =>
    have h : t.inm = { s.inm with coach := t.inm.coach, idle := t.inm.idle, idleTimer := t.inm.idleTimer } := h
    have k : u.inm = { t.inm with coach := u.inm.coach, idle := u.inm.idle, idleTimer := u.inm.idleTimer } := k
    show u.inm = { s.inm with coach := u.inm.coach, idle := u.inm.idle, idleTimer := u.inm.idleTimer }
    rw [k, h]
  | links =>
    have h : t.liu = { s.liu with claims := t.liu.claims } := h
    have k : u.liu = { t.liu with claims := u.liu.claims } := k
    show u.liu = { s.liu with claims := u.liu.claims }
    rw [k, h]
  | _ => exact Eq.trans k h

theorem keepsBut_refl (s : State) (l : List Block) : s.keepsBut s l := ⟨fun b _ => s.keeps_refl b, rfl, rfl⟩

theorem keepsBut_trans {s t u : State} {l : List Block} (h : s.keepsBut t l) (k : t.keepsBut u l) : s.keepsBut u l :=
  ⟨fun b hb => State.keeps_trans (h.1 b hb) (k.1 b hb), k.2.1.trans h.2.1, k.2.2.trans h.2.2⟩

theorem keepsBut_mono {s t : State} {l m : List Block} (h : s.keepsBut t l) (sub : l ⊆ m) : s.keepsBut t m :=
  ⟨fun b hb => h.1 b fun hl => hb (sub hl), h.2⟩

/-- The blocks outside a list stand, one by one. -/
theorem keepsBut_of {s t : State} {l : List Block}
    (table : .table ∉ l → t.opt = s.opt := by intro listed; simp at listed <;> rfl)
    (arbiter : .arbiter ∉ l → t.sta = s.sta := by intro listed; simp at listed <;> rfl)
    (attitude : .attitude ∉ l → t.atu = { s.atu with drift := t.atu.drift } := by intro listed; simp at listed <;> rfl)
    (jacks : .jacks ∉ l → t.lvc = s.lvc := by intro listed; simp at listed <;> rfl)
    (rooms : .rooms ∉ l → t.sdc = s.sdc := by intro listed; simp at listed <;> rfl)
    (awning : .awning ∉ l → t.awu = s.awu := by intro listed; simp at listed <;> rfl)
    (wind : .wind ∉ l → t.wind = s.wind := by intro listed; simp at listed <;> rfl)
    (inputs : .inputs ∉ l → t.inm = { s.inm with coach := t.inm.coach, idle := t.inm.idle, idleTimer := t.inm.idleTimer } := by
      intro listed; simp at listed <;> rfl)
    (orders : .orders ∉ l → t.clm.ordered = s.clm.ordered := by intro listed; simp at listed <;> rfl)
    (clearance : .clearance ∉ l → ∀ k, (t.entryUnit k).lastA = (s.entryUnit k).lastA ∧ (t.entryUnit k).lastB = (s.entryUnit k).lastB := by
      intro listed; simp at listed <;> exact fun _ => ⟨rfl, rfl⟩)
    (links : .links ∉ l → t.liu = { s.liu with claims := t.liu.claims } := by intro listed; simp at listed <;> rfl)
    (claims : .claims ∉ l → t.liu.claims = s.liu.claims := by intro listed; simp at listed <;> rfl)
    (items : .items ∉ l → t.ist = s.ist := by intro listed; simp at listed <;> rfl)
    (queue : t.pending = s.pending := by rfl) (clock : t.now = s.now := by rfl) : s.keepsBut t l := by
  refine ⟨fun b hb => ?_, queue, clock⟩
  cases b with
  | table => exact table hb
  | arbiter => exact arbiter hb
  | attitude => exact attitude hb
  | jacks => exact jacks hb
  | rooms => exact rooms hb
  | awning => exact awning hb
  | wind => exact wind hb
  | inputs => exact inputs hb
  | clearance => exact clearance hb
  | orders => exact orders hb
  | links => exact links hb
  | claims => exact claims hb
  | items => exact items hb

/-- The end of an event leaves every block as it stood. -/
theorem Follows.keeps {u t : State} (h : Follows u t) : u.keepsBut t [] :=
  keepsBut_of (table := fun _ => h.table) (arbiter := fun _ => h.arbiter) (attitude := fun _ => by rw [h.attitude])
    (jacks := fun _ => h.jacks) (rooms := fun _ => h.rooms) (awning := fun _ => h.awning) (wind := fun _ => h.wind)
    (inputs := fun _ => h.inputs) (orders := fun _ => h.orders) (clearance := fun _ => h.judged)
    (links := fun _ => by rw [h.links]) (claims := fun _ => by rw [h.links]) (items := fun _ => h.items)
    (queue := h.queue.1) (clock := h.queue.2.1)

theorem Follows.keepsBut {s u t : State} {l : List Block} (h : Follows u t) (k : s.keepsBut u l) : s.keepsBut t l :=
  keepsBut_trans k (keepsBut_mono h.keeps (List.nil_subset l))

/-- A request that a handler accepts. -/
theorem request_accepted {s u : State} {l : Link} (h : s.takes l) {kind : Byte} {p data : List Byte} {f : Handler}
    (hf : f s l p = (u, Answer.ok data)) : s.request l kind p f = u.pushReply l kind 0 data .nothing := by
  rw [request_taken h, serve_eq hf]
  rfl

/-! ### DISMISS -/

theorem clearSlot_frame (s : State) (sl : Slot) :
    s.clearSlot sl = { s with opt := { s.opt with slots := (s.clearSlot sl).opt.slots
                                                  endedList := (s.clearSlot sl).opt.endedList } } := by
  unfold State.clearSlot
  split <;> rfl

/-- A table from which records have been taken out leaves a calm part calm. -/
theorem calm_fewer {s t : State} (h : s.Calm) (hi : t.ist = s.ist) (hn : t.inm = s.inm)
    (fewer : ∀ sl o, t.opAt sl = some o → s.opAt sl = some o) : t.Calm :=
  calm_of h.toUndisturbed hi (by rw [hn]) (fun sl o ho hr => ⟨sl, o, fewer sl o ho, hr, rfl⟩)
    fun sl o ho => h.waiting sl o (fewer sl o ho)

theorem clearSlot_fewer {s : State} {sl k : Slot} {o : Op} (h : (s.clearSlot sl).opAt k = some o) : s.opAt k = some o := by
  rw [opAt_clearSlot] at h
  split at h
  · cases h
  · exact h

/-- DISMISS of every ENDED record. -/
def State.clearEnded (s : State) : State := s.eachOp (fun _ o => o.state.isEnded) State.clearSlot

theorem clears_local : Local (fun _ o => o.state.isEnded) State.clearSlot (fun _ => True) :=
  fun u sl _ _ _ _ => ⟨trivial, fun k hk => by rw [opAt_clearSlot, if_neg hk]⟩

theorem clearEnded_opAt (s : State) (sl : Slot) : s.clearEnded.opAt sl = (s.opAt sl).filter (fun o => !o.state.isEnded) := by
  obtain ⟨u, -, same, visited⟩ := eachOp_slot clears_local (s := s) trivial sl
  rw [State.clearEnded, visited]
  cases ho : u.opAt sl with
  | none => rw [visit_none ho, ho, ← same, ho]; rfl
  | some o =>
    rw [visit_some ho, ← same, ho]
    by_cases ended : o.state.isEnded = true
    · rw [if_pos ended, opAt_clearSlot, if_pos rfl, Option.filter_some, if_neg (by simpa using ended)]
    · rw [if_neg ended, ho, Option.filter_some, if_pos (by simpa using ended)]

/-- The visits of a list of slots take the tags of its ENDED records off the ended list, and touch nothing but the table. -/
theorem clears_list (l : List Slot) : l.Nodup → ∀ s : State,
    let t := l.foldl (State.visit (fun _ o => o.state.isEnded) State.clearSlot) s
    t = { s with opt := { s.opt with slots := t.opt.slots, endedList := t.opt.endedList } }
      ∧ ∀ x, x ∈ t.opt.endedList ↔
          x ∈ s.opt.endedList ∧ ∀ sl ∈ l, ∀ o, s.opAt sl = some o → o.state.isEnded = true → o.tag ≠ x := by
  induction l with
  | nil => exact fun _ s => ⟨rfl, fun x => by simp⟩
  | cons a l ih =>
    intro distinct s
    obtain ⟨fresh, distinct⟩ := List.nodup_cons.mp distinct
    obtain ⟨frame, list⟩ := ih distinct (s.visit (fun _ o => o.state.isEnded) State.clearSlot a)
    have others : ∀ sl ∈ l, (s.visit (fun _ o => o.state.isEnded) State.clearSlot a).opAt sl = s.opAt sl := fun sl hs =>
      (visit_local clears_local (u := s) trivial a).2 sl fun e => fresh (e ▸ hs)
    have first : s.visit (fun _ o => o.state.isEnded) State.clearSlot a
        = { s with opt := { s.opt with
            slots := (s.visit (fun _ o => o.state.isEnded) State.clearSlot a).opt.slots
            endedList := (s.visit (fun _ o => o.state.isEnded) State.clearSlot a).opt.endedList } }
        ∧ ∀ x, x ∈ (s.visit (fun _ o => o.state.isEnded) State.clearSlot a).opt.endedList ↔
          x ∈ s.opt.endedList ∧ ∀ o, s.opAt a = some o → o.state.isEnded = true → o.tag ≠ x := by
      cases ho : s.opAt a with
      | none => rw [visit_none ho]; exact ⟨rfl, fun x => by simp⟩
      | some o =>
        rw [visit_some ho]
        cases ended : o.state.isEnded with
        | false => exact ⟨rfl, fun x => by simp [ended]⟩
        | true =>
          refine ⟨clearSlot_frame s a, fun x => ?_⟩
          have list : (s.clearSlot a).opt.endedList = s.opt.endedList.filter (fun t => t != o.tag) := by
            rw [State.clearSlot, ho]
          rw [if_pos rfl, list, List.mem_filter]
          constructor
          · rintro ⟨mem, differ⟩
            refine ⟨mem, fun p hp _ e => ?_⟩
            obtain rfl := Option.some.inj hp
            simp [e] at differ
          · rintro ⟨mem, differ⟩
            exact ⟨mem, by simpa using fun e => differ o rfl ended e.symm⟩
    refine ⟨?_, fun x => ?_⟩
    · rw [List.foldl_cons, frame, first.1]
    · rw [List.foldl_cons, list, first.2]
      simp only [List.forall_mem_cons]
      constructor
      · rintro ⟨⟨h, ha⟩, hl⟩
        exact ⟨h, ha, fun sl hs o ho => hl sl hs o (by rw [others sl hs]; exact ho)⟩
      · rintro ⟨h, ha, hl⟩
        exact ⟨⟨h, ha⟩, fun sl hs o ho => hl sl hs o (by rw [← others sl hs]; exact ho)⟩

/-- Settles O30: the slots are freed, and the end of the event leaves the table so. -/
theorem dismissFreesSlots : Obligations.DismissFreesSlots := by
  intro s l b h
  refine ⟨fun named unused => ?_, fun sl o named at_tag at_sl => ⟨fun running => ?_, fun ended calm => ?_⟩, fun calm => ?_⟩
  · refine congrArg _ (request_refused h (f := handleDismiss) (r := .noSuchTag) ?_)
    simp [handleDismiss, named, unused]
  · refine congrArg _ (request_refused h (f := handleDismiss) (r := .wrongState) ?_)
    simp [handleDismiss, named, at_tag, at_sl, running]
  · have after := follows_settle (s := s.clearSlot sl) (calm_fewer calm (by rw [clearSlot_frame]) (by rw [clearSlot_frame])
      fun k p => clearSlot_fewer)
    have table : (s.clearSlot sl).opt = { s.opt with slots := s.opt.slots.set sl none
                                                     endedList := s.opt.endedList.filter (fun t => t != o.tag) } := by
      rw [State.clearSlot, at_sl]
    refine ⟨(s.clearSlot sl).settle, ?_, ?_, fun k hk => ?_, ?_, ?_, ?_, after.keepsBut ?_⟩
    · refine congrArg _ (request_accepted h (f := handleDismiss) ?_)
      simp [handleDismiss, named, at_tag, at_sl, ended]
    · rw [opAt_of_opt after.table, opAt_clearSlot, if_pos rfl]
    · rw [opAt_of_opt after.table, opAt_clearSlot, if_neg (Ne.symm hk)]
    · rw [after.table, table]
    · rw [after.table, table]
    · rw [after.table, table]
    · rw [clearSlot_frame]
      exact keepsBut_of
  · obtain ⟨frame, list⟩ := clears_list slots (by decide) s
    have after := follows_settle (s := s.clearEnded) (calm_fewer calm
      (by rw [State.clearEnded, eachOp_eq, frame]) (by rw [State.clearEnded, eachOp_eq, frame])
      fun k p hp => by
        rw [clearEnded_opAt, Option.filter_eq_some_iff] at hp
        exact hp.1)
    refine ⟨s.clearEnded.settle, ?_, fun sl => ?_, fun x => ?_, ?_, ?_, after.keepsBut ?_⟩
    · exact congrArg _ (request_accepted h (f := handleDismiss) rfl)
    · rw [opAt_of_opt after.table, clearEnded_opAt]
    · rw [after.table, State.clearEnded, eachOp_eq, list]
      exact and_congr_right fun _ => ⟨fun k sl o => k sl (mem_slots sl) o, fun k sl _ o => k sl o⟩
    · rw [after.table, State.clearEnded, eachOp_eq, frame]
    · rw [after.table, State.clearEnded, eachOp_eq, frame]
    · rw [State.clearEnded, eachOp_eq, frame]
      exact keepsBut_of

end Sys2Proof.Machine
end

section
namespace Sys2Proof.Machine

-- One declaration at a time, so that the memory the check takes stays small.
set_option Elab.async false

/-! ### A flag that stands for a group that is not configured

R165 keeps the entries of an unconfigured subject inactive, and the end of every event derives the flags so; step 10 of an
admission reads the flag as it stands. In a state that carries such a flag nonetheless it bars a target, though its subject
is not configured. -/

/-- A PROTECT entry that closes the whole way of the awning. -/
def awningEntry : ClearEntry :=
  { ClearEntry.default with enabled := true, subject := .awning, lo := 0, hi := 1000, action := .protect }

/-- An entry's flags, active. -/
def activeUnit : ClearUnit := { active := true, inside := false, lastA := none, lastB := none }

/-- A part without an awning, its first clearance entry enabled for the awning and marked active. -/
def strayFlag : State :=
  { State.reset with
    ist := { State.reset.ist with items := { State.reset.ist.items with
      awn := { State.reset.ist.items.awn with present := false }
      clearance := State.reset.ist.items.clearance.set 0 awningEntry } }
    clm := { State.reset.clm with entries := State.reset.clm.entries.set 0 activeUnit } }

/-- An AWNING_SET to half way. -/
def halfOut : Job :=
  { kind := .awningSet, group := .awning, sub := none, dir := none, value := some 500, origin := .link, bestEffort := false
    override := false }

theorem strayFlag_barred : strayFlag.targetBarred halfOut = true := by decide +kernel

theorem strayFlag_unconfigured : strayFlag.items.configured halfOut.group = false := by decide +kernel

/-- Refutes O24: step 10 does not ask whether the group is configured. -/
theorem not_submitTestsInOrder : ¬ Obligations.SubmitTestsInOrder := by
  intro h
  obtain ⟨-, -, -, -, -, -, -, -, -, barred⟩ := h.2 strayFlag halfOut
  obtain ⟨v, k, -, -, -, configured, -⟩ := barred.mp strayFlag_barred
  rw [strayFlag_unconfigured] at configured
  cases configured

end Sys2Proof.Machine
end

section
namespace Sys2Proof.Machine

-- One declaration at a time, so that the memory the check takes stays small.
set_option Elab.async false

/-! ### What an end leaves -/

theorem noteTag_coach (s : State) (tag : Nat) : (s.noteTag tag).ntu.coach = s.ntu.coach.noteTag tag := rfl

theorem noteTag_service (s : State) (tag : Nat) : (s.noteTag tag).ntu.service = s.ntu.service.noteTag tag := rfl

/-- A tag noted before the end of the event is told after it. -/
theorem told_of_notices {s u t : State} {tag : Nat} (coach : u.ntu.coach = s.ntu.coach.noteTag tag)
    (service : u.ntu.service = s.ntu.service.noteTag tag) (h : NoticesFollow u t) : TagTold s t tag := by
  have raised : ∀ c : ChangeSet, (c.noteTag tag).cats &&& Category.ops.bit = Category.ops.bit := fun c => by
    rw [noteTag_told]
    exact and_of_or_left _ _
  have kept : ∀ c : ChangeSet, ((c.noteTag tag).raise .fault).cats &&& Category.ops.bit = Category.ops.bit := fun c =>
    and_of_or (b := (c.noteTag tag).cats) (or_or_self_right _ _) (raised c)
  rcases h.sets with ⟨hc, hs, -⟩ | ⟨hc, hs⟩
  · rw [coach] at hc
    rw [service] at hs
    exact ⟨by rw [hc], by rw [hs], by rw [hc]; exact raised _, by rw [hs]; exact raised _⟩
  · rw [coach] at hc
    rw [service] at hs
    exact ⟨by rw [hc]; rfl, by rw [hs]; rfl, by rw [hc]; exact kept _, by rw [hs]; exact kept _⟩

/-- The blocks that the writing of an end reaches. -/
theorem writeEnd_keeps {s : State} {sl : Slot} {o : Op} (h : s.opAt sl = some o) (r : Result) (rem : Option Remaining) :
    s.keepsBut (s.writeEnd sl r rem) [.table, .arbiter, .jacks, .rooms, .awning, .orders, .claims] := by
  obtain ⟨c, hc⟩ := writeEnd_eq h r rem
  have entries := release_entries s o
  rw [hc]
  exact keepsBut_of (clearance := fun _ k => by
    show ((s.release o).clm.entries.get k).lastA = _ ∧ ((s.release o).clm.entries.get k).lastB = _
    rw [entries]; exact ⟨rfl, rfl⟩)

/-- The end of an event in which one operation ended. -/
theorem endsOp_of_writeEnd {s t : State} {sl : Slot} {o : Op} (h : s.opAt sl = some o) {r : Result} {rem : Option Remaining}
    (after : Follows (s.writeEnd sl r rem) t) : EndsOp s t sl o r rem := by
  obtain ⟨c, hc⟩ := writeEnd_eq h r rem
  have wrote := (wrote_writeEnd h r rem).of_opt after.table
  have table := after.table
  rw [hc] at table
  refine ⟨wrote.self, fun k hk => wrote.other (Ne.symm hk), ?_, ?_, ?_, ?_⟩
  · rw [table]; exact ⟨rfl, rfl, rfl⟩
  · rw [table]
  · rw [after.arbiter, hc]
  · exact told_of_notices (by rw [hc]; rfl) (by rw [hc]; rfl) after.notices

/-- A part in which one record has left ADMITTED and RUNNING, and no other waits, is calm where it was undisturbed. -/
theorem calm_wrote {s t : State} {sl : Slot} {o : Op} (h : s.Undisturbed) (hw : Wrote s t sl o) (hi : t.ist = s.ist)
    (hn : t.inm = s.inm) (still : o.state.isRunning = false) (idle : o.state.isAdmitted = false)
    (others : ∀ k, k ≠ sl → ∀ p ∈ s.opAt k, p.state.isAdmitted = false) : t.Calm := by
  refine calm_of h hi (by rw [hn]) (fun k p hp hr => ?_) fun k p hp => ?_
  · by_cases e : sl = k
    · subst e
      rw [hw.self] at hp
      cases hp
      rw [still] at hr
      cases hr
    · rw [hw.other e] at hp
      exact ⟨k, p, hp, hr, rfl⟩
  · by_cases e : sl = k
    · subst e
      rw [hw.self] at hp
      cases hp
      exact idle
    · rw [hw.other e] at hp
      exact others k (Ne.symm e) p hp

/-! ### The admission of a SUBMIT -/

theorem out8_toNat (b : Byte) : out8 b.toNat = [b] := by simp [out8]

/-- A SUBMIT that passes every step is admitted (R8). -/
theorem submit_admits {s : State} {l : Link} {p : List Byte} {q : Submit} {j : Job} {sl : Slot} (h : s.takes l)
    (read : Submit.read p = some q) (ready : s.inm.notReady = false) (job : s.readJob l q = .ok j)
    (passes : s.admissionRefusal (linkOrigin l) (some q.tag.toNat) j = none) (place : s.placeSlot = some sl) :
    exec (.submit l p) s = .next ((s.admitJob q.tag.toNat j).settle.pushReply l 0x03#8 0 [q.tag] .nothing) := by
  refine congrArg _ (request_accepted h (f := handleSubmit) ?_)
  have first : s.step1 = none := by simp [State.step1, ready, refuseIf]
  simp [handleSubmit, read, first, job, passes, place, out8_toNat]

theorem placed_slot (s : State) (sl k : Slot) (tag : Nat) (j : Job) :
    (s.placed sl tag j).opAt k = if sl = k then some (s.newRecord tag j) else s.opAt k := wrote_placed s sl tag j k

/-- The table of an admission before its motion is judged (R5, R6). -/
theorem placed_opt (s : State) (sl : Slot) (tag : Nat) (j : Job) :
    (s.placed sl tag j).opt = { s.opt with
      slots := s.opt.slots.set sl (some (s.newRecord tag j)), admissions := s.opt.admissions + 1
      endedList := s.opt.endedList.filter (fun x => !(s.opAt sl).any (fun p => p.tag == x)) } := by
  unfold State.placed
  rw [fixAwning_opt]
  cases ho : s.opAt sl with
  | none => simp [State.placeRecord, State.clearSlot, ho, State.setOp, State.newRecord]
  | some o =>
    have same : (fun x => x != o.tag) = fun x => !(o.tag == x) := funext fun x => by
      rw [bne, Bool.beq_comm]
    have twice : (s.opt.slots.set sl none).set sl (some (s.newRecord tag j)) = s.opt.slots.set sl (some (s.newRecord tag j)) := by
      apply Bank.cells_inj; simp [Bank.set]
    simp [State.placeRecord, State.clearSlot, ho, State.setOp, same, twice]
    rfl

/-! ### Jobs that need no motion (R14) -/

theorem State.allContact_iff (s : State) : s.allContact = true ↔ ∀ k ∈ s.items.jacks, (s.jack k).contact = true := by
  simp [State.allContact]

theorem State.allJacksUp_iff (s : State) : s.allJacksUp = true ↔ ∀ k ∈ s.items.jacks, s.shut (.jackUp k) = true := by
  simp [State.allJacksUp]

/-- STOWED: every configured jack is up (R62). -/
theorem State.stowed_up {s : State} (h : s.jacksCondition = .stowed) : ∀ k ∈ s.items.jacks, s.shut (.jackUp k) = true := by
  unfold State.jacksCondition at h
  split at h
  · next none =>
    intro k hk
    rw [List.isEmpty_iff.mp none] at hk
    cases hk
  · split at h
    · cases h
    · split at h
      · next up => exact s.allJacksUp_iff.mp up
      · split at h <;> cases h

end Sys2Proof.Machine
end

section
namespace Sys2Proof.Machine

-- One declaration at a time, so that the memory the check takes stays small.
set_option Elab.async false

/-! ### A SUBMIT that needs no motion -/

theorem fits_jacks {k : OpKind} {g : Group} (h : k.fits g = true)
    (kind : k = .level ∨ k = .ground ∨ k = .jacksStow ∨ k = .jackJog) : g = .jacks := by
  cases g with
  | jacks => rfl
  | room n => rcases kind with rfl | rfl | rfl | rfl <;> cases h
  | awning => rcases kind with rfl | rfl | rfl | rfl <;> cases h

theorem fits_awning {k : OpKind} {g : Group} (h : k.fits g = true)
    (kind : k = .awningSet ∨ k = .awningJog ∨ k = .awningStow) : g = .awning := by
  cases g with
  | awning => rfl
  | jacks => rcases kind with rfl | rfl | rfl <;> cases h
  | room n => rcases kind with rfl | rfl | rfl <;> cases h

/-- Nothing remains of a JACKS operation that needed no motion. -/
theorem idle_remaining {s : State} {o : Op} (fits : o.job.kind.fits o.job.group = true) (idle : o.job.group = .jacks → s.jacksIdleJob o.job = true) :
    (o.job.group ≠ .jacks → s.idleRemaining o = some (.permille 0))
    ∧ (o.job.kind = .ground ∨ o.job.kind = .jacksStow → s.idleRemaining o = some (.jacks []))
    ∧ ∀ k, o.job.kind = .jackJog → o.job.sub = some k → s.idleRemaining o = some (.stroke (s.jack k).stroke) := by
  refine ⟨fun other => ?_, fun kind => ?_, fun k kind sub => ?_⟩
  · unfold State.idleRemaining
    split
    · next g => exact absurd g other
    · rfl
  · have g : o.job.group = .jacks := fits_jacks fits (by tauto)
    have idle := idle g
    rw [State.idleRemaining, g]
    rcases kind with kind | kind
    · have contact : s.allContact = true := by simpa [State.jacksIdleJob, kind] using idle
      have none : s.items.jacks.filter (fun j => !(s.jack j).contact) = [] :=
        List.filter_eq_nil_iff.mpr fun k hk => by simp [s.allContact_iff.mp contact k hk]
      simp [State.remainingOf, kind, none]
    · have stowed : s.jacksCondition = .stowed := by simpa [State.jacksIdleJob, kind] using idle
      have none : s.items.jacks.filter (fun j => !s.shut (.jackUp j)) = [] :=
        List.filter_eq_nil_iff.mpr fun k hk => by simp [s.stowed_up stowed k hk]
      simp [State.remainingOf, kind, none]
  · have g : o.job.group = .jacks := fits_jacks fits (by tauto)
    rw [State.idleRemaining, g]
    simp [State.remainingOf, kind, sub]

/-- Settles O26: the record is placed and its end written before the event's end looks at anything. -/
theorem submitNeedsNoMotion : Obligations.SubmitNeedsNoMotion := by
  refine ⟨fun s l p q j sl h read ready job passes place ended idle calm => ?_, fun s j fits => ?_⟩
  · have fits := (readJob_ok job).1
    have at_sl := (wrote_placed s sl q.tag.toNat j).self
    have frame := placed_eq s sl q.tag.toNat j
    have idleJacks : j.group = .jacks → (s.placed sl q.tag.toNat j).jacksIdleJob j = true := fun g => by
      rw [State.idleJob, g] at idle
      rw [frame]
      exact idle
    obtain ⟨rest, jacks, jog⟩ := idle_remaining (s := s.placed sl q.tag.toNat j) (o := s.newRecord q.tag.toNat j) fits idleJacks
    generalize rem_eq : (s.placed sl q.tag.toNat j).idleRemaining (s.newRecord q.tag.toNat j) = rem at rest jacks jog
    have admitted : s.admitJob q.tag.toNat j = (s.placed sl q.tag.toNat j).writeEnd sl .complete rem := by
      rw [admitJob_eq _ _ place, if_pos idle, rem_eq]
    have wrote := wrote_writeEnd at_sl .complete rem
    obtain ⟨c, written⟩ := writeEnd_eq at_sl .complete rem
    have slots : ∀ k, k ≠ sl → ((s.placed sl q.tag.toNat j).writeEnd sl .complete rem).opAt k = s.opAt k := fun k hk =>
      (wrote.other (Ne.symm hk)).trans (by rw [placed_slot, if_neg (Ne.symm hk)])
    have still : ((s.placed sl q.tag.toNat j).writeEnd sl .complete rem).Calm := by
      have whole : Wrote s ((s.placed sl q.tag.toNat j).writeEnd sl .complete rem) sl _ := fun k => by
        rw [wrote k]
        split
        · rfl
        · next hk => rw [placed_slot, if_neg hk]
      refine calm_wrote calm.toUndisturbed whole ?_ ?_ rfl rfl fun k _ p hp => calm.waiting k p hp
      · rw [written, frame]
      · rw [written, frame]
    have after := follows_settle still
    have ends := endsOp_of_writeEnd at_sl after
    have table := placed_opt s sl q.tag.toNat j
    refine ⟨_, rem, (submit_admits h read ready job passes place).trans (by rw [admitted]), ?_, rest, jacks, ?_, fun k hk => ?_,
      ?_, ?_, ?_, ?_, ?_, ?_⟩
    · rw [ends.record, table]; rfl
    · intro k kind sub
      rw [jog k kind sub, frame]
      rfl
    · rw [ends.others k hk, placed_slot, if_neg (Ne.symm hk)]
    · rw [ends.counters.2.1, table]
    · rw [ends.counters.1, table]
    · rw [ends.list, table]; rfl
    · rw [ends.arbiter, frame]; rfl
    · have notices : (s.placed sl q.tag.toNat j).ntu = s.ntu := by rw [frame]
      have told := ends.told
      rw [show (s.newRecord q.tag.toNat j).tag = q.tag.toNat from rfl] at told
      exact ⟨told.coach.trans (by rw [notices]), told.service.trans (by rw [notices]), told.raised⟩
    · refine after.keepsBut (keepsBut_trans (t := s.placed sl q.tag.toNat j) ?_ ?_)
      · rw [frame]
        exact keepsBut_of
      · rw [written, frame]
        exact keepsBut_of
  · refine ⟨fun kind => ?_, fun kind => ?_, fun kind => ?_, fun k kind sub => ⟨fun dir => ?_, fun dir => ?_⟩,
      fun n group => ⟨fun kind => ?_, fun kind => ?_, fun kind dir => ?_, fun kind dir => ?_⟩,
      fun v kind value => ⟨fun zero => ?_, fun above => ?_⟩, fun kind dir => ?_, fun kind dir => ?_⟩
    · have group := fits_jacks fits (by tauto)
      simp [State.idleJob, group, State.jacksIdleJob, kind]
    · have group := fits_jacks fits (by tauto)
      simp [State.idleJob, group, State.jacksIdleJob, kind, State.allContact_iff]
    · have group := fits_jacks fits (by tauto)
      simp [State.idleJob, group, State.jacksIdleJob, kind]
    · have group := fits_jacks fits (by tauto)
      simp [State.idleJob, group, State.jacksIdleJob, kind, sub, dir, State.strokeLimit]
    · have group := fits_jacks fits (by tauto)
      simp [State.idleJob, group, State.jacksIdleJob, kind, sub, dir]
    · simp [State.idleJob, group, State.roomIdleJob, kind]
    · simp [State.idleJob, group, State.roomIdleJob, kind]
    · simp [State.idleJob, group, State.roomIdleJob, kind, Job.roomDir, dir]
    · simp [State.idleJob, group, State.roomIdleJob, kind, Job.roomDir, dir]
    · have group := fits_awning fits (by tauto)
      simp [State.idleJob, group, State.awningIdleJob, kind, value, zero]
    · have group := fits_awning fits (by tauto)
      simp [State.idleJob, group, State.awningIdleJob, kind, value, Nat.pos_iff_ne_zero.mp above, AwningUnit.gap, State.setTarget]
    · have group := fits_awning fits (by tauto)
      simp [State.idleJob, group, State.awningIdleJob, kind, dir]
    · have group := fits_awning fits (by tauto)
      simp [State.idleJob, group, State.awningIdleJob, kind, dir]

end Sys2Proof.Machine
end

section
namespace Sys2Proof.Machine

-- One declaration at a time, so that the memory the check takes stays small.
set_option Elab.async false

/-! ### Sweeps over the slots

An event that ends or stops several operations visits the slots in ascending order (R5). -/

/-- The tag of a record that has ended between two readings of its slot. -/
def newEnd (x y : Option Op) : Option Nat :=
  match y with
  | some o => if o.state.isEnded && !x.any (fun p => p.state.isEnded) then some o.tag else none
  | none => none

theorem newlyEnded_eq (s t : State) : s.newlyEnded t = slots.filterMap (fun sl => newEnd (s.opAt sl) (t.opAt sl)) := rfl

theorem newEnd_same (x : Option Op) : newEnd x x = none := by
  cases x with
  | none => rfl
  | some o => cases h : o.state.isEnded <;> simp [newEnd, h]

theorem newEnd_ended {o p : Op} (running : o.state.isEnded = false) (ended : p.state.isEnded = true) :
    newEnd (some o) (some p) = some p.tag := by simp [newEnd, running, ended]

theorem newEnd_running {x : Option Op} {p : Op} (running : p.state.isEnded = false) : newEnd x (some p) = none := by
  simp [newEnd, running]

/-- The visit of a slot writes this slot alone, and an end that it brings joins the ended list (R5). -/
structure Visited (u v : State) (sl : Slot) : Prop where
  others : ∀ k, sl ≠ k → v.opAt k = u.opAt k
  list : v.opt.endedList = u.opt.endedList ++ (newEnd (u.opAt sl) (v.opAt sl)).toList
  ends : v.opt.ends = u.opt.ends + (newEnd (u.opAt sl) (v.opAt sl)).toList.length
  counters : v.opt.admissions = u.opt.admissions ∧ v.opt.internalTag = u.opt.internalTag

theorem Visited.refl (u : State) (sl : Slot) : Visited u u sl :=
  ⟨fun _ _ => rfl, by simp [newEnd_same], by simp [newEnd_same], rfl, rfl⟩

theorem filterMap_cons_toList {α β : Type} (f : α → Option β) (a : α) (l : List α) :
    (a :: l).filterMap f = (f a).toList ++ l.filterMap f := by
  cases h : f a <;> simp [h]

/-- What a sweep leaves of the table: the slots it does not visit, the ends it brings in ascending order, the counters. -/
theorem sweep_visited {g : State → Slot → State} (h : ∀ u sl, Visited u (g u sl) sl) (l : List Slot) : l.Nodup → ∀ s : State,
    (∀ k, k ∉ l → (l.foldl g s).opAt k = s.opAt k)
    ∧ (l.foldl g s).opt.endedList
        = s.opt.endedList ++ l.filterMap (fun sl => newEnd (s.opAt sl) ((l.foldl g s).opAt sl))
    ∧ (l.foldl g s).opt.ends
        = s.opt.ends + (l.filterMap (fun sl => newEnd (s.opAt sl) ((l.foldl g s).opAt sl))).length
    ∧ (l.foldl g s).opt.admissions = s.opt.admissions ∧ (l.foldl g s).opt.internalTag = s.opt.internalTag := by
  induction l with
  | nil => exact fun _ s => ⟨fun _ _ => rfl, by simp, by simp, rfl, rfl⟩
  | cons a l ih =>
    intro distinct s
    obtain ⟨fresh, distinct⟩ := List.nodup_cons.mp distinct
    obtain ⟨others, list, ends, admissions, tag⟩ := ih distinct (g s a)
    have first := h s a
    have mine : (l.foldl g (g s a)).opAt a = (g s a).opAt a := others a fresh
    have rest : l.filterMap (fun sl => newEnd ((g s a).opAt sl) ((l.foldl g (g s a)).opAt sl))
        = l.filterMap (fun sl => newEnd (s.opAt sl) ((l.foldl g (g s a)).opAt sl)) :=
      List.filterMap_congr fun sl hs => by rw [first.others sl fun e => fresh (e ▸ hs)]
    rw [List.foldl_cons, filterMap_cons_toList, mine]
    refine ⟨fun k hk => ?_, ?_, ?_, admissions.trans first.counters.1, tag.trans first.counters.2⟩
    · obtain ⟨ha, hl⟩ := not_or.mp (mt List.mem_cons.mpr hk)
      rw [others k hl, first.others k (Ne.symm ha)]
    · rw [list, first.list, rest, List.append_assoc]
    · rw [ends, first.ends, rest, List.length_append, BitVec.natCast_eq_ofNat, BitVec.natCast_eq_ofNat, BitVec.natCast_eq_ofNat,
        BitVec.ofNat_add, BitVec.add_assoc]

/-- The visit of every record, slot by slot. -/
theorem visit_visited {p : State → Op → Bool} {f : State → Slot → State}
    (h : ∀ u sl o, u.opAt sl = some o → Visited u (f u sl) sl) (u : State) (sl : Slot) : Visited u (u.visit p f sl) sl := by
  cases ho : u.opAt sl with
  | none => rw [visit_none ho]; exact .refl u sl
  | some o =>
    rw [visit_some ho]
    split
    · exact h u sl o ho
    · exact .refl u sl

theorem eachOp_visited {p : State → Op → Bool} {f : State → Slot → State}
    (h : ∀ u sl o, u.opAt sl = some o → Visited u (f u sl) sl) (s : State) :
    (s.eachOp p f).opt.endedList = s.opt.endedList ++ s.newlyEnded (s.eachOp p f)
    ∧ (s.eachOp p f).opt.ends = s.opt.ends + (s.newlyEnded (s.eachOp p f)).length
    ∧ (s.eachOp p f).opt.admissions = s.opt.admissions ∧ (s.eachOp p f).opt.internalTag = s.opt.internalTag :=
  (sweep_visited (visit_visited h) slots (by decide) s).2

/-- A sweep leaves the blocks that each visit leaves. -/
theorem keepsBut_foldl {g : State → Slot → State} {b : List Block} (h : ∀ (u : State) sl, u.keepsBut (g u sl) b) (l : List Slot) (s : State) :
    s.keepsBut (l.foldl g s) b := by
  induction l generalizing s with
  | nil => exact keepsBut_refl s b
  | cons a l ih => exact keepsBut_trans (h s a) (ih (g s a))

theorem eachOp_keeps {p : State → Op → Bool} {f : State → Slot → State} {b : List Block}
    (h : ∀ (u : State) sl o, u.opAt sl = some o → u.keepsBut (f u sl) b) (s : State) : s.keepsBut (s.eachOp p f) b := by
  refine keepsBut_foldl (fun u sl => ?_) slots s
  show u.keepsBut (u.visit p f sl) b
  cases ho : u.opAt sl with
  | none => rw [visit_none ho]; exact keepsBut_refl u b
  | some o =>
    rw [visit_some ho]
    split
    · exact h u sl o ho
    · exact keepsBut_refl u b

/-! ### An end in its slot -/

/-- The blocks that an end reaches. -/
abbrev endBlocks : List Block := [.table, .arbiter, .jacks, .rooms, .awning, .orders, .claims]

theorem visited_writeEnd {s : State} {sl : Slot} {o : Op} (h : s.opAt sl = some o) (running : o.state.isEnded = false) (r : Result)
    (rem : Option Remaining) : Visited s (s.writeEnd sl r rem) sl := by
  obtain ⟨c, hc⟩ := writeEnd_eq h r rem
  have wrote := wrote_writeEnd h r rem
  refine ⟨fun k hk => wrote.other hk, ?_, ?_, ?_⟩
  · rw [wrote.self, h, newEnd_ended running rfl, hc]; rfl
  · rw [wrote.self, h, newEnd_ended running rfl, hc]; rfl
  · rw [hc]; exact ⟨rfl, rfl⟩

/-! ### Outputs off -/

/-- A group's outputs are off. -/
def State.groupOff (s : State) : Group → Prop
  | .jacks => s.lvc.pump = 0 ∧ ∀ k, (s.jack k).extending = false ∧ (s.jack k).retracting = false
  | .room n => (s.roomUnit n).noneDriven = true ∧ (s.roomUnit n).ramped = 0
  | .awning => s.awu.motor.driven = false ∧ s.awu.ramped = 0

theorem Motor.halt_driven (now : Nat) (m : Motor) : (m.halt now).driven = false := by
  unfold Motor.halt
  split
  · rfl
  · next h => exact Bool.eq_false_iff.mpr h

theorem cutGroup_off (s : State) (g : Group) : (s.cutGroup g).groupOff g := by
  cases g with
  | jacks => exact ⟨rfl, fun k => by simp [State.cutGroup, State.jack, Lvc.standDown, Lvc.closeValves]⟩
  | room n =>
    have halted : ((s.roomUnit n).haltAll s.now).a.driven = false ∧ ((s.roomUnit n).haltAll s.now).b.driven = false := by
      simp [RoomUnit.haltAll, RoomUnit.afterStop, RoomUnit.noneDriven, Motor.halt_driven]
    simp [State.groupOff, State.cutGroup, RoomUnit.noneDriven, RoomUnit.forget, RoomUnit.rest, halted]
  | awning =>
    refine ⟨?_, rfl⟩
    simp only [State.cutGroup, State.modAwning, AwningUnit.forget, AwningUnit.rest, AwningUnit.halt]
    split
    · exact Motor.halt_driven _ _
    · next h => exact Bool.eq_false_iff.mpr h

theorem cutGroup_keepsOff {s : State} {g : Group} (h : s.groupOff g) (k : Group) : (s.cutGroup k).groupOff g := by
  by_cases e : k = g
  · exact e ▸ cutGroup_off s k
  · cases g with
    | jacks =>
      cases k with
      | jacks => exact absurd rfl e
      | room n => exact h
      | awning => exact h
    | room n =>
      cases k with
      | room m =>
        have differ : m ≠ n := fun x => e (congrArg _ x)
        simpa [State.groupOff, State.cutGroup, State.modRoom_roomUnit, differ] using h
      | jacks => exact h
      | awning => exact h
    | awning =>
      cases k with
      | awning => exact absurd rfl e
      | jacks => exact h
      | room n => exact h

theorem forgetGroup_keepsOff {s : State} {g : Group} (h : s.groupOff g) (k : Group) : (s.forgetGroup k).groupOff g := by
  cases k with
  | jacks =>
    cases g with
    | jacks => exact ⟨h.1, fun k => by simp [State.forgetGroup, State.jack, Lvc.standDown, Lvc.closeValves]⟩
    | room n => exact h
    | awning => exact h
  | room m =>
    cases g with
    | room n =>
      by_cases e : m = n
      · subst e
        exact ⟨by simpa [State.forgetGroup, RoomUnit.forget, RoomUnit.rest, RoomUnit.noneDriven, State.groupOff] using h.1,
          by simp [State.forgetGroup, RoomUnit.forget, RoomUnit.rest]⟩
      · simpa [State.groupOff, State.forgetGroup, State.modRoom_roomUnit, e] using h
    | jacks => exact h
    | awning => exact h
  | awning =>
    cases g with
    | awning => exact ⟨h.1, rfl⟩
    | jacks => exact h
    | room n => exact h

theorem writeEnd_keepsOff {s : State} {sl : Slot} {o : Op} (ho : s.opAt sl = some o) (r : Result) (rem : Option Remaining) {g : Group}
    (h : s.groupOff g) : (s.writeEnd sl r rem).groupOff g := by
  obtain ⟨c, hc⟩ := writeEnd_eq ho r rem
  have kept := forgetGroup_keepsOff h o.job.group
  have pump : (s.forgetGroup o.job.group).lvc.pump = s.lvc.pump := by cases o.job.group <;> rfl
  rw [hc]
  cases g with
  | jacks => exact kept
  | room n => exact kept
  | awning => exact kept

end Sys2Proof.Machine
end

section
namespace Sys2Proof.Machine

-- One declaration at a time, so that the memory the check takes stays small.
set_option Elab.async false

/-- What every visit keeps, and the visit of one slot brings about, stands after the sweep. -/
theorem sweep_brings {g : State → Slot → State} (h : ∀ u sl k, sl ≠ k → (g u sl).opAt k = u.opAt k) {P : State → Prop}
    (keeps : ∀ u k, P u → P (g u k)) {sl : Slot} {x : Option Op} (brings : ∀ u, u.opAt sl = x → P (g u sl)) (l : List Slot) :
    sl ∈ l → ∀ s : State, s.opAt sl = x → P (l.foldl g s) := by
  have stays : ∀ (l : List Slot) (u : State), P u → P (l.foldl g u) := by
    intro l
    induction l with
    | nil => exact fun _ hu => hu
    | cons a l ih => exact fun u hu => ih _ (keeps u a hu)
  induction l with
  | nil => exact fun hm => absurd hm List.not_mem_nil
  | cons a l ih =>
    intro hm s hs
    rw [List.foldl_cons]
    by_cases e : a = sl
    · subst e
      exact stays l _ (brings s hs)
    · exact ih ((List.mem_cons.mp hm).resolve_left (Ne.symm e)) _ ((h s a sl e).trans hs)

theorem newlyEnded_of_opt {s t u : State} (h : u.opt = t.opt) : s.newlyEnded u = s.newlyEnded t := by
  simp only [newlyEnded_eq, opAt_of_opt h]

/-! ### An immediate end (R17) -/

theorem immediate_none {st : OpState} {r : Result} (h : st.immediate r = none) : st.isEnded = true := by
  by_contra running
  obtain ⟨x, hx⟩ := immediate_some r (Bool.eq_false_iff.mpr running)
  rw [h] at hx
  cases hx

/-- The group of an operation that moves, its outputs cut. -/
def State.shed (s : State) (o : Op) : State := if o.state.active then s.cutGroup o.job.group else s

theorem endNow_eq {s : State} {sl : Slot} {o : Op} (h : s.opAt sl = some o) {r x : Result} (hx : o.state.immediate r = some x) :
    s.endNow sl r = (s.shed o).writeEnd sl x (s.remainingOf o) := by
  simp only [State.endNow, h, hx]
  rfl

theorem cutGroup_frame (s : State) (g : Group) :
    s.cutGroup g = { s with lvc := (s.cutGroup g).lvc, sdc := (s.cutGroup g).sdc, awu := (s.cutGroup g).awu } := by
  cases g <;> rfl

theorem shed_frame (s : State) (o : Op) :
    s.shed o = { s with lvc := (s.shed o).lvc, sdc := (s.shed o).sdc, awu := (s.shed o).awu } := by
  unfold State.shed
  split
  · exact cutGroup_frame s _
  · rfl

theorem shed_opAt (s : State) (o : Op) (k : Slot) : (s.shed o).opAt k = s.opAt k := by rw [shed_frame]; rfl

theorem shed_keepsOff {s : State} {g : Group} (h : s.groupOff g) (o : Op) : (s.shed o).groupOff g := by
  unfold State.shed
  split
  · exact cutGroup_keepsOff h _
  · exact h

/-- An ENDED record is left as it is. -/
theorem endNow_ended {s : State} {sl : Slot} {o : Op} (h : s.opAt sl = some o) (ended : o.state.isEnded = true) (r : Result) :
    s.endNow sl r = s := by
  have : o.state.immediate r = none := by
    cases e : o.state <;> simp_all [OpState.isEnded, OpState.immediate]
  simp only [State.endNow, h, this]

theorem endNow_self {s : State} {sl : Slot} {o : Op} (h : s.opAt sl = some o) {r x : Result} (hx : o.state.immediate r = some x) :
    (s.endNow sl r).opAt sl = some { o with state := .ended x (s.remainingOf o) (s.opt.ends + 1), resumed := false } := by
  rw [endNow_eq h hx, (wrote_writeEnd ((shed_opAt s o sl).trans h) x _).self, shed_frame]

/-- What an immediate end does, whatever the state of its record. -/
theorem visited_endNow (s : State) (sl : Slot) (r : Result) : Visited s (s.endNow sl r) sl := by
  cases h : s.opAt sl with
  | none =>
    have : s.endNow sl r = s := by simp only [State.endNow, h]
    rw [this]; exact .refl s sl
  | some o =>
    cases hx : o.state.immediate r with
    | none =>
      have : s.endNow sl r = s := by simp only [State.endNow, h, hx]
      rw [this]; exact .refl s sl
    | some x =>
      have v := visited_writeEnd (s := s.shed o) ((shed_opAt s o sl).trans h) (immediate_notEnded hx) x (s.remainingOf o)
      have opt : (s.shed o).opt = s.opt := by rw [shed_frame]
      rw [endNow_eq h hx]
      refine ⟨fun k hk => (v.others k hk).trans (shed_opAt s o k), ?_, ?_, ?_⟩
      · rw [v.list, shed_opAt, opt]
      · rw [v.ends, shed_opAt, opt]
      · rw [v.counters.1, v.counters.2, opt]; exact ⟨rfl, rfl⟩

theorem endNow_keeps {s : State} {sl : Slot} {o : Op} (h : s.opAt sl = some o) (r : Result) :
    s.keepsBut (s.endNow sl r) endBlocks := by
  cases hx : o.state.immediate r with
  | none =>
    have : s.endNow sl r = s := by simp only [State.endNow, h, hx]
    rw [this]; exact keepsBut_refl s _
  | some x =>
    rw [endNow_eq h hx]
    refine keepsBut_trans (t := s.shed o) ?_ (writeEnd_keeps ((shed_opAt s o sl).trans h) x _)
    rw [shed_frame]
    exact keepsBut_of

/-- The sums apart, an immediate end takes its slot out of the queue. -/
theorem endNow_arbiter {s : State} {sl : Slot} {o : Op} (h : s.opAt sl = some o) (r : Result) :
    (s.endNow sl r).sta.stagger = s.sta.stagger ∧ (s.endNow sl r).sta.supply = s.sta.supply
    ∧ (s.endNow sl r).sta.queue = if o.state.isEnded then s.sta.queue else s.sta.queue.filter (fun q => q != sl) := by
  cases hx : o.state.immediate r with
  | none =>
    have same : s.endNow sl r = s := by simp only [State.endNow, h, hx]
    rw [same, if_pos (immediate_none hx)]; exact ⟨rfl, rfl, rfl⟩
  | some x =>
    obtain ⟨c, hc⟩ := writeEnd_eq ((shed_opAt s o sl).trans h) x (s.remainingOf o)
    have sta : (s.shed o).sta = s.sta := by rw [shed_frame]
    rw [endNow_eq h hx, hc, immediate_notEnded hx, ← sta]
    exact ⟨rfl, rfl, rfl⟩

theorem endNow_keepsOff {s : State} {sl : Slot} {o : Op} (h : s.opAt sl = some o) (r : Result) {g : Group} (off : s.groupOff g) :
    (s.endNow sl r).groupOff g := by
  cases hx : o.state.immediate r with
  | none =>
    have : s.endNow sl r = s := by simp only [State.endNow, h, hx]
    rwa [this]
  | some x =>
    rw [endNow_eq h hx]
    exact writeEnd_keepsOff ((shed_opAt s o sl).trans h) x _ (shed_keepsOff off o)

theorem endNow_off {s : State} {sl : Slot} {o : Op} (h : s.opAt sl = some o) (moves : o.state.active = true) (r : Result) :
    (s.endNow sl r).groupOff o.job.group := by
  cases hx : o.state.immediate r with
  | none =>
    have := active_notEnded moves
    rw [immediate_none hx] at this
    cases this
  | some x =>
    rw [endNow_eq h hx]
    refine writeEnd_keepsOff ((shed_opAt s o sl).trans h) x _ ?_
    rw [State.shed, if_pos moves]
    exact cutGroup_off s _

/-! ### Every operation that a test names, ended at once -/

theorem endAll_slot (s : State) (p : Op → Bool) (r : Result) (sl : Slot) :
    ∃ u : State, u.opAt sl = s.opAt sl ∧ (s.endAll p r).opAt sl
      = (u.visit (fun _ o => !o.state.isEnded && p o) (fun s sl => s.endNow sl r) sl).opAt sl := by
  obtain ⟨u, -, same, visited⟩ := eachOp_slot (p := fun _ o => !o.state.isEnded && p o) (f := fun s sl => s.endNow sl r)
    (R := fun _ => True) (fun u sl _ _ _ _ => ⟨trivial, (visited_endNow u sl r).others⟩) (s := s) trivial sl
  exact ⟨u, same, visited⟩

theorem endAll_free {s : State} {p : Op → Bool} {r : Result} {sl : Slot} (h : s.opAt sl = none) :
    (s.endAll p r).opAt sl = none := by
  obtain ⟨u, same, visited⟩ := endAll_slot s p r sl
  rw [visited, visit_none (same.trans h), same, h]

theorem endAll_spared {s : State} {p : Op → Bool} {r : Result} {sl : Slot} {o : Op} (h : s.opAt sl = some o)
    (spared : o.state.isEnded = true ∨ p o = false) : (s.endAll p r).opAt sl = some o := by
  obtain ⟨u, same, visited⟩ := endAll_slot s p r sl
  have out : (!o.state.isEnded && p o) = false := by rcases spared with e | e <;> simp [e]
  rw [visited, visit_some (same.trans h), if_neg (by simp [out]), same, h]

theorem endAll_named {s : State} {p : Op → Bool} {r x : Result} {sl : Slot} {o : Op} (h : s.opAt sl = some o) (named : p o = true)
    (hx : o.state.immediate r = some x) :
    ∃ rem n, (s.endAll p r).opAt sl = some { o with state := .ended x rem n, resumed := false } := by
  obtain ⟨u, same, visited⟩ := endAll_slot s p r sl
  have hit : (!o.state.isEnded && p o) = true := by simp [named, immediate_notEnded hx]
  have at_u := same.trans h
  rw [visited, visit_some at_u, if_pos hit, endNow_self at_u hx]
  exact ⟨_, _, rfl⟩

theorem endAll_lists (s : State) (p : Op → Bool) (r : Result) :
    (s.endAll p r).opt.endedList = s.opt.endedList ++ s.newlyEnded (s.endAll p r)
    ∧ (s.endAll p r).opt.ends = s.opt.ends + (s.newlyEnded (s.endAll p r)).length
    ∧ (s.endAll p r).opt.admissions = s.opt.admissions ∧ (s.endAll p r).opt.internalTag = s.opt.internalTag :=
  eachOp_visited (fun u sl _ _ => visited_endNow u sl r) s

theorem endAll_keeps (s : State) (p : Op → Bool) (r : Result) : s.keepsBut (s.endAll p r) endBlocks :=
  eachOp_keeps (fun _ _ _ h => endNow_keeps h r) s

/-- What every immediate end keeps, and that of one record brings about, stands once all have ended. -/
theorem endAll_brings {s : State} {p : Op → Bool} {r : Result} {P : State → Prop} {sl : Slot} {o : Op} (h : s.opAt sl = some o)
    (running : o.state.isEnded = false) (named : p o = true)
    (keeps : ∀ (u : State) k q, u.opAt k = some q → P u → P (u.endNow k r))
    (brings : ∀ u : State, u.opAt sl = some o → P (u.endNow sl r)) : P (s.endAll p r) := by
  refine sweep_brings (g := State.visit (fun _ o => !o.state.isEnded && p o) (fun s sl => s.endNow sl r)) (sl := sl)
    (fun u a k hk => ((visit_visited (fun u sl _ _ => visited_endNow u sl r)) u a).others k hk) (fun u k hu => ?_)
    (fun u hu => ?_) slots (mem_slots sl) s h
  · cases hq : u.opAt k with
    | none => rwa [visit_none hq]
    | some q =>
      rw [visit_some hq]
      split
      · exact keeps u k q hq hu
      · exact hu
  · rw [visit_some hu, if_pos (by simp [running, named])]
    exact brings u hu

/-- Beside the sums and the queue, the Arbiter stands. -/
theorem endAll_arbiter (s : State) (p : Op → Bool) (r : Result) :
    (s.endAll p r).sta.stagger = s.sta.stagger ∧ (s.endAll p r).sta.supply = s.sta.supply
    ∧ ∀ k, k ∈ (s.endAll p r).sta.queue → k ∈ s.sta.queue := by
  have sweep : ∀ (l : List Slot) (u : State),
      let v := l.foldl (State.visit (fun _ o => !o.state.isEnded && p o) (fun s sl => s.endNow sl r)) u
      v.sta.stagger = u.sta.stagger ∧ v.sta.supply = u.sta.supply ∧ ∀ k, k ∈ v.sta.queue → k ∈ u.sta.queue := by
    intro l
    induction l with
    | nil => exact fun u => ⟨rfl, rfl, fun _ hk => hk⟩
    | cons a l ih =>
      intro u
      obtain ⟨h1, h2, h3⟩ := ih (u.visit (fun _ o => !o.state.isEnded && p o) (fun s sl => s.endNow sl r) a)
      have first : let v := u.visit (fun _ o => !o.state.isEnded && p o) (fun s sl => s.endNow sl r) a
          v.sta.stagger = u.sta.stagger ∧ v.sta.supply = u.sta.supply ∧ ∀ k, k ∈ v.sta.queue → k ∈ u.sta.queue := by
        cases ho : u.opAt a with
        | none => rw [visit_none ho]; exact ⟨rfl, rfl, fun _ hk => hk⟩
        | some o =>
          rw [visit_some ho]
          split
          · obtain ⟨e1, e2, e3⟩ := endNow_arbiter ho r
            refine ⟨e1, e2, fun k hk => ?_⟩
            rw [e3] at hk
            split at hk
            · exact hk
            · exact List.mem_of_mem_filter hk
          · exact ⟨rfl, rfl, fun _ hk => hk⟩
      exact ⟨h1.trans first.1, h2.trans first.2.1, fun k hk => first.2.2 k (h3 k hk)⟩
  exact sweep slots s

/-- An operation that has ended has left the queue. -/
theorem endAll_unqueued {s : State} {p : Op → Bool} {r : Result} {sl : Slot} {o : Op} (h : s.opAt sl = some o)
    (running : o.state.isEnded = false) (named : p o = true) : sl ∉ (s.endAll p r).sta.queue := by
  refine endAll_brings (P := fun u => sl ∉ u.sta.queue) h running named (fun u k q hq out => ?_) fun u hu => ?_
  · rw [(endNow_arbiter hq r).2.2]
    split
    · exact out
    · exact fun hk => out (List.mem_of_mem_filter hk)
  · rw [(endNow_arbiter hu r).2.2, if_neg (by simp [running])]
    simp

theorem endAll_off {s : State} {p : Op → Bool} {r : Result} {sl : Slot} {o : Op} (h : s.opAt sl = some o)
    (moves : o.state.active = true) (named : p o = true) : (s.endAll p r).groupOff o.job.group :=
  endAll_brings (P := fun u => u.groupOff o.job.group) h (active_notEnded moves) named
    (fun _ _ _ hq off => endNow_keepsOff hq r off) fun _ hu => endNow_off hu moves r

/-! ### HALT_ALL -/

theorem endAll_allEnded (s : State) (r : Result) : (s.endAll (fun _ => true) r).allEnded := by
  intro sl o ho
  cases h : s.opAt sl with
  | none =>
    rw [endAll_free h] at ho
    cases ho
  | some q =>
    cases hx : q.state.immediate r with
    | none =>
      have ended := immediate_none hx
      rw [endAll_spared h (.inl ended)] at ho
      cases ho
      exact ended
    | some x =>
      obtain ⟨rem, n, h'⟩ := endAll_named (p := fun _ => true) h rfl hx
      rw [h'] at ho
      cases ho
      rfl

/-- Settles O28: every record is visited and ended, and the end of the event, with nothing running, moves nothing. -/
theorem haltAllEndsAll : Obligations.HaltAllEndsAll := by
  intro s l h _
  have after := follows_settle (calm_allEnded (endAll_allEnded s (.cancelled .halt)))
  have table := opAt_of_opt after.table
  obtain ⟨list, ends, admissions, -⟩ := endAll_lists s (fun _ => true) (.cancelled .halt)
  obtain ⟨stagger, supply, within⟩ := endAll_arbiter s (fun _ => true) (.cancelled .halt)
  refine ⟨_, congrArg _ (request_accepted h (f := handleHaltAll) rfl), fun sl o ho => ?_, fun sl free => ?_,
    fun sl o ho => ⟨fun ended => ?_, fun r ph bound => ?_, fun running unbound => ?_, fun moves => ?_⟩, ?_, ?_, ?_, fun queued => ?_,
    ?_, ?_, after.keepsBut (endAll_keeps s _ _)⟩
  · rw [table] at ho
    exact endAll_allEnded s _ sl o ho
  · rw [table, endAll_free free]
  · rw [table, endAll_spared ho (.inl ended)]
  · rw [table]
    exact endAll_named ho rfl (by rw [bound]; rfl)
  · rw [table]
    refine endAll_named ho rfl ?_
    cases e : o.state with
    | ended => simp [e, OpState.isEnded] at running
    | stopping d ph =>
      cases d with
      | ended r => exact absurd e (unbound r ph)
      | held => rfl
    | admitted => rfl
    | running => rfl
    | held => rfl
  · have off := endAll_off (p := fun _ => true) (r := .cancelled .halt) ho moves rfl
    refine ⟨fun group => ?_, fun n group => ?_, fun group => ?_⟩
    · rw [group] at off
      simpa only [State.groupOff, State.jack, after.jacks] using off
    · rw [group] at off
      simpa only [State.groupOff, State.roomUnit, after.rooms] using off
    · rw [group] at off
      simpa only [State.groupOff, after.awning] using off
  · rw [newlyEnded_of_opt after.table, after.table, list]
  · rw [newlyEnded_of_opt after.table, after.table, ends]
  · rw [after.table, admissions]
  · rw [after.arbiter]
    refine List.eq_nil_iff_forall_not_mem.mpr fun k hk => ?_
    obtain ⟨o, ho, running⟩ := queued k (within k hk)
    exact endAll_unqueued ho running rfl hk
  · rw [after.arbiter, stagger]
  · rw [after.arbiter, supply]

end Sys2Proof.Machine
end

section
namespace Sys2Proof.Machine

-- One declaration at a time, so that the memory the check takes stays small.
set_option Elab.async false

/-! ### What a stop, a cancel and a hold leave beside their record -/

/-- A step of the table that cuts no output: what it keeps of the other blocks. -/
structure Eased (s t : State) : Prop where
  blocks : s.keepsBut t endBlocks
  rest : ∀ g, t.groupAtRest g = s.groupAtRest g
  arbiter : t.sta = { s.sta with queue := t.sta.queue, resSum := t.sta.resSum, normalSum := t.sta.normalSum }
  queue : ∀ k, k ∈ t.sta.queue → k ∈ s.sta.queue
  claims : ∀ g, t.claimOf g = s.claimOf g ∨ s.claimOf g = .pending ∧ t.claimOf g = .claimed
  notices : t.ntu = { s.ntu with coach := t.ntu.coach, service := t.ntu.service }

theorem claims_trans {s t u : State} (h : ∀ g, t.claimOf g = s.claimOf g ∨ s.claimOf g = .pending ∧ t.claimOf g = .claimed)
    (k : ∀ g, u.claimOf g = t.claimOf g ∨ t.claimOf g = .pending ∧ u.claimOf g = .claimed) (g : Group) :
    u.claimOf g = s.claimOf g ∨ s.claimOf g = .pending ∧ u.claimOf g = .claimed := by
  rcases h g with same | ⟨pending, claimed⟩
  · rw [← same]; exact k g
  · rcases k g with same | ⟨again, -⟩
    · exact .inr ⟨pending, same.trans claimed⟩
    · rw [claimed] at again; cases again

theorem Eased.free {s t : State} (h : Eased s t) {g : Group} (free : s.claimOf g = .free) : t.claimOf g = .free := by
  rcases h.claims g with same | ⟨pending, -⟩
  · exact same.trans free
  · rw [free] at pending; cases pending

theorem Eased.refl (s : State) : Eased s s :=
  ⟨keepsBut_refl s _, fun _ => rfl, rfl, fun _ h => h, fun _ => .inl rfl, rfl⟩

theorem Eased.trans {s t u : State} (h : Eased s t) (k : Eased t u) : Eased s u :=
  ⟨keepsBut_trans h.blocks k.blocks, fun g => (k.rest g).trans (h.rest g), by rw [k.arbiter, h.arbiter],
    fun x hx => h.queue x (k.queue x hx), claims_trans h.claims k.claims, by rw [k.notices, h.notices]⟩

theorem forgetGroup_rest (s : State) (g k : Group) : (s.forgetGroup g).groupAtRest k = s.groupAtRest k := by
  cases g with
  | jacks => cases k <;> rfl
  | room n =>
    cases k with
    | room m =>
      by_cases e : n = m
      · subst e
        simp only [State.groupAtRest, State.forgetGroup, State.modRoom_roomUnit_self]
        rfl
      · simp only [State.groupAtRest, State.forgetGroup, State.modRoom_roomUnit, if_neg e]
    | jacks => rfl
    | awning => rfl
  | awning => cases k <;> rfl

theorem restGroup_rest (s : State) (g k : Group) : (s.restGroup g).groupAtRest k = s.groupAtRest k := by
  cases g with
  | jacks => cases k <;> rfl
  | room n =>
    cases k with
    | room m =>
      by_cases e : n = m
      · subst e
        simp only [State.groupAtRest, State.restGroup, State.modRoom_roomUnit_self]
        rfl
      · simp only [State.groupAtRest, State.restGroup, State.modRoom_roomUnit, if_neg e]
    | jacks => rfl
    | awning => rfl
  | awning => cases k <;> rfl

theorem rampGroup_rest (s : State) (g k : Group) : (s.rampGroup g).groupAtRest k = s.groupAtRest k := by
  cases g with
  | jacks => cases k <;> rfl
  | room n =>
    cases k with
    | room m =>
      by_cases e : n = m
      · subst e
        simp only [State.groupAtRest, State.rampGroup, State.modRoom_roomUnit_self]
        rfl
      · simp only [State.groupAtRest, State.rampGroup, State.modRoom_roomUnit, if_neg e]
    | jacks => rfl
    | awning => rfl
  | awning => cases k <;> rfl

/-- Settling the claims moves pending groups alone. -/
theorem settleClaims_moves {s u : State} (h : u.liu = s.liu) (g : Group) :
    u.settleClaims.claimOf g = s.claimOf g ∨ s.claimOf g = .pending ∧ u.settleClaims.claimOf g = .claimed := by
  have same : u.claimOf g = s.claimOf g := by rw [State.claimOf, State.claimOf, h]
  rw [settleClaims_claimOf, same]
  split
  · next moved => exact .inr ⟨moved.1, rfl⟩
  · exact .inl rfl

theorem writeEnd_moves {s : State} {sl : Slot} {o : Op} (ho : s.opAt sl = some o) (r : Result) (rem : Option Remaining) (g : Group) :
    (s.writeEnd sl r rem).claimOf g = s.claimOf g ∨ s.claimOf g = .pending ∧ (s.writeEnd sl r rem).claimOf g = .claimed := by
  obtain ⟨u, hu, liu⟩ := writeEnd_settles ho r rem
  rw [hu]
  exact settleClaims_moves liu g

theorem moveHeld_moves {s : State} {sl : Slot} {o : Op} (ho : s.opAt sl = some o) (x : HoldReason) (g : Group) :
    (s.moveHeld sl x).claimOf g = s.claimOf g ∨ s.claimOf g = .pending ∧ (s.moveHeld sl x).claimOf g = .claimed := by
  obtain ⟨u, hu, liu⟩ := moveHeld_settles ho x
  rw [hu]
  exact settleClaims_moves liu g

theorem eased_writeEnd {s : State} {sl : Slot} {o : Op} (h : s.opAt sl = some o) (r : Result) (rem : Option Remaining) :
    Eased s (s.writeEnd sl r rem) := by
  obtain ⟨c, hc⟩ := writeEnd_eq h r rem
  refine ⟨writeEnd_keeps h r rem, fun g => ?_, ?_, fun k hk => ?_, writeEnd_moves h r rem, ?_⟩
  · have pump : (s.forgetGroup o.job.group).lvc.pump = s.lvc.pump := by cases o.job.group <;> rfl
    rw [← forgetGroup_rest s o.job.group g, hc]
    cases g <;> rfl
  · rw [hc]
  · rw [hc] at hk
    exact List.mem_of_mem_filter hk
  · rw [hc]; rfl

theorem moveHeld_keeps {s : State} {sl : Slot} {o : Op} (h : s.opAt sl = some o) (x : HoldReason) :
    s.keepsBut (s.moveHeld sl x) endBlocks := by
  obtain ⟨c, hc⟩ := moveHeld_eq h x
  have entries := release_entries s o
  rw [hc]
  exact keepsBut_of (clearance := fun _ k => by
    show ((s.release o).clm.entries.get k).lastA = _ ∧ ((s.release o).clm.entries.get k).lastB = _
    rw [entries]; exact ⟨rfl, rfl⟩)

theorem eased_moveHeld {s : State} {sl : Slot} {o : Op} (h : s.opAt sl = some o) (x : HoldReason) : Eased s (s.moveHeld sl x) := by
  obtain ⟨c, hc⟩ := moveHeld_eq h x
  refine ⟨moveHeld_keeps h x, fun g => ?_, ?_, fun k hk => ?_, moveHeld_moves h x, ?_⟩
  · rw [← restGroup_rest s o.job.group g, hc]
    cases g <;> rfl
  · rw [hc]
  · rw [hc] at hk
    exact List.mem_of_mem_filter hk
  · rw [hc]; rfl

theorem eased_setOp (s : State) (sl : Slot) (o : Op) : Eased s (s.setOp sl o) :=
  ⟨keepsBut_of, fun g => by cases g <;> rfl, rfl, fun _ h => h, fun _ => .inl rfl, rfl⟩

theorem rampGroup_frame (s : State) (g : Group) :
    s.rampGroup g = { s with lvc := (s.rampGroup g).lvc, sdc := (s.rampGroup g).sdc, awu := (s.rampGroup g).awu } := by
  cases g <;> rfl

theorem eased_rampGroup (s : State) (g : Group) : Eased s (s.rampGroup g) := by
  refine ⟨?_, rampGroup_rest s g, ?_, fun k hk => ?_, fun k => .inl ?_, ?_⟩
  · rw [rampGroup_frame]; exact keepsBut_of
  · rw [rampGroup_frame]
  · rw [rampGroup_frame] at hk; exact hk
  · rw [rampGroup_frame]; rfl
  · rw [rampGroup_frame]

theorem eased_endOp (s : State) (sl : Slot) (r : Result) : Eased s (s.endOp sl r) := by
  unfold State.endOp
  split
  · exact .refl s
  · next o ho => exact eased_writeEnd ho r _

theorem eased_motionCeased (s : State) (sl : Slot) : Eased s (s.motionCeased sl) := by
  unfold State.motionCeased
  split
  · exact .refl s
  · next o ho =>
    split
    · exact eased_endOp s sl _
    · exact eased_moveHeld ho _
    · exact .refl s

theorem eased_stopToward (s : State) (sl : Slot) (d : Dest) : Eased s (s.stopToward sl d) := by
  unfold State.stopToward
  split
  · exact .refl s
  · next o _ =>
    split
    · next ph _ =>
      have stopped := (eased_setOp s sl { o with state := .stopping d ph }).trans (eased_rampGroup _ o.job.group)
      dsimp only
      split
      · exact stopped.trans (eased_motionCeased _ sl)
      · exact stopped
    · exact .refl s

theorem eased_cancelOp (s : State) (sl : Slot) (r : Result) : Eased s (s.cancelOp sl r) := by
  unfold State.cancelOp
  split
  · exact .refl s
  · next o _ =>
    split
    · exact eased_endOp s sl r
    · exact eased_endOp s sl r
    · exact eased_stopToward s sl _
    · exact eased_setOp s sl _
    · exact .refl s
    · exact .refl s

theorem eased_holdOp (s : State) (sl : Slot) (x : HoldReason) : Eased s (s.holdOp sl x) := by
  unfold State.holdOp
  split
  · exact .refl s
  · next o ho =>
    split
    · exact .refl s
    · split
      · exact eased_moveHeld ho x
      · exact eased_stopToward s sl _
      · exact .refl s

/-- A sweep of such steps is one. -/
theorem eased_eachOp {p : State → Op → Bool} {f : State → Slot → State} (h : ∀ u sl, Eased u (f u sl)) (s : State) :
    Eased s (s.eachOp p f) := by
  have sweep : ∀ (l : List Slot) (u : State), Eased u (l.foldl (State.visit p f) u) := by
    intro l
    induction l with
    | nil => exact .refl
    | cons a l ih =>
      intro u
      refine Eased.trans (t := u.visit p f a) ?_ (ih _)
      cases ho : u.opAt a with
      | none => rw [visit_none ho]; exact .refl u
      | some o =>
        rw [visit_some ho]
        split
        · exact h u a
        · exact .refl u
  exact sweep slots s

/-! ### Their visits -/

/-- A record that has not ended, rewritten before its slot's visit goes on. -/
theorem Visited.after_write {u v w : State} {sl : Slot} {p : Op} (hp : v.opAt sl = some p) (running : p.state.isEnded = false)
    (before : ∀ o, u.opAt sl = some o → o.state.isEnded = false) (others : ∀ k, sl ≠ k → v.opAt k = u.opAt k)
    (lists : v.opt.endedList = u.opt.endedList ∧ v.opt.ends = u.opt.ends ∧ v.opt.admissions = u.opt.admissions
      ∧ v.opt.internalTag = u.opt.internalTag) (h : Visited v w sl) : Visited u w sl := by
  have same : newEnd (u.opAt sl) (w.opAt sl) = newEnd (v.opAt sl) (w.opAt sl) := by
    cases hw : w.opAt sl with
    | none => rfl
    | some q =>
      cases hu : u.opAt sl with
      | none => simp [newEnd, hp, running]
      | some o => simp [newEnd, hp, running, before o hu]
  obtain ⟨list, ends, admissions, tag⟩ := lists
  exact ⟨fun k hk => (h.others k hk).trans (others k hk), by rw [h.list, same, list], by rw [h.ends, same, ends],
    h.counters.1.trans admissions, h.counters.2.trans tag⟩

theorem visited_setOp {s : State} {sl : Slot} (p : Op) (running : p.state.isEnded = false) : Visited s (s.setOp sl p) sl :=
  ⟨fun _ hk => (wrote_setOp s sl p).other hk, by rw [(wrote_setOp s sl p).self, newEnd_running running]; simp [State.setOp],
    by rw [(wrote_setOp s sl p).self, newEnd_running running]; simp [State.setOp], rfl, rfl⟩

theorem visited_endOp {s : State} {sl : Slot} {o : Op} (h : s.opAt sl = some o) (running : o.state.isEnded = false) (r : Result) :
    Visited s (s.endOp sl r) sl := by
  simp only [State.endOp, h]
  exact visited_writeEnd h running r _

theorem visited_moveHeld {s : State} {sl : Slot} {o : Op} (h : s.opAt sl = some o) (x : HoldReason) :
    Visited s (s.moveHeld sl x) sl := by
  obtain ⟨c, hc⟩ := moveHeld_eq h x
  have wrote := wrote_moveHeld h x
  have none : newEnd (s.opAt sl) ((s.moveHeld sl x).opAt sl) = none := by
    rw [wrote.self]
    exact newEnd_running rfl
  refine ⟨fun k hk => wrote.other hk, ?_, ?_, ?_⟩
  · rw [none, hc]; simp
  · rw [none, hc]; simp
  · rw [hc]; exact ⟨rfl, rfl⟩

theorem visited_motionCeased (s : State) (sl : Slot) : Visited s (s.motionCeased sl) sl := by
  unfold State.motionCeased
  split
  · exact .refl s sl
  · next o ho =>
    split
    · next e => exact visited_endOp ho (by rw [e]; rfl) _
    · exact visited_moveHeld ho _
    · exact .refl s sl

theorem visited_stopToward (s : State) (sl : Slot) (d : Dest) : Visited s (s.stopToward sl d) sl := by
  unfold State.stopToward
  split
  · exact .refl s sl
  · next o ho =>
    split
    · next ph running =>
      have opt : ((s.setOp sl { o with state := .stopping d ph }).rampGroup o.job.group).opt
          = (s.setOp sl { o with state := .stopping d ph }).opt := (quiet_rampGroup _ _).table
      have wrote := (wrote_setOp s sl { o with state := .stopping d ph }).of_opt opt
      have then_visit : ∀ {w}, Visited ((s.setOp sl { o with state := .stopping d ph }).rampGroup o.job.group) w sl →
          Visited s w sl :=
        Visited.after_write wrote.self rfl (fun q hq => by rw [ho] at hq; cases hq; rw [running]; rfl)
          (fun _ hk => wrote.other hk) (by rw [opt]; exact ⟨rfl, rfl, rfl, rfl⟩)
      dsimp only
      split
      · exact then_visit (visited_motionCeased _ sl)
      · exact then_visit (.refl _ sl)
    · exact .refl s sl

theorem visited_cancelOp (s : State) (sl : Slot) (r : Result) : Visited s (s.cancelOp sl r) sl := by
  unfold State.cancelOp
  split
  · exact .refl s sl
  · next o ho =>
    split
    · next e => exact visited_endOp ho (by rw [e]; rfl) r
    · next e => exact visited_endOp ho (by rw [e]; rfl) r
    · exact visited_stopToward s sl _
    · exact visited_setOp _ rfl
    · exact .refl s sl
    · exact .refl s sl

theorem visited_holdOp (s : State) (sl : Slot) (x : HoldReason) : Visited s (s.holdOp sl x) sl := by
  unfold State.holdOp
  split
  · exact .refl s sl
  · next o ho =>
    split
    · exact .refl s sl
    · split
      · exact visited_moveHeld ho x
      · exact visited_stopToward s sl _
      · exact .refl s sl

/-! ### Their records -/

theorem stopToward_ended {s : State} {sl : Slot} {o : Op} {ph : Option Phase} (ho : s.opAt sl = some o) (hs : o.state = .running ph)
    (r : Result) : ∃ after, (s.stopToward sl (.ended r)).opAt sl = some after
      ∧ if s.groupAtRest o.job.group then ∃ rem n, after = { o with state := .ended r rem n, resumed := false }
        else after = { o with state := .stopping (.ended r) ph } := by
  have stopped : ((s.setOp sl { o with state := .stopping (.ended r) ph }).rampGroup o.job.group).opAt sl
      = some { o with state := .stopping (.ended r) ph } :=
    (opAt_of_opt (quiet_rampGroup _ _).table sl).trans (wrote_setOp s sl _).self
  have rest : ((s.setOp sl { o with state := .stopping (.ended r) ph }).rampGroup o.job.group).groupAtRest o.job.group
      = s.groupAtRest o.job.group :=
    (rampGroup_rest _ _ _).trans ((eased_setOp s sl _).rest _)
  simp only [State.stopToward, ho, hs]
  rw [rest]
  split
  · next still =>
    simp only [State.motionCeased, stopped]
    exact ⟨_, (endOp_opAt stopped r).self, _, _, rfl⟩
  · next moving => exact ⟨_, stopped, rfl⟩

theorem stopToward_held {s : State} {sl : Slot} {o : Op} {ph : Option Phase} (ho : s.opAt sl = some o) (hs : o.state = .running ph)
    (x : HoldReason) : ∃ after, (s.stopToward sl (.held x)).opAt sl = some after
      ∧ if s.groupAtRest o.job.group then after = { o with state := .held x, resumed := false }
        else after = { o with state := .stopping (.held x) ph } := by
  have stopped : ((s.setOp sl { o with state := .stopping (.held x) ph }).rampGroup o.job.group).opAt sl
      = some { o with state := .stopping (.held x) ph } :=
    (opAt_of_opt (quiet_rampGroup _ _).table sl).trans (wrote_setOp s sl _).self
  have rest : ((s.setOp sl { o with state := .stopping (.held x) ph }).rampGroup o.job.group).groupAtRest o.job.group
      = s.groupAtRest o.job.group :=
    (rampGroup_rest _ _ _).trans ((eased_setOp s sl _).rest _)
  simp only [State.stopToward, ho, hs]
  rw [rest]
  split
  · next still =>
    simp only [State.motionCeased, stopped]
    exact ⟨_, (wrote_moveHeld stopped x).self, rfl⟩
  · next moving => exact ⟨_, stopped, rfl⟩

/-- What a stepped cancel leaves of its record (R16). -/
theorem cancelOp_leaves {s : State} {sl : Slot} {o : Op} (ho : s.opAt sl = some o) (r : Result) :
    ∃ after, (s.cancelOp sl r).opAt sl = some after ∧ s.CancelLeaves o r after := by
  simp only [State.cancelOp, ho, State.CancelLeaves]
  cases hs : o.state with
  | admitted w => exact ⟨_, (endOp_opAt ho r).self, _, _, rfl⟩
  | held x => exact ⟨_, (endOp_opAt ho r).self, _, _, rfl⟩
  | running ph => exact stopToward_ended ho hs r
  | stopping d ph =>
    cases d with
    | held x => exact ⟨_, (wrote_setOp s sl _).self, rfl⟩
    | ended x => exact ⟨_, ho, rfl⟩
  | ended x rem n => exact ⟨_, ho, rfl⟩

/-- What a hold leaves of its record (R20). -/
theorem holdOp_leaves {s : State} {sl : Slot} {o : Op} (ho : s.opAt sl = some o) (x : HoldReason) :
    ∃ after, (s.holdOp sl x).opAt sl = some after ∧ s.HoldLeaves o x after := by
  simp only [State.holdOp, ho, State.HoldLeaves]
  by_cases safe : o.opClass = .safety
  · rw [if_pos (by simpa using safe)]
    exact ⟨_, ho, by rw [if_pos safe]⟩
  · rw [if_neg (by simpa using safe)]
    simp only [if_neg safe]
    cases hs : o.state with
    | admitted w => exact ⟨_, (wrote_moveHeld ho x).self, rfl⟩
    | running ph => exact stopToward_held ho hs x
    | held y => exact ⟨_, ho, rfl⟩
    | stopping d ph => exact ⟨_, ho, rfl⟩
    | ended y rem n => exact ⟨_, ho, rfl⟩

end Sys2Proof.Machine
end

section
namespace Sys2Proof.Machine

-- One declaration at a time, so that the memory the check takes stays small.
set_option Elab.async false

/-! ### Cancels and holds of many -/

theorem cancelLeaves_congr {s u : State} (rest : ∀ g, u.groupAtRest g = s.groupAtRest g) {o after : Op} {r : Result}
    (h : u.CancelLeaves o r after) : s.CancelLeaves o r after := by
  simpa only [State.CancelLeaves, rest] using h

theorem holdLeaves_congr {s u : State} (rest : ∀ g, u.groupAtRest g = s.groupAtRest g) {o after : Op} {x : HoldReason}
    (h : u.HoldLeaves o x after) : s.HoldLeaves o x after := by
  simpa only [State.HoldLeaves, rest] using h

/-- A cancel of every operation that a test names (R16). -/
theorem cancelAll_records (s : State) (p : Op → Bool) (r : Result) :
    s.eachRecord (s.cancelAll (fun _ o => p o) r) p (fun o after => s.CancelLeaves o r after) := by
  intro sl
  obtain ⟨u, rest, same, visited⟩ := eachOp_slot (p := fun _ o => !o.state.isEnded && p o)
    (f := fun s sl => s.cancelOp sl r) (R := fun u => ∀ g, u.groupAtRest g = s.groupAtRest g) (s := s)
    (fun u sl _ hu _ _ => ⟨fun g => ((eased_cancelOp u sl r).rest g).trans (hu g), fun _ hk => cancelOp_other u r hk⟩)
    (fun _ => rfl) sl
  refine ⟨fun free => ?_, fun o ho => ⟨fun spared => ?_, fun named => ?_⟩⟩
  · rw [State.cancelAll, visited, visit_none (same.trans free), same, free]
  · rw [State.cancelAll, visited, visit_some (same.trans ho), if_neg (by simp [spared]), same, ho]
  · rw [State.cancelAll, visited, visit_some (same.trans ho)]
    cases ended : o.state.isEnded with
    | true =>
      rw [if_neg (by simp), same, ho]
      refine ⟨o, rfl, ?_⟩
      cases e : o.state <;> simp_all [OpState.isEnded, State.CancelLeaves]
    | false =>
      rw [if_pos (by simp [named])]
      obtain ⟨after, at_sl, leaves⟩ := cancelOp_leaves (same.trans ho) r
      exact ⟨after, at_sl, cancelLeaves_congr rest leaves⟩

theorem holdOp_other (s : State) {sl k : Slot} (x : HoldReason) (hk : sl ≠ k) : (s.holdOp sl x).opAt k = s.opAt k :=
  (visited_holdOp s sl x).others k hk

/-- A hold of every operation that a test names (R20). -/
theorem holdAll_records (s : State) (p : Op → Bool) (x : HoldReason) :
    s.eachRecord (s.holdAll p x) p (fun o after => s.HoldLeaves o x after) := by
  intro sl
  obtain ⟨u, rest, same, visited⟩ := eachOp_slot (p := fun _ o => o.opClass == .normal && !o.state.isEnded && p o)
    (f := fun s sl => s.holdOp sl x) (R := fun u => ∀ g, u.groupAtRest g = s.groupAtRest g) (s := s)
    (fun u sl _ hu _ _ => ⟨fun g => ((eased_holdOp u sl x).rest g).trans (hu g), fun _ hk => holdOp_other u x hk⟩)
    (fun _ => rfl) sl
  refine ⟨fun free => ?_, fun o ho => ⟨fun spared => ?_, fun named => ?_⟩⟩
  · rw [State.holdAll, visited, visit_none (same.trans free), same, free]
  · rw [State.holdAll, visited, visit_some (same.trans ho), if_neg (by simp [spared]), same, ho]
  · rw [State.holdAll, visited, visit_some (same.trans ho)]
    by_cases reached : (o.opClass == .normal && !o.state.isEnded && p o) = true
    · rw [if_pos reached]
      obtain ⟨after, at_sl, leaves⟩ := holdOp_leaves (same.trans ho) x
      exact ⟨after, at_sl, holdLeaves_congr rest leaves⟩
    · rw [if_neg reached, same, ho]
      refine ⟨o, rfl, ?_⟩
      by_cases safe : o.opClass = .safety
      · simp [State.HoldLeaves, safe]
      · have ended : o.state.isEnded = true := by
          cases c : o.opClass with
          | normal => simpa [c, named] using reached
          | safety => exact absurd c safe
        cases e : o.state <;> simp_all [OpState.isEnded, State.HoldLeaves]

theorem eased_cancelAll (s : State) (p : State → Op → Bool) (r : Result) : Eased s (s.cancelAll p r) :=
  eased_eachOp (fun u sl => eased_cancelOp u sl r) s

theorem eased_holdAll (s : State) (p : Op → Bool) (x : HoldReason) : Eased s (s.holdAll p x) :=
  eased_eachOp (fun u sl => eased_holdOp u sl x) s

theorem cancelAll_lists (s : State) (p : State → Op → Bool) (r : Result) :
    (s.cancelAll p r).opt.endedList = s.opt.endedList ++ s.newlyEnded (s.cancelAll p r)
    ∧ (s.cancelAll p r).opt.ends = s.opt.ends + (s.newlyEnded (s.cancelAll p r)).length
    ∧ (s.cancelAll p r).opt.admissions = s.opt.admissions ∧ (s.cancelAll p r).opt.internalTag = s.opt.internalTag :=
  eachOp_visited (fun u sl _ _ => visited_cancelOp u sl r) s

/-- A cancelled operation neither runs nor waits. -/
theorem cancelLeaves_still {s : State} {o after : Op} {r : Result} (h : s.CancelLeaves o r after) :
    after.state.isRunning = false ∧ after.state.isAdmitted = false ∧ after.job = o.job := by
  unfold State.CancelLeaves at h
  split at h
  · obtain ⟨_, _, rfl⟩ := h; exact ⟨rfl, rfl, rfl⟩
  · obtain ⟨_, _, rfl⟩ := h; exact ⟨rfl, rfl, rfl⟩
  · split at h
    · obtain ⟨_, _, rfl⟩ := h; exact ⟨rfl, rfl, rfl⟩
    · rw [h]; exact ⟨rfl, rfl, rfl⟩
  · rw [h]; exact ⟨rfl, rfl, rfl⟩
  · next e => rw [h, e]; exact ⟨rfl, rfl, rfl⟩
  · next e => rw [h, e]; exact ⟨rfl, rfl, rfl⟩

/-- A table whose waiting operations were all cancelled is calm where it was undisturbed. -/
theorem calm_cancelled {s t : State} {p : Op → Bool} {r : Result} (h : s.Undisturbed) (hi : t.ist = s.ist) (hn : t.inm.inputs = s.inm.inputs)
    (records : s.eachRecord t p (fun o after => s.CancelLeaves o r after))
    (waiting : ∀ sl o, s.opAt sl = some o → o.state.isAdmitted = true → p o = true) : t.Calm := by
  have origin : ∀ sl q, t.opAt sl = some q →
      s.opAt sl = some q ∧ p q = false ∨ q.state.isRunning = false ∧ q.state.isAdmitted = false := by
    intro sl q hq
    cases ho : s.opAt sl with
    | none => rw [(records sl).1 ho] at hq; cases hq
    | some o =>
      cases named : p o with
      | false =>
        rw [((records sl).2 o ho).1 named] at hq
        cases hq
        exact .inl ⟨rfl, named⟩
      | true =>
        obtain ⟨after, at_sl, leaves⟩ := ((records sl).2 o ho).2 named
        rw [at_sl] at hq
        cases hq
        obtain ⟨still, idle, -⟩ := cancelLeaves_still leaves
        exact .inr ⟨still, idle⟩
  refine calm_of h hi hn (fun sl q hq running => ?_) fun sl q hq => ?_
  · rcases origin sl q hq with ⟨before, -⟩ | ⟨still, -⟩
    · exact ⟨sl, q, before, running, rfl⟩
    · rw [still] at running; cases running
  · rcases origin sl q hq with ⟨before, spared⟩ | ⟨-, idle⟩
    · by_contra admitted
      rw [waiting sl q before (Bool.not_eq_false _ ▸ admitted)] at spared
      cases spared
    · exact idle

theorem raise_has (x : ChangeSet) (c : Category) : (x.raise c).cats &&& c.bit = c.bit := and_of_or_left _ _

/-- Settles O37: the timer's own effects, the cancels of the SERVICE operations, and a calm end of the event. -/
theorem serviceSilenceCancels : Obligations.ServiceSilenceCancels := by
  intro s
  refine ⟨fun stopped => ?_, fun running undisturbed waiting => ?_⟩
  · refine congrArg _ (?_ : s.silenceExpired = s)
    rw [State.silenceExpired, if_neg (by simp [stopped])]
  · let u : State := { s with liu := { s.liu with silence := none, connected := false, claims := Bank.fill 6 .free } }
    have fired : s.silenceExpired
        = ((u.cancelAll (fun _ o => o.job.origin == .service) (.cancelled .serviceLost)).raise .claims).settle := by
      rw [State.silenceExpired, if_pos running]
    have records := cancelAll_records u (fun o => o.job.origin == .service) (.cancelled .serviceLost)
    have eased := eased_cancelAll u (fun _ o => o.job.origin == .service) (.cancelled .serviceLost)
    obtain ⟨-, -, admissions, -⟩ := cancelAll_lists u (fun _ o => o.job.origin == .service) (.cancelled .serviceLost)
    generalize u.cancelAll (fun _ o => o.job.origin == .service) (.cancelled .serviceLost) = v at fired records eased admissions
    have follows : Follows (v.raise .claims) (v.raise .claims).settle := by
      refine follows_settle (calm_cancelled undisturbed ?_ ?_ records fun sl o ho named => ?_)
      · exact eased.blocks.1 .items (by decide)
      · exact congrArg (·.inputs) (eased.blocks.1 .inputs (by decide) : v.inm = _)
      · simp [waiting sl o ho named]
    generalize (v.raise .claims).settle = t at fired follows
    have table : t.opt = v.opt := follows.table
    have arbiter : t.sta = v.sta := follows.arbiter
    have links : t.liu = v.liu := follows.links
    have freed : v.liu = { s.liu with silence := none, connected := false, claims := v.liu.claims } :=
      eased.blocks.1 .links (by decide)
    refine ⟨t, congrArg _ fired, by rw [links]; exact freed, fun g hg => ?_, fun sl => ?_, ?_, ?_, ?_, ?_, ?_, ?_⟩
    · have freeNow : v.claimOf g = .free := eased.free (Bank.get_fill Claim.free g.idx)
      rw [← freeNow]; exact congrArg (fun l => l.claims.get g.idx) links
    · rw [opAt_of_opt table sl]
      exact records sl
    · exact (follows.notices.cats (raise_has _ _) (raise_has _ _)).1
    · exact (follows.notices.cats (raise_has _ _) (raise_has _ _)).2
    · rw [table]; exact admissions
    · rw [arbiter, eased.arbiter]
    · rw [arbiter, eased.arbiter]
    · have before : s.keepsBut u [.links, .claims] := keepsBut_of
      refine follows.keepsBut (keepsBut_trans (keepsBut_mono before (by decide)) (keepsBut_trans (keepsBut_mono eased.blocks (by decide)) keepsBut_of))

end Sys2Proof.Machine
end

section
namespace Sys2Proof.Machine

-- One declaration at a time, so that the memory the check takes stays small.
set_option Elab.async false

/-! ### Ends and holds on the way to the end of an event -/

theorem TagTold.follows {s u t : State} {tag : Nat} (h : TagTold s u tag) (n : NoticesFollow u t) : TagTold s t tag := by
  obtain ⟨coach, service⟩ := n.cats h.raised.1 h.raised.2
  rcases n.sets with ⟨hc, hs, -⟩ | ⟨hc, hs⟩
  · exact ⟨by rw [hc]; exact h.coach, by rw [hs]; exact h.service, coach, service⟩
  · exact ⟨by rw [hc]; exact h.coach, by rw [hs]; exact h.service, coach, service⟩

theorem told_noteTag (s : State) (tag : Nat) : TagTold s (s.noteTag tag) tag :=
  ⟨rfl, rfl, by rw [noteTag_coach, noteTag_told]; exact and_of_or_left _ _,
    by rw [noteTag_service, noteTag_told]; exact and_of_or_left _ _⟩

/-- A tag told stays told where ATTITUDE is raised (R176). -/
theorem TagTold.raiseAttitude {s u : State} {tag : Nat} (h : TagTold s u tag) (d : BitVec 8) :
    TagTold s (u.raiseAttitude d) tag :=
  ⟨h.coach, h.service, and_of_or (or_or_self_right _ _) h.raised.1, and_of_or (or_or_self_right _ _) h.raised.2⟩

theorem TagTold.of_eq {s u t : State} {tag : Nat} (h : TagTold u t tag) (coach : u.ntu.coach = s.ntu.coach)
    (service : u.ntu.service = s.ntu.service) : TagTold s t tag :=
  ⟨coach ▸ h.coach, service ▸ h.service, h.raised⟩

theorem TagTold.to_eq {s u t : State} {tag : Nat} (h : TagTold s u tag) (ntu : t.ntu = u.ntu) : TagTold s t tag :=
  ⟨by rw [ntu]; exact h.coach, by rw [ntu]; exact h.service, by rw [ntu]; exact h.raised⟩

/-- The block of a group's controller. -/
@[simp] def groupBlock : Group → Block
  | .jacks => .jacks
  | .room _ => .rooms
  | .awning => .awning

section Ends

variable {s u t : State} {sl : Slot} {o : Op} {r : Result} {rem : Option Remaining}

theorem EndsOp.follows (h : EndsOp s u sl o r rem) (f : Follows u t) : EndsOp s t sl o r rem :=
  ⟨(opAt_of_opt f.table sl).trans h.record, fun k hk => (opAt_of_opt f.table k).trans (h.others k hk),
    by rw [f.table]; exact h.counters, by rw [f.table]; exact h.list, by rw [f.arbiter]; exact h.arbiter,
    h.told.follows f.notices⟩

/-- An end counts from a state with the same table, Arbiter and change sets. -/
theorem EndsOp.of_eq (h : EndsOp u t sl o r rem) (opt : u.opt = s.opt) (sta : u.sta = s.sta) (ntu : u.ntu = s.ntu) :
    EndsOp s t sl o r rem := by
  obtain ⟨record, others, counters, list, arbiter, told⟩ := h
  refine ⟨by rw [← opt]; exact record, fun k hk => (others k hk).trans (opAt_of_opt opt k), by rw [← opt]; exact counters,
    by rw [← opt]; exact list, by rw [← sta]; exact arbiter, told.of_eq (by rw [ntu]) (by rw [ntu])⟩

theorem EndsOp.raiseAttitude (h : EndsOp s u sl o r rem) (d : BitVec 8) : EndsOp s (u.raiseAttitude d) sl o r rem :=
  ⟨h.record, h.others, h.counters, h.list, h.arbiter, h.told.raiseAttitude d⟩

theorem endsOp_writeEnd (h : s.opAt sl = some o) (r : Result) (rem : Option Remaining) :
    EndsOp s (s.writeEnd sl r rem) sl o r rem := by
  obtain ⟨c, hc⟩ := writeEnd_eq h r rem
  have wrote := wrote_writeEnd h r rem
  refine ⟨wrote.self, fun k hk => wrote.other (Ne.symm hk), ?_, ?_, ?_, (told_noteTag s o.tag).to_eq (by rw [hc])⟩
  · rw [hc]; exact ⟨rfl, rfl, rfl⟩
  · rw [hc]
  · rw [hc]

/-- An operation that was RUNNING or STOPPING leaves a calm table calm where it ends or is held. -/
theorem calm_left (h : s.Calm) (wrote : Wrote s t sl o) (hi : t.ist = s.ist) (hn : t.inm = s.inm)
    (still : o.state.isRunning = false) (idle : o.state.isAdmitted = false) : t.Calm :=
  calm_wrote h.toUndisturbed wrote hi hn still idle fun k _ => h.waiting k

theorem calm_writeEnd (h : s.Calm) (ho : s.opAt sl = some o) (r : Result) (rem : Option Remaining) : (s.writeEnd sl r rem).Calm := by
  obtain ⟨c, hc⟩ := writeEnd_eq ho r rem
  exact calm_left h (wrote_writeEnd ho r rem) (by rw [hc]) (by rw [hc]) rfl rfl

theorem calm_moveHeld (h : s.Calm) (ho : s.opAt sl = some o) (x : HoldReason) : (s.moveHeld sl x).Calm := by
  obtain ⟨c, hc⟩ := moveHeld_eq ho x
  exact calm_left h (wrote_moveHeld ho x) (by rw [hc]) (by rw [hc]) rfl rfl

theorem told_moveHeld (ho : s.opAt sl = some o) (x : HoldReason) : TagTold s (s.moveHeld sl x) o.tag := by
  obtain ⟨c, hc⟩ := moveHeld_eq ho x
  exact (told_noteTag s o.tag).to_eq (by rw [hc])

/-- An end reaches its own group's controller alone, where a LEVEL is a JACKS operation. -/
theorem writeEnd_keeps_group (h : s.opAt sl = some o) (r : Result) (rem : Option Remaining)
    (level : o.job.kind = .level → o.job.group = .jacks) :
    s.keepsBut (s.writeEnd sl r rem) [.table, .arbiter, groupBlock o.job.group, .orders, .claims] := by
  obtain ⟨c, hc⟩ := writeEnd_eq h r rem
  have entries : ∀ k, ((s.writeEnd sl r rem).entryUnit k).lastA = (s.entryUnit k).lastA
      ∧ ((s.writeEnd sl r rem).entryUnit k).lastB = (s.entryUnit k).lastB := (writeEnd_keeps h r rem).1 .clearance (by decide)
  have flag : o.job.group ≠ .jacks → (o.job.kind == .level && r == .complete) = false := fun other => by
    simp [mt level other]
  rw [hc] at entries ⊢
  cases e : o.job.group with
  | jacks => exact keepsBut_of (clearance := fun _ => entries)
  | room n =>
    exact keepsBut_of (clearance := fun _ => entries) (jacks := fun _ => by
      simp [flag (by simp [e]), State.forgetGroup, State.modRoom])
  | awning =>
    exact keepsBut_of (clearance := fun _ => entries) (jacks := fun _ => by
      simp [flag (by simp [e]), State.forgetGroup, State.modAwning])

/-- A hold reaches its own group's controller alone. -/
theorem moveHeld_keeps_group (h : s.opAt sl = some o) (x : HoldReason) :
    s.keepsBut (s.moveHeld sl x) [.table, .arbiter, groupBlock o.job.group, .orders, .claims] := by
  obtain ⟨c, hc⟩ := moveHeld_eq h x
  have entries : ∀ k, ((s.moveHeld sl x).entryUnit k).lastA = (s.entryUnit k).lastA
      ∧ ((s.moveHeld sl x).entryUnit k).lastB = (s.entryUnit k).lastB := (moveHeld_keeps h x).1 .clearance (by decide)
  rw [hc] at entries ⊢
  cases e : o.job.group with
  | jacks => exact keepsBut_of (clearance := fun _ => entries)
  | room n =>
    exact keepsBut_of (clearance := fun _ => entries)
  | awning => exact keepsBut_of (clearance := fun _ => entries)

theorem reportEndWith_running {ph : Option Phase} (h : s.opAt sl = some o) (running : o.state = .running ph)
    (fine : slideFault o r = false) : s.reportEndWith sl r rem = s.writeEnd sl r rem := by
  simp [State.reportEndWith, h, running, fine]

theorem reportEnd_running {ph : Option Phase} (h : s.opAt sl = some o) (running : o.state = .running ph)
    (fine : slideFault o r = false) : s.reportEnd sl r = s.writeEnd sl r (s.remainingOf o) := by
  simp only [State.reportEnd, h]
  exact reportEndWith_running h running fine

end Ends

end Sys2Proof.Machine
end

section
namespace Sys2Proof.Machine

-- One declaration at a time, so that the memory the check takes stays small.
set_option Elab.async false

/-! ### The pump's ramp (R59, R60, R68) -/

/-- The state with the pump's applied duty replaced. -/
def State.pumped (s : State) (duty : Nat) : State := { s with lvc := { s.lvc with pump := duty } }

theorem pumpTick_eq (s : State) :
    s.pumpTick = if rampToward s.pumpDemand s.items.jack.rampUp s.items.jack.rampDown s.lvc.pump = 0 ∧ s.pumpDemand = 0
      then (s.pumped 0).pumpOff
      else s.pumped (rampToward s.pumpDemand s.items.jack.rampUp s.items.jack.rampDown s.lvc.pump) := by
  by_cases h : rampToward s.pumpDemand s.items.jack.rampUp s.items.jack.rampDown s.lvc.pump = 0 ∧ s.pumpDemand = 0
  · rw [if_pos h, ← h.1]; exact if_pos h
  · rw [if_neg h]; exact if_neg h

theorem rampToward_off (up down duty : Nat) : rampToward 0 up down duty = duty - down := by
  rw [rampToward, if_neg (by omega)]
  omega

theorem pumpOff_none {s : State} (h : s.activeOp .jacks = none) : s.pumpOff = s := by simp [State.pumpOff, h]

/-- A tick that leaves the pump on, or reaches no operation, ramps and nothing more. -/
theorem pumpTick_ramps {s : State} (h : s.activeOp .jacks = none ∨ s.pumpDemand = 1000 ∨ s.items.jack.rampDown < s.lvc.pump) :
    s.pumpTick = s.pumped (rampToward s.pumpDemand s.items.jack.rampUp s.items.jack.rampDown s.lvc.pump) := by
  rw [pumpTick_eq]
  split
  · next off =>
    obtain ⟨zero, demand⟩ := off
    rw [zero]
    rcases h with none | full | high
    · exact pumpOff_none none
    · omega
    · rw [demand, rampToward_off] at zero
      omega
  · rfl

/-- A tick that brings the pump to 0 with no valve open. -/
theorem pumpTick_stops {s : State} (demand : s.pumpDemand = 0) (low : s.lvc.pump ≤ s.items.jack.rampDown) :
    s.pumpTick = (s.pumped 0).pumpOff := by
  rw [pumpTick_eq, if_pos]
  rw [demand, rampToward_off]
  omega

theorem calm_pumped {s : State} (h : s.Calm) (duty : Nat) : (s.pumped duty).Calm := calm_same h rfl rfl rfl

theorem unloadedNotice_frame (s : State) (o : Op) (r : Result) :
    s.unloadedNotice o r = { s with ntu := (s.unloadedNotice o r).ntu } := by
  unfold State.unloadedNotice
  split <;> rfl

section Reported

variable {s : State} {sl : Slot} {o : Op} {r : Result} {ph : Option Phase}

theorem reportJacks_running (h : s.opAt sl = some o) (running : o.state = .running ph) (jacks : o.job.group = .jacks) :
    s.reportJacks sl r = (s.writeEnd sl r (s.remainingOf o)).unloadedNotice o r := by
  have fine : slideFault o r = false := by simp [slideFault, jacks, Group.isRoom]
  simp only [State.reportJacks, h, reportEnd_running h running fine]

theorem endsOp_reportJacks (h : s.opAt sl = some o) (running : o.state = .running ph) (jacks : o.job.group = .jacks) :
    EndsOp s (s.reportJacks sl r) sl o r (s.remainingOf o) := by
  rw [reportJacks_running h running jacks, State.unloadedNotice]
  split
  · exact (endsOp_writeEnd h r _).raiseAttitude _
  · exact endsOp_writeEnd h r _

theorem reportJacks_keeps (h : s.opAt sl = some o) (running : o.state = .running ph) (jacks : o.job.group = .jacks) :
    s.keepsBut (s.reportJacks sl r) [.table, .arbiter, .jacks, .orders, .claims] := by
  have wrote := writeEnd_keeps_group h r (s.remainingOf o) fun _ => jacks
  rw [jacks] at wrote
  rw [reportJacks_running h running jacks, unloadedNotice_frame]
  exact keepsBut_trans wrote keepsBut_of

theorem calm_reportJacks (calm : s.Calm) (h : s.opAt sl = some o) (running : o.state = .running ph)
    (jacks : o.job.group = .jacks) : (s.reportJacks sl r).Calm := by
  rw [reportJacks_running h running jacks, unloadedNotice_frame]
  exact calm_same (calm_writeEnd calm h r _) rfl rfl rfl

theorem reportJacks_lvc (h : s.opAt sl = some o) (running : o.state = .running ph) (jacks : o.job.group = .jacks) :
    (s.reportJacks sl r).lvc
      = { s.lvc.standDown with levelled := s.lvc.levelled || (o.job.kind == .level && r == .complete) } := by
  obtain ⟨c, hc⟩ := writeEnd_eq h r (s.remainingOf o)
  rw [reportJacks_running h running jacks, unloadedNotice_frame, hc, jacks]
  rfl

end Reported

/-- Settles O48: what a tick does by the operation that waits for the pump. -/
theorem pumpTickRamps : Obligations.PumpTickRamps := by
  intro s calm
  refine ⟨fun ramps => ?_, fun sl o demand low active => ?_⟩
  · have follows := follows_settle (calm_pumped calm (rampToward s.pumpDemand s.items.jack.rampUp s.items.jack.rampDown s.lvc.pump))
    have pump : _ = rampToward s.pumpDemand s.items.jack.rampUp s.items.jack.rampDown s.lvc.pump :=
      congrArg (·.pump) follows.jacks
    refine ⟨_, congrArg (fun u : State => Host.Outcome.next u.settle) (pumpTick_ramps ramps), ?_, ?_, ?_, ?_⟩
    · rw [pump]; exact follows
    · intro full below
      rw [pump, full, rampToward, if_pos below]
    · intro full above
      rw [pump, full, rampToward, if_neg (by omega)]
    · intro off
      rw [pump, off, rampToward_off]
  · obtain ⟨ho, jacks, -⟩ := activeOp_some active
    let u := s.pumped 0
    have calmly : u.Calm := calm_pumped calm 0
    have start : s.keepsBut u [.jacks] := keepsBut_of
    have same : u.remainingOf o = s.remainingOf o := rfl
    have tick : exec .pumpRampTick s = .next u.pumpOff.settle :=
      congrArg (fun u : State => Host.Outcome.next u.settle) (pumpTick_stops demand low)
    rw [tick]
    have found : u.activeOp .jacks = some (sl, o) := active
    refine ⟨fun r ph running pend => ?_, fun r ph stopping => ?_, fun x ph stopping => ?_, fun settling unpended timer => ?_⟩
    · have pended : u.lvc.pend = some r := pend
      have reported : u.pumpOff = u.reportJacks sl r := by simp only [State.pumpOff, found, running, pended]
      have follows := follows_settle (calm_reportJacks (s := u) (r := r) calmly ho running jacks)
      have lvc := follows.jacks.trans (reportJacks_lvc (s := u) (r := r) ho running jacks)
      rw [reported]
      refine ⟨_, rfl, by rw [lvc]; rfl, by rw [lvc]; rfl,
        ((endsOp_reportJacks (s := u) ho running jacks).of_eq (s := s) rfl rfl rfl).follows follows, fun level complete => ?_,
        follows.keepsBut (keepsBut_trans (keepsBut_mono start (by decide)) (reportJacks_keeps (s := u) ho running jacks))⟩
      rw [lvc, level, complete]
      simp
    · have ended : u.pumpOff = u.writeEnd sl r (s.remainingOf o) := by
        simp only [State.pumpOff, found, stopping, State.motionCeased, show u.opAt sl = some o from ho, State.endOp, same]
      have follows := follows_settle (calm_writeEnd (s := u) calmly ho r (s.remainingOf o))
      have pump : (u.writeEnd sl r (s.remainingOf o)).lvc.pump = 0 := by
        obtain ⟨c, hc⟩ := writeEnd_eq (s := u) ho r (s.remainingOf o)
        rw [hc, jacks]; rfl
      have wrote := writeEnd_keeps_group (s := u) ho r (s.remainingOf o) fun _ => jacks
      rw [jacks] at wrote
      rw [ended]
      refine ⟨_, rfl, (congrArg (·.pump) follows.jacks).trans pump,
        ((endsOp_writeEnd (s := u) ho r _).of_eq (s := s) rfl rfl rfl).follows follows,
        follows.keepsBut (keepsBut_trans (keepsBut_mono start (by decide)) wrote)⟩
    · have held : u.pumpOff = u.moveHeld sl x := by
        simp only [State.pumpOff, found, stopping, State.motionCeased, show u.opAt sl = some o from ho]
      have follows := follows_settle (calm_moveHeld (s := u) calmly ho x)
      obtain ⟨c, hc⟩ := moveHeld_eq (s := u) ho x
      have wrote := moveHeld_keeps_group (s := u) ho x
      rw [jacks] at wrote
      rw [held]
      refine ⟨_, rfl, (congrArg (·.pump) follows.jacks).trans ?_, follows.table.trans ?_, ?_,
        ((told_moveHeld (s := u) ho x).of_eq (s := s) rfl rfl).follows follows.notices,
        follows.keepsBut (keepsBut_trans (keepsBut_mono start (by decide)) wrote)⟩
      · rw [hc, jacks]; rfl
      · rw [hc]; rfl
      · rw [follows.arbiter, hc]
        simp [stopping, OpState.active]; rfl
    · have begins : u.pumpOff = { s with lvc := { s.lvc with
          pump := 0, timers := { s.lvc.timers with settle := some (s.now + s.items.jack.settleTime * 1000) } } } := by
        have idle : u.lvc.pend = none := unpended
        have stopped : u.lvc.timers.settle = none := timer
        simp only [State.pumpOff, found, settling, idle, stopped, BEq.rfl, Option.isNone_none, Bool.and_self, if_true]
        rw [← unpended]; rfl
      rw [begins]
      exact ⟨_, rfl, follows_settle (calm_same calm rfl rfl rfl)⟩

end Sys2Proof.Machine
end

section
namespace Sys2Proof.Machine

-- One declaration at a time, so that the memory the check takes stays small.
set_option Elab.async false

/-! ### STOP (R18) -/

section

variable {s : State} {sl : Slot} {o : Op} {ph : Option Phase}

/-- A RUNNING operation with an output still on is ramped down and no more (R16). -/
theorem stopToward_moving (h : s.opAt sl = some o) (running : o.state = .running ph)
    (moving : s.groupAtRest o.job.group = false) (d : Dest) :
    s.stopToward sl d = (s.setOp sl { o with state := .stopping d ph }).rampGroup o.job.group := by
  have rest : ((s.setOp sl { o with state := .stopping d ph }).rampGroup o.job.group).groupAtRest o.job.group = false :=
    (rampGroup_rest _ _ _).trans (((eased_setOp s sl _).rest _).trans moving)
  simp [State.stopToward, h, running, rest]

theorem calm_setOp_stopping (calm : s.Calm) (sl : Slot) (o : Op) (d : Dest) (ph : Option Phase) :
    (s.setOp sl { o with state := .stopping d ph }).Calm :=
  calm_left calm (wrote_setOp s sl _) rfl rfl rfl rfl

end

theorem ofCode_iff {b : Byte} {g : Group} : Group.ofCode b = some g ↔ g.code = b.toNat := by
  constructor
  · intro h
    simpa using List.find?_some h
  · intro h
    cases hb : Group.ofCode b with
    | none =>
      have := List.find?_eq_none.1 hb g (mem_groups g)
      simp [h] at this
    | some k =>
      have same : k.code = g.code := (by simpa using List.find?_some hb : k.code = b.toNat).trans h.symm
      rw [idx_inj (Fin.val_injective same)]

/-- The operation a STOP names, by its slot. -/
def State.stopNames (s : State) (sel b : Byte) (sl : Slot) (o : Op) : Prop :=
  s.opAt sl = some o
    ∧ (sel = 0 ∧ s.slotOfTag b.toNat = some sl
      ∨ sel = 1 ∧ ∃ g, g.code = b.toNat ∧ s.items.configured g = true ∧ o.job.group = g ∧ o.state.isEnded = false
        ∧ ∀ k p, s.opAt k = some p → p.job.group = g → p.state.isEnded = false → k = sl)

section

variable {s : State} {l : Link} {sel b : Byte} {sl : Slot} {o : Op}

theorem stopTarget_named (h : s.stopNames sel b sl o) :
    ∃ byGroup, two? sel = some byGroup ∧ s.stopTarget byGroup b = .ok sl := by
  obtain ⟨ho, ⟨rfl, tag⟩ | ⟨rfl, g, code, configured, group, busy, only⟩⟩ := h
  · exact ⟨false, rfl, by simp [State.stopTarget, tag]⟩
  · have found : s.busySlot g = some sl :=
      findSlot_eq ho (by simp [group, busy]) fun k q hq hp => by
        simp only [Bool.and_eq_true, beq_iff_eq, Bool.not_eq_true'] at hp
        exact only k q hq hp.1 hp.2
    exact ⟨true, rfl, by simp [State.stopTarget, ofCode_iff.2 code, configured, found]⟩

/-- A STOP that no test refuses cancels the operation it names (R18). -/
theorem stop_cancels (h : s.takes l) (named : s.stopNames sel b sl o) (passes : s.stopRefusal l o = none) :
    exec (.stop l [sel, b]) s
      = .next ((s.cancelOp sl (.cancelled .stop)).settle.pushReply l 0x04#8 0 [] .nothing) := by
  obtain ⟨byGroup, two, target⟩ := stopTarget_named named
  exact congrArg _ (request_accepted h (f := handleStop) (by simp [handleStop, two, target, named.1, passes]))

theorem stop_refused (h : s.takes l) (named : s.stopNames sel b sl o) {r : Refuse} (refusal : s.stopRefusal l o = some r) :
    exec (.stop l [sel, b]) s = .next (s.pushReply l 0x04#8 (BitVec.ofNat 8 r.code) [] .nothing) := by
  obtain ⟨byGroup, two, target⟩ := stopTarget_named named
  exact congrArg _ (request_refused h (f := handleStop) (by simp [handleStop, two, target, named.1, refusal]))

/-- A STOP that names no operation. -/
theorem stop_untargeted (h : s.takes l) {byGroup : Bool} (two : two? sel = some byGroup) {r : Refuse}
    (target : s.stopTarget byGroup b = .error r) :
    exec (.stop l [sel, b]) s = .next (s.pushReply l 0x04#8 (BitVec.ofNat 8 r.code) [] .nothing) :=
  congrArg _ (request_refused h (f := handleStop) (by simp [handleStop, two, target]))

theorem safety_iff {k : OpKind} : k.opClass = .safety ↔ k = .awningStow := by cases k <;> decide

/-- The owner test of a STOP (R18). -/
def State.stopOwns (s : State) (l : Link) (o : Op) : Prop :=
  l = .coach ∧ ¬ s.claimOf o.job.group ≠ .free
    ∨ l = .service ∧ (o.job.origin = .service ∨ s.claimOf o.job.group ≠ .free)

/-- The tests of a STOP in their order (R18), the owner's as a proposition. -/
theorem stopRefusal_eq [Decidable (s.stopOwns l o)] : s.stopRefusal l o
    = firstRefusal [refuseIf (!decide (s.stopOwns l o)) .notOwner, refuseIf (o.opClass == .safety) .safetyOp,
        refuseIf o.state.isEnded .wrongState] := by
  have owner : ∀ c : Bool, (c = true ↔ ¬ s.stopOwns l o) → c = !decide (s.stopOwns l o) := fun c hc => by
    by_cases owns : s.stopOwns l o <;> simpa [owns] using hc
  cases l with
  | coach => exact congrArg (fun c => firstRefusal [refuseIf c _, _, _]) (owner _ (by simp [State.stopOwns, State.claimed]))
  | service => exact congrArg (fun c => firstRefusal [refuseIf c _, _, _]) (owner _ (by simp [State.stopOwns, State.claimed]))

/-- The refusals of a STOP, and when there is none. -/
theorem stopRefusal_cases :
    (¬ s.stopOwns l o → s.stopRefusal l o = some .notOwner)
    ∧ (s.stopOwns l o → o.job.kind = .awningStow → s.stopRefusal l o = some .safetyOp)
    ∧ (s.stopOwns l o → o.job.kind ≠ .awningStow → o.state.isEnded = true → s.stopRefusal l o = some .wrongState)
    ∧ (s.stopOwns l o → o.job.kind ≠ .awningStow → o.state.isEnded = false → s.stopRefusal l o = none) := by
  classical
  refine ⟨fun other => ?_, fun owns stow => ?_, fun owns normal ended => ?_, fun owns normal running => ?_⟩
  · simp [stopRefusal_eq, firstRefusal, refuseIf, other]
  · simp [stopRefusal_eq, firstRefusal, refuseIf, owns, Op.opClass, safety_iff, stow]
  · simp [stopRefusal_eq, firstRefusal, refuseIf, owns, Op.opClass, safety_iff, normal, ended]
  · simp [stopRefusal_eq, firstRefusal, refuseIf, owns, Op.opClass, safety_iff, normal, running]

end

section

variable {s : State} {sl : Slot} {o : Op} {r : Result}

theorem roomUnit_congr {s t : State} (h : t.sdc = s.sdc) (n : Room) : t.roomUnit n = s.roomUnit n := by
  rw [State.roomUnit, State.roomUnit, h]

/-- The part with its operation in STOPPING and its group's outputs on their way down (R16). -/
def State.ramping (s : State) (sl : Slot) (o : Op) (d : Dest) (ph : Option Phase) : State :=
  (s.setOp sl { o with state := .stopping d ph }).rampGroup o.job.group

theorem ramping_table (s : State) (sl : Slot) (o : Op) (d : Dest) (ph : Option Phase) :
    (s.ramping sl o d ph).opt = (s.setOp sl { o with state := .stopping d ph }).opt := (quiet_rampGroup _ _).table

theorem ramping_keeps (s : State) (sl : Slot) (o : Op) (d : Dest) (ph : Option Phase) :
    s.keepsBut (s.ramping sl o d ph) [.table, groupBlock o.job.group] := by
  unfold State.ramping
  cases o.job.group with
  | jacks => exact keepsBut_of
  | room n =>
    exact keepsBut_of
  | awning => exact keepsBut_of

theorem calm_ramping (calm : s.Calm) (sl : Slot) (o : Op) (d : Dest) (ph : Option Phase) : (s.ramping sl o d ph).Calm :=
  have kept := ramping_keeps s sl o d ph
  calm_same (calm_setOp_stopping calm sl o d ph) (ramping_table s sl o d ph)
    (kept.1 .items (by cases o.job.group <;> simp [groupBlock]))
    (congrArg (·.inputs) (kept.1 .inputs (by cases o.job.group <;> simp [groupBlock]) : (s.ramping sl o d ph).inm = _))

/-- What a cancel leaves of an operation with an output still on, at the end of the event. -/
theorem cancel_moving {ph : Option Phase} (ho : s.opAt sl = some o) (running : o.state = .running ph)
    (moving : s.groupAtRest o.job.group = false) (calm : s.Calm) :
    Follows (s.ramping sl o (.ended r) ph) (s.cancelOp sl r).settle := by
  have ramped : s.cancelOp sl r = s.ramping sl o (.ended r) ph := by
    simp only [State.cancelOp, ho, running]
    exact stopToward_moving ho running moving _
  rw [ramped]
  exact follows_settle (calm_ramping calm sl o _ ph)

/-- What a cancel leaves of an operation that waits or is held, at the end of the event. -/
theorem cancel_still (ho : s.opAt sl = some o) (waits : (o.state.isAdmitted || o.state.isHeld) = true)
    (undisturbed : s.Undisturbed) (others : ∀ k, k ≠ sl → ∀ p ∈ s.opAt k, p.state.isAdmitted = false) :
    Follows (s.writeEnd sl r (s.remainingOf o)) (s.cancelOp sl r).settle := by
  have cancelled : s.cancelOp sl r = s.writeEnd sl r (s.remainingOf o) := by
    cases e : o.state <;> simp_all [State.cancelOp, State.endOp, OpState.isAdmitted, OpState.isHeld]
  obtain ⟨c, hc⟩ := writeEnd_eq ho r (s.remainingOf o)
  rw [cancelled]
  exact follows_settle (calm_wrote undisturbed (wrote_writeEnd ho r _) (by rw [hc]) (by rw [hc]) rfl rfl others)

end

/-- Settles O27: the cancel by state, then the refusals in their order. -/
theorem stopActsByState : Obligations.StopActsByState := by
  refine ⟨fun s l sel b sl o takes named passes => ?_, fun s l b takes => ⟨fun sel above => ?_, fun unused => ?_,
    fun noGroup => ?_, fun g code unconfigured => ?_, fun g code configured idle => ?_, fun sel sl o named => ?_⟩⟩
  · rw [stop_cancels takes named passes]
    have ho : s.opAt sl = some o := named.1
    refine ⟨fun waits undisturbed others => ?_, fun n ph running room moving calm => ?_,
      fun ph running awning moving calm => ?_, fun ph running jacks on calm => ?_, fun x ph stopping calm => ?_,
      fun r ph stopping calm => ?_⟩
    · have follows := cancel_still (r := .cancelled .stop) ho waits undisturbed others
      exact ⟨_, rfl, endsOp_of_writeEnd ho follows, follows.keepsBut (writeEnd_keeps ho _ _)⟩
    · have follows := cancel_moving (r := .cancelled .stop) ho running (by rw [room]; exact moving) calm
      have kept := ramping_keeps s sl o (.ended (.cancelled .stop)) ph
      rw [room] at kept
      have rooms : _ = (s.modRoom n RoomUnit.rampOff).sdc := follows.rooms.trans (by rw [State.ramping, room]; rfl)
      refine ⟨_, rfl, follows.table.trans (ramping_table _ _ _ _ _), ?_, fun k hk => ?_, follows.keepsBut kept⟩
      · exact (roomUnit_congr rooms n).trans (State.modRoom_roomUnit_self ..)
      · exact (roomUnit_congr rooms k).trans (by rw [State.modRoom_roomUnit, if_neg (Ne.symm hk)])
    · have follows := cancel_moving (r := .cancelled .stop) ho running (by rw [awning]; simp [State.groupAtRest, moving]) calm
      have kept := ramping_keeps s sl o (.ended (.cancelled .stop)) ph
      rw [awning] at kept
      have unit : _ = (s.modAwning AwningUnit.rampOff).awu := follows.awning.trans (by rw [State.ramping, awning]; rfl)
      exact ⟨_, rfl, follows.table.trans (ramping_table _ _ _ _ _), unit, follows.keepsBut kept⟩
    · have follows := cancel_moving (r := .cancelled .stop) ho running (by rw [jacks]; simp [State.groupAtRest, on]) calm
      have kept := ramping_keeps s sl o (.ended (.cancelled .stop)) ph
      rw [jacks] at kept
      have lvc : _ = s.lvc.standDown := follows.jacks.trans (by rw [State.ramping, jacks]; rfl)
      refine ⟨_, rfl, follows.table.trans (ramping_table _ _ _ _ _), fun k => ?_, by rw [lvc]; rfl, by rw [lvc]; rfl,
        by rw [lvc]; rfl, by rw [lvc]; rfl, follows.keepsBut kept⟩
      simp [State.jack, lvc, Lvc.standDown, Lvc.closeValves]
    · have replaced : s.cancelOp sl (.cancelled .stop) = s.setOp sl { o with state := .stopping (.ended (.cancelled .stop)) ph } := by
        simp only [State.cancelOp, ho, stopping]
      have follows := follows_settle (calm_setOp_stopping calm sl o (.ended (.cancelled .stop)) ph)
      rw [replaced]
      exact ⟨_, rfl, follows.table, follows.keepsBut keepsBut_of⟩
    · have same : s.cancelOp sl (.cancelled .stop) = s := by simp only [State.cancelOp, ho, stopping]
      have follows := follows_settle calm
      rw [same]
      exact ⟨_, rfl, follows.keeps⟩
  · have none : two? sel = none := by
      rw [two?, if_neg (by rintro rfl; simp at above), if_neg (by rintro rfl; simp at above)]
    exact congrArg _ (request_refused takes (f := handleStop) (r := .badRange) (by simp [handleStop, none]))
  · exact stop_untargeted takes (sel := 0) (r := .noSuchTag) (byGroup := false) rfl (by simp [State.stopTarget, unused])
  · exact stop_untargeted takes (sel := 1) (r := .badRange) (byGroup := true) rfl (by simp [State.stopTarget, noGroup])
  · exact stop_untargeted takes (sel := 1) (r := .badGroup) (byGroup := true) rfl (by simp [State.stopTarget, code, unconfigured])
  · exact stop_untargeted takes (sel := 1) (r := .wrongState) (byGroup := true) rfl (by simp [State.stopTarget, code, configured, idle])
  · obtain ⟨other, stow, ended, passes⟩ := stopRefusal_cases (s := s) (l := l) (o := o)
    exact ⟨fun h => stop_refused takes named (other h), fun h k => stop_refused takes named (stow h k),
      fun h k e => stop_refused takes named (ended h k e), passes⟩

end Sys2Proof.Machine
end

section
namespace Sys2Proof.Machine

-- One declaration at a time, so that the memory the check takes stays small.
set_option Elab.async false

/-! ### The claims map through cancels (R183) -/

/-- What each visit of a sweep keeps, the sweep keeps. -/
theorem eachOp_invariant {I : State → Prop} {p : State → Op → Bool} {f : State → Slot → State}
    (step : ∀ u sl o, I u → u.opAt sl = some o → p u o = true → I (f u sl)) {s : State} (start : I s) : I (s.eachOp p f) := by
  have sweep : ∀ (l : List Slot) (u : State), I u → I (l.foldl (State.visit p f) u) := by
    intro l
    induction l with
    | nil => exact fun _ h => h
    | cons a l ih =>
      intro u hu
      refine ih _ ?_
      cases ho : u.opAt a with
      | none => rw [visit_none ho]; exact hu
      | some o =>
        rw [visit_some ho]
        split
        · next named => exact step u a o hu ho named
        · exact hu
  exact sweep slots s start

section

variable {s : State} {sl : Slot} {o : Op}

theorem writeEnd_claimOf (ho : s.opAt sl = some o) (r : Result) (rem : Option Remaining) (g : Group) :
    (s.writeEnd sl r rem).claimOf g
      = if s.claimOf g = .pending ∧ (s.writeEnd sl r rem).hostBusy g = false then .claimed else s.claimOf g := by
  obtain ⟨u, hu, liu⟩ := writeEnd_settles ho r rem
  have same : u.claimOf g = s.claimOf g := by rw [State.claimOf, State.claimOf, liu]
  rw [hu, settleClaims_claimOf, hostBusy_of_opt (settleClaims_opt u), same]

theorem moveHeld_claimOf (ho : s.opAt sl = some o) (x : HoldReason) (g : Group) :
    (s.moveHeld sl x).claimOf g
      = if s.claimOf g = .pending ∧ (s.moveHeld sl x).hostBusy g = false then .claimed else s.claimOf g := by
  obtain ⟨u, hu, liu⟩ := moveHeld_settles ho x
  have same : u.claimOf g = s.claimOf g := by rw [State.claimOf, State.claimOf, liu]
  rw [hu, settleClaims_claimOf, hostBusy_of_opt (settleClaims_opt u), same]

/-- A group that still holds an operation of the host keeps its entry. -/
theorem writeEnd_claim_stays (ho : s.opAt sl = some o) {r : Result} {rem : Option Remaining} {g : Group}
    (busy : (s.writeEnd sl r rem).hostBusy g = true) : (s.writeEnd sl r rem).claimOf g = s.claimOf g := by
  rw [writeEnd_claimOf ho, busy]
  simp

theorem motionCeased_claim_stays {g : Group} (busy : (s.motionCeased sl).hostBusy g = true) :
    (s.motionCeased sl).claimOf g = s.claimOf g := by
  unfold State.motionCeased at busy ⊢
  split at busy
  · next none => rfl
  · next o ho =>
    split at busy
    · simp only [State.endOp, ho] at busy ⊢
      exact writeEnd_claim_stays ho busy
    · rw [moveHeld_claimOf ho, busy]; simp
    · rfl

theorem stopToward_claim_stays {d : Dest} {g : Group} (busy : (s.stopToward sl d).hostBusy g = true) :
    (s.stopToward sl d).claimOf g = s.claimOf g := by
  unfold State.stopToward at busy ⊢
  split at busy
  · rfl
  · next o ho =>
    split at busy
    · next ph running =>
      have ramped : ((s.setOp sl { o with state := .stopping d ph }).rampGroup o.job.group).claimOf g = s.claimOf g := by
        rw [rampGroup_frame]; rfl
      dsimp only at busy ⊢
      split at busy
      · next rest => rw [if_pos rest]; exact (motionCeased_claim_stays busy).trans ramped
      · next moving => rw [if_neg moving]; exact ramped
    · rfl

theorem cancelOp_claim_stays {r : Result} {g : Group} (busy : (s.cancelOp sl r).hostBusy g = true) :
    (s.cancelOp sl r).claimOf g = s.claimOf g := by
  unfold State.cancelOp at busy ⊢
  split at busy
  · rfl
  · next o ho =>
    split at busy
    · simp only [State.endOp, ho] at busy ⊢
      exact writeEnd_claim_stays ho busy
    · simp only [State.endOp, ho] at busy ⊢
      exact writeEnd_claim_stays ho busy
    · exact stopToward_claim_stays busy
    all_goals rfl

end

/-- Cancels outside the pending groups leave the map (R183). -/
theorem cancelAll_claimOf {s : State} {p : Op → Bool} {r : Result} (law : ∀ g, s.claimLaw g)
    (spares : ∀ o, p o = true → s.claimOf o.job.group ≠ .pending) (g : Group) :
    (s.cancelAll (fun _ o => p o) r).claimOf g = s.claimOf g := by
  by_cases pending : s.claimOf g = .pending
  · obtain ⟨w, o, ho, host⟩ := (hostBusy_hosts s g).1 ((law g).2 pending).1
    obtain ⟨kept, -⟩ := eachOp_invariant (I := fun u => u.claimOf g = s.claimOf g ∧ u.opAt w = some o)
      (p := fun _ o => !o.state.isEnded && p o) (f := fun s sl => s.cancelOp sl r) (fun u sl q hu hq named => by
        obtain ⟨claim, witness⟩ := hu
        have other : sl ≠ w := fun same => by
          subst same
          rw [witness] at hq
          cases hq
          simp only [Bool.and_eq_true] at named
          exact spares o named.2 (by rw [host.1]; exact pending)
        have stays : (u.cancelOp sl r).opAt w = some o := (cancelOp_other u r other).trans witness
        exact ⟨(cancelOp_claim_stays ((hostBusy_hosts _ g).2 ⟨w, o, stays, host⟩)).trans claim, stays⟩)
      (s := s) ⟨rfl, ho⟩
    exact kept
  · rcases (eased_cancelAll s (fun _ o => p o) r).claims g with same | ⟨was, -⟩
    · exact same
    · exact absurd was pending

/-- The entries of the groups taken, after the cancels. -/
theorem claimGroups_claimOf (l : List Group) (u : State) (g : Group) :
    (l.foldl State.claimGroup u).claimOf g = if g ∈ l then (if u.hostBusy g then .pending else .claimed) else u.claimOf g := by
  induction l generalizing u with
  | nil => simp
  | cons a l ih =>
    have same : (u.claimGroup a).hostBusy g = u.hostBusy g := hostBusy_of_opt rfl g
    rw [List.foldl_cons, ih, same, State.claimGroup, claimOf_setClaim]
    by_cases e : a = g
    · subst e; simp
    · simp [e, Ne.symm e]

/-- The map is all that CLAIM and RELEASE write beside the cancels. -/
theorem claimGroups_frame (l : List Group) (u : State) :
    l.foldl State.claimGroup u = { u with liu := { u.liu with claims := (l.foldl State.claimGroup u).liu.claims } } := by
  induction l generalizing u with
  | nil => rfl
  | cons a l ih => rw [List.foldl_cons, ih]; rfl

theorem freeGroups_frame (l : List Group) (u : State) :
    l.foldl (fun t g => t.setClaim g .free) u
      = { u with liu := { u.liu with claims := (l.foldl (fun t g => t.setClaim g .free) u).liu.claims } } := by
  induction l generalizing u with
  | nil => rfl
  | cons a l ih => rw [List.foldl_cons, ih]; rfl

theorem freeGroups_claimOf (l : List Group) (u : State) (g : Group) :
    (l.foldl (fun t g => t.setClaim g .free) u).claimOf g = if g ∈ l then .free else u.claimOf g := by
  induction l generalizing u with
  | nil => simp
  | cons a l ih =>
    rw [List.foldl_cons, ih, claimOf_setClaim]
    by_cases e : a = g
    · subst e; simp
    · simp [e, Ne.symm e]

/-- The end of a CLAIM or RELEASE that left `v` (R183, R184). -/
def State.mapSettled (s v : State) : State := (if v.liu.claims = s.liu.claims then v else v.raise .claims).settle

theorem handleClaim_taken {s : State} {m : Byte} (fits : s.claimSetOk m = true) :
    handleClaim s .service [m] = (s.mapSettled (s.takeClaims (groupsOf m)),
      Answer.ok [(s.mapSettled (s.takeClaims (groupsOf m))).claimsByte]) := by
  simp [handleClaim, fits, State.mapSettled]

theorem handleRelease_taken {s : State} {m : Byte} (fits : s.claimSetOk m = true) :
    handleRelease s .service [m] = (s.mapSettled ((groupsOf m).foldl (fun t g => t.setClaim g .free) s),
      Answer.ok [(s.mapSettled ((groupsOf m).foldl (fun t g => t.setClaim g .free) s)).claimsByte]) := by
  simp [handleRelease, fits, State.mapSettled]

/-- A calm end of a CLAIM or RELEASE: the notices aside the part is as its effects left it, and CLAIMS is raised where the
map changed. -/
theorem mapSettled_follows {s v : State} (calm : v.Calm) :
    ∃ u : State, Follows u (s.mapSettled v) ∧ u = { v with ntu := u.ntu }
      ∧ ((s.mapSettled v).liu.claims ≠ s.liu.claims →
        (s.mapSettled v).ntu.coach.cats &&& Category.claims.bit = Category.claims.bit
        ∧ (s.mapSettled v).ntu.service.cats &&& Category.claims.bit = Category.claims.bit) := by
  unfold State.mapSettled
  split
  · next same =>
    have follows := follows_settle calm
    refine ⟨v, follows, rfl, fun moved => ?_⟩
    rw [follows.links] at moved
    exact absurd same moved
  · have follows := follows_settle (s := v.raise .claims) (calm_same calm rfl rfl rfl)
    exact ⟨v.raise .claims, follows, rfl, fun _ => follows.notices.cats (raise_has _ _) (raise_has _ _)⟩

theorem claimSetOk_iff (s : State) (m : Byte) :
    s.claimSetOk m = true ↔ m.toNat < 64 ∧ ∀ g ∈ groupsOf m, s.items.configured g = true := by
  have bits : (!m.getLsbD 6 && !m.getLsbD 7) = decide (m.toNat < 64) := by revert m; decide
  unfold State.claimSetOk
  rw [bits]
  simp

/-- The groups that a CLAIM takes: those of its set that were free. -/
def State.claimTakes (s : State) (m : Byte) : List Group := (groupsOf m).filter (fun g => s.claimOf g == .free)

theorem mem_claimTakes {s : State} {m : Byte} {g : Group} : g ∈ s.claimTakes m ↔ g ∈ groupsOf m ∧ s.claimOf g = .free := by
  simp [State.claimTakes]

/-- The operations that a CLAIM cancels. -/
def State.claimCancels (s : State) (m : Byte) (o : Op) : Bool := (s.claimTakes m).contains o.job.group && o.claimable

/-- The part after the cancels of a CLAIM. -/
def State.claimCancelled (s : State) (m : Byte) : State := s.cancelAll (fun _ o => s.claimCancels m o) (.cancelled .claimed)

theorem takeClaims_eq (s : State) (m : Byte) :
    s.takeClaims (groupsOf m) = (s.claimTakes m).foldl State.claimGroup (s.claimCancelled m) := rfl

theorem cancelAll_none {s : State} {p : Op → Bool} {r : Result} (h : ∀ sl o, s.opAt sl = some o → o.state.isEnded = false → p o = false) :
    s.cancelAll (fun _ o => p o) r = s :=
  eachOp_invariant (I := fun u => u = s) (p := fun _ o => !o.state.isEnded && p o) (f := fun s sl => s.cancelOp sl r)
    (fun u sl o same ho named => by
      subst same
      simp only [Bool.and_eq_true, Bool.not_eq_true'] at named
      rw [h sl o ho named.1] at named
      exact absurd named.2 (by simp)) rfl

theorem opClass_normal {k : OpKind} : k.opClass = .normal ↔ k ≠ .awningStow := by cases k <;> decide

theorem claimable_iff (o : Op) :
    o.claimable = true ↔ o.job.origin = .link ∨ o.job.origin = .internal ∧ o.opClass = .normal := by
  simp [Op.claimable]

theorem claimCancels_iff {s : State} {m : Byte} {o : Op} : s.claimCancels m o = true
    ↔ (o.job.group ∈ groupsOf m ∧ s.claimOf o.job.group = .free)
      ∧ (o.job.origin = .link ∨ o.job.origin = .internal ∧ o.opClass = .normal) := by
  rw [← claimable_iff, ← mem_claimTakes]
  simp [State.claimCancels]

/-- The remaining field of an operation follows from a room's reference and counts alone (R15). -/
theorem remainingOf_rooms {s t : State} (frame : t = { s with sdc := t.sdc })
    (referenced : ∀ n, (t.roomUnit n).referenced = (s.roomUnit n).referenced)
    (count : ∀ n m, ((t.roomUnit n).motor m).count = ((s.roomUnit n).motor m).count) (o : Op) : t.remainingOf o = s.remainingOf o := by
  have items : t.items = s.items := by rw [frame]; rfl
  have busy : ∀ g, t.busyOp g = s.busyOp g := fun g => by rw [frame]; rfl
  have motor : ∀ n m, t.motorPosition (.room n m) = s.motorPosition (.room n m) := fun n m => by
    simp only [State.motorPosition, State.motor, State.travelOf, items, count]
  have position : ∀ n, t.roomPosition n = s.roomPosition n := fun n => by
    simp only [State.roomPosition, referenced, motor, items, busy]
  simp only [State.remainingOf, position]
  rw [frame]
  rfl

/-- A coast window that closes (R104). -/
def State.uncoasted (s : State) (n : Room) (m : MotorId) : State := s.modRoomMotor n m (fun x => { x with coast := none })

theorem uncoasted_motor (s : State) (n k : Room) (m i : MotorId) :
    ((s.uncoasted n m).roomUnit k).motor i
      = if n = k ∧ m = i then { (s.roomUnit k).motor i with coast := none } else (s.roomUnit k).motor i := by
  unfold State.uncoasted State.modRoomMotor
  rw [State.modRoom_roomUnit]
  by_cases e : n = k
  · subst e
    cases m <;> cases i <;> simp [RoomUnit.modMotor, RoomUnit.motor]
  · simp [e]

theorem uncoasted_referenced (s : State) (n k : Room) (m : MotorId) :
    ((s.uncoasted n m).roomUnit k).referenced = (s.roomUnit k).referenced := by
  unfold State.uncoasted State.modRoomMotor
  rw [State.modRoom_roomUnit]
  split
  · cases m <;> rfl
  · rfl

theorem uncoasted_remaining (s : State) (n : Room) (m : MotorId) (o : Op) : (s.uncoasted n m).remainingOf o = s.remainingOf o :=
  remainingOf_rooms rfl (fun k => uncoasted_referenced s n k m) (fun k i => by rw [uncoasted_motor]; split <;> rfl) o

/-- The end of a coast in a room at rest, its operation in STOPPING toward an end (R104, R110). -/
theorem roomCoast_stopping {s : State} {n : Room} {m : MotorId} {sl : Slot} {o : Op} {r : Result} {ph : Option Phase}
    (active : s.activeOp (.room n) = some (sl, o)) (stopping : o.state = .stopping (.ended r) ph)
    (rests : ((s.uncoasted n m).roomUnit n).atRest = true) :
    s.roomCoastExpired n m = (s.uncoasted n m).writeEnd sl r (s.remainingOf o) := by
  have ho : (s.uncoasted n m).opAt sl = some o := (activeOp_some active).1
  have found : (s.uncoasted n m).activeOp (.room n) = some (sl, o) := active
  show (s.uncoasted n m).roomRests n = _
  rw [State.roomRests, if_pos rests]
  simp only [found, stopping, State.motionCeased, ho, State.endOp, uncoasted_remaining]

/-- Settles O31: the refusals, the map that a CLAIM or RELEASE leaves, and the coast that ends a pending claim. -/
theorem claimAndRelease : Obligations.ClaimAndRelease := by
  refine ⟨fun s m => ⟨fun takes => ?_, fun takes unfit => ?_, claimSetOk_iff s m, fun takes fits calm idle => ?_,
    fun takes fits undisturbed law waiting => ?_, fun takes fits calm => ?_⟩, fun s c sl o r ph calm law one pending active
    stopping coasting rests => ?_⟩
  · exact ⟨congrArg _ (request_refused takes (f := handleClaim) (r := .wrongLink) rfl),
      congrArg _ (request_refused takes (f := handleRelease) (r := .wrongLink) rfl)⟩
  · exact ⟨congrArg _ (request_refused takes (f := handleClaim) (r := .badGroup) (by simp [handleClaim, unfit])),
      congrArg _ (request_refused takes (f := handleRelease) (r := .badGroup) (by simp [handleRelease, unfit]))⟩
  · have none : s.claimCancelled m = s := cancelAll_none fun sl o ho running => by
      cases named : s.claimCancels m o with
      | false => rfl
      | true =>
        obtain ⟨taken, host⟩ := claimCancels_iff.1 named
        have busy := (hostBusy_iff s o.job.group).2 ⟨sl, o, ho, rfl, running, (claimable_iff o).2 host⟩
        rw [idle _ taken.1] at busy
        exact busy.symm
    obtain ⟨u, follows, same, raised⟩ := mapSettled_follows (s := s) (v := s.takeClaims (groupsOf m)) (by
      rw [takeClaims_eq, none, claimGroups_frame]; exact calm_same calm rfl rfl rfl)
    refine ⟨_, congrArg _ (request_accepted takes (f := handleClaim) (handleClaim_taken fits)), fun g _ => ?_, raised,
      follows.keepsBut ?_⟩
    · rw [State.claimOf, follows.links, same]
      refine (claimGroups_claimOf (s.claimTakes m) (s.claimCancelled m) g).trans ?_
      rw [none]
      simp only [mem_claimTakes]
      split
      · next taken => rw [idle g taken.1]; rfl
      · rfl
    · rw [same, takeClaims_eq, none, claimGroups_frame]
      exact keepsBut_of
  · have records := cancelAll_records s (s.claimCancels m) (.cancelled .claimed)
    have eased := eased_cancelAll s (fun _ o => s.claimCancels m o) (.cancelled .claimed)
    obtain ⟨list, ends, -⟩ := cancelAll_lists s (fun _ o => s.claimCancels m o) (.cancelled .claimed)
    have claims := cancelAll_claimOf (r := .cancelled .claimed) law (p := s.claimCancels m) fun o named => by
      rw [(claimCancels_iff.1 named).1.2]; simp
    change s.eachRecord (s.claimCancelled m) _ _ at records
    change Eased s (s.claimCancelled m) at eased
    change (s.claimCancelled m).opt.endedList = s.opt.endedList ++ s.newlyEnded (s.claimCancelled m) at list
    change (s.claimCancelled m).opt.ends = s.opt.ends + (s.newlyEnded (s.claimCancelled m)).length at ends
    change ∀ g, (s.claimCancelled m).claimOf g = s.claimOf g at claims
    obtain ⟨u, follows, same, raised⟩ := mapSettled_follows (s := s) (v := s.takeClaims (groupsOf m)) (by
      rw [takeClaims_eq, claimGroups_frame]
      exact calm_cancelled undisturbed (eased.blocks.1 .items (by decide))
        (congrArg (·.inputs) (eased.blocks.1 .inputs (by decide) : (s.claimCancelled m).inm = _)) records
        fun sl o ho admitted => claimCancels_iff.2 (waiting sl o ho admitted))
    have table : (s.mapSettled (s.takeClaims (groupsOf m))).opt = (s.claimCancelled m).opt := by
      rw [follows.table, same, takeClaims_eq, claimGroups_frame]
    refine ⟨_, congrArg _ (request_accepted takes (f := handleClaim) (handleClaim_taken fits)), ?_, ?_, ?_, fun g _ => ?_,
      raised, follows.keepsBut ?_⟩
    · intro sl
      rw [opAt_of_opt table]
      have decided : s.claimCancels m = fun o => decide ((o.job.group ∈ groupsOf m ∧ s.claimOf o.job.group = .free)
          ∧ (o.job.origin = .link ∨ o.job.origin = .internal ∧ o.opClass = .normal)) :=
        funext fun o => by rw [Bool.eq_iff_iff, decide_eq_true_iff, claimCancels_iff]
      rw [decided] at records
      exact records sl
    · rw [newlyEnded_of_opt table, table]; exact list
    · rw [newlyEnded_of_opt table, table]; exact ends
    · have entry : (s.mapSettled (s.takeClaims (groupsOf m))).claimOf g
          = if g ∈ s.claimTakes m then (if (s.claimCancelled m).hostBusy g then .pending else .claimed) else s.claimOf g := by
        rw [State.claimOf, follows.links, same]
        exact (claimGroups_claimOf (s.claimTakes m) (s.claimCancelled m) g).trans (by rw [claims g])
      rw [entry]
      refine ⟨fun spared => if_neg (mt mem_claimTakes.1 spared), fun taken => ?_⟩
      rw [if_pos (mem_claimTakes.2 taken)]
      refine if_congr ?_ rfl rfl
      rw [hostBusy_iff]
      simp only [claimable_iff, opAt_of_opt table]
    · rw [same, takeClaims_eq, claimGroups_frame]
      generalize s.claimCancelled m = v at eased ⊢
      generalize ((s.claimTakes m).foldl State.claimGroup v).liu.claims = c
      exact keepsBut_trans eased.blocks keepsBut_of
  · obtain ⟨u, follows, same, raised⟩ :=
      mapSettled_follows (s := s) (v := (groupsOf m).foldl (fun t g => t.setClaim g .free) s) (by
        rw [freeGroups_frame]; exact calm_same calm rfl rfl rfl)
    refine ⟨_, congrArg _ (request_accepted takes (f := handleRelease) (handleRelease_taken fits)), fun g _ => ?_, raised,
      follows.keepsBut ?_⟩
    · rw [State.claimOf, follows.links, same]
      exact freeGroups_claimOf _ _ _
    · rw [same, freeGroups_frame]
      exact keepsBut_of
  · obtain ⟨ho, room, -⟩ := activeOp_some active
    have fired : exec (.roomCoastExpiry c) s = .next (s.roomCoastExpired (channelRoom c) (channelMotor c)).settle :=
      congrArg _ (if_pos coasting)
    rw [fired, roomCoast_stopping active stopping rests]
    have calmly : (s.uncoasted (channelRoom c) (channelMotor c)).Calm := calm_same calm rfl rfl rfl
    have claims : ∀ g, (s.uncoasted (channelRoom c) (channelMotor c)).claimOf g = s.claimOf g := fun _ => rfl
    have before : ∀ k, (s.uncoasted (channelRoom c) (channelMotor c)).opAt k = s.opAt k := fun _ => rfl
    have ends := (endsOp_writeEnd ((before sl).trans ho) r (s.remainingOf o)).of_eq (s := s) rfl rfl rfl
    generalize s.uncoasted (channelRoom c) (channelMotor c) = u at calmly claims before ends ⊢
    have wrote := wrote_writeEnd ((before sl).trans ho) r (s.remainingOf o)
    have follows := follows_settle (calm_writeEnd calmly ((before sl).trans ho) r (s.remainingOf o))
    have entry : ∀ g, (u.writeEnd sl r (s.remainingOf o)).settle.claimOf g
        = if s.claimOf g = .pending ∧ (u.writeEnd sl r (s.remainingOf o)).hostBusy g = false then .claimed else s.claimOf g :=
      fun g => by
        rw [State.claimOf, follows.links, ← claims g]
        exact writeEnd_claimOf ((before sl).trans ho) r _ g
    have idle : (u.writeEnd sl r (s.remainingOf o)).hostBusy (.room (channelRoom c)) = false := by
      rw [hostBusy_false]
      rintro k p hp ⟨group, running, -⟩
      by_cases e : sl = k
      · subst e
        rw [wrote.self] at hp
        cases hp
        cases running
      · rw [wrote.other e, before] at hp
        exact e (one sl k o ho p hp (by rw [stopping]; rfl) running (room.trans group.symm))
    refine ⟨_, rfl, ends.follows follows, by rw [entry, if_pos ⟨pending, idle⟩], fun g other => ?_⟩
    · rw [entry, if_neg]
      rintro ⟨waits, idle⟩
      obtain ⟨k, p, hp, host⟩ := (hostBusy_hosts s g).1 ((law g).2 waits).1
      have apart : sl ≠ k := fun e => by
        subst e
        rw [ho] at hp
        cases hp
        exact other (host.1.symm.trans room)
      exact (hostBusy_false _ g).1 idle k p ((wrote.other apart).trans ((before k).trans hp)) host

end Sys2Proof.Machine
end

section
namespace Sys2Proof.Machine

-- One declaration at a time, so that the memory the check takes stays small.
set_option Elab.async false

/-! ### A grant (R32) -/

section

variable {u h : State} {sl : Slot} {behind : List Slot} {o : Op}

/-- The record of a granted operation before its controller has taken it. -/
def Op.started (o : Op) : Op := { o with state := .running none, resumed := false }

theorem grantRecord_opt (u : State) (sl : Slot) (o : Op) :
    (u.grantRecord sl o).opt = { u.opt with slots := u.opt.slots.set sl (some o.started) } := rfl

theorem grantRecord_frame (u : State) (sl : Slot) (o : Op) :
    u.grantRecord sl o = { u with opt := (u.grantRecord sl o).opt, sta := (u.grantRecord sl o).sta } := rfl

theorem filter_head (fresh : sl ∉ behind) : (sl :: behind).filter (fun q => q != sl) = behind := by
  rw [List.filter_cons_of_neg (by simp), List.filter_eq_self]
  intro k hk
  simp only [bne_iff_ne]
  rintro rfl
  exact fresh hk

theorem grantRecord_sta (queue : u.sta.queue = sl :: behind) (fresh : sl ∉ behind) :
    (u.grantRecord sl o).sta = { u.sta with
      queue := u.sta.queue.tail, resSum := u.sta.resSum + o.reservation
      normalSum := if o.opClass = OpClass.normal then u.sta.normalSum + o.reservation else u.sta.normalSum
      stagger := if u.items.supply.staggerTime = 0 then u.sta.stagger else some (u.now + u.items.supply.staggerTime) } := by
  have left : u.sta.queue.filter (fun q => q != sl) = u.sta.queue.tail := by rw [queue, filter_head fresh]; rfl
  simp [State.grantRecord, State.setOp, left]

/-- A group's controller that is over with its operation drives what it drove before. -/
theorem forgetGroup_driven (s : State) (g : Group) :
    (∀ n m, (((s.forgetGroup g).roomUnit n).motor m).driven = ((s.roomUnit n).motor m).driven)
    ∧ (s.forgetGroup g).awu.motor.driven = s.awu.motor.driven
    ∧ (s.forgetGroup g).lvc.pump = s.lvc.pump
    ∧ ∀ j, (((s.forgetGroup g).jack j).extending = true → (s.jack j).extending = true)
      ∧ (((s.forgetGroup g).jack j).retracting = true → (s.jack j).retracting = true) := by
  cases g with
  | jacks =>
    refine ⟨fun _ _ => rfl, rfl, rfl, fun j => ?_⟩
    simp [State.forgetGroup, State.jack, Lvc.standDown, Lvc.closeValves]
  | room k =>
    refine ⟨fun n m => ?_, rfl, rfl, fun _ => ⟨id, id⟩⟩
    simp only [State.forgetGroup, State.modRoom_roomUnit]
    split
    · cases m <;> rfl
    · rfl
  | awning => exact ⟨fun _ _ => rfl, rfl, rfl, fun _ => ⟨id, id⟩⟩

/-- A granted operation that ends in its grant's event (R32). -/
theorem grantEnds_of (queue : u.sta.queue = sl :: behind) (fresh : sl ∉ behind)
    (opt : h.opt = (u.grantRecord sl o).opt) (sta : h.sta = (u.grantRecord sl o).sta) (rooms : h.sdc = u.sdc)
    (awning : h.awu.motor = u.awu.motor) (pump : h.lvc.pump = u.lvc.pump) (jacks : h.lvc.jacks = u.lvc.jacks)
    (r : Result) (rem : Option Remaining) : GrantEnds u (h.writeEnd sl r rem) sl o r := by
  have start : Wrote u h sl o.started := (wrote_grantRecord u sl o).of_opt opt
  obtain ⟨c, hc⟩ := writeEnd_eq start.self r rem
  have wrote := wrote_writeEnd start.self r rem
  obtain ⟨driven, awningDriven, pumpOn, valves⟩ := forgetGroup_driven h o.job.group
  refine ⟨⟨rem, ?_⟩, fun k hk => ?_, ?_, ?_, fun n m => ?_, ?_, ?_, fun j => ?_⟩
  · rw [wrote.self, opt]; rfl
  · have apart : sl ≠ k := by rintro rfl; exact hk (by rw [queue]; exact List.mem_cons_self)
    rw [wrote.other apart, start.other apart]
  · rw [hc, opt]; rfl
  · rw [hc, sta, grantRecord_sta queue fresh]
    have rest : u.sta.queue.tail.filter (fun q => q != sl) = u.sta.queue.tail := by
      rw [queue, List.tail_cons, List.filter_eq_self]
      intro k hk
      simp only [bne_iff_ne]
      rintro rfl
      exact fresh hk
    by_cases normal : o.job.kind.opClass = .normal <;> simp [rest, Op.started, OpState.active, Op.opClass, normal]
  · have same : ((h.writeEnd sl r rem).roomUnit n).motor m = ((h.forgetGroup o.job.group).roomUnit n).motor m := by rw [hc]; rfl
    rw [same, driven, roomUnit_congr rooms]
  · rw [hc]; exact awningDriven.trans (by rw [awning])
  · rw [hc]; exact pumpOn.trans pump
  · have same : (h.writeEnd sl r rem).jack j = (h.forgetGroup o.job.group).jack j := by rw [hc]; rfl
    have before : h.jack j = u.jack j := by rw [State.jack, jacks, State.jack]
    rw [same, ← before]
    exact valves j

/-- A granted operation that runs in a phase (R27, R32, R34). -/
theorem grantRuns_of {t : State} {ph : Phase} {held : List Block} (queue : u.sta.queue = sl :: behind) (fresh : sl ∉ behind)
    (opt : t.opt = { u.opt with slots := u.opt.slots.set sl (some { o with state := .running (some ph), resumed := false }) })
    (sta : t.sta = (u.grantRecord sl o).sta) (rest : u.keepsBut t ([.table, .arbiter] ++ held)) : GrantRuns u t sl o ph held := by
  have wrote : Wrote u t sl { o with state := .running (some ph), resumed := false } :=
    (wrote_setOp u sl _).of_opt opt
  refine ⟨wrote.self, fun k hk => wrote.other ?_, sta.trans (grantRecord_sta queue fresh), rest⟩
  rintro rfl
  exact hk (by rw [queue]; exact List.mem_cons_self)

end

end Sys2Proof.Machine
end

section
namespace Sys2Proof.Machine

-- One declaration at a time, so that the memory the check takes stays small.
set_option Elab.async false

/-! ### What each group's controller makes of a grant -/

section

variable {u h : State} {sl : Slot} {behind : List Slot} {o : Op}

theorem set_twice {α : Type} {n : Nat} (b : Bank α n) (i : Fin n) (x y : α) : (b.set i x).set i y = b.set i y := by
  apply Bank.cells_inj
  simp [Bank.set]

/-- A report for the operation that was just granted, of a group that is no room or with a result that reaches no other. -/
theorem started_reportEndWith (start : h.opAt sl = some o.started) (r : Result) (rem : Option Remaining)
    (fine : slideFault o r = false) : h.reportEndWith sl r rem = h.writeEnd sl r rem :=
  reportEndWith_running start rfl fine

theorem started_reportEnd (start : h.opAt sl = some o.started) (r : Result) (fine : slideFault o r = false) :
    h.reportEnd sl r = h.writeEnd sl r (h.remainingOf o.started) :=
  reportEnd_running start rfl fine

theorem slideFault_other {r : Result} (other : o.job.group.isRoom = false) : slideFault o r = false := by
  simp [slideFault, other]

theorem started_reportPhase (start : h.opAt sl = some o.started) (ph : Phase) :
    h.reportPhase sl ph = h.setOp sl { o with state := .running (some ph), resumed := false } := by
  simp only [State.reportPhase, start, Op.started]

theorem grantRecord_self (u : State) (sl : Slot) (o : Op) : (u.grantRecord sl o).opAt sl = some o.started :=
  (wrote_grantRecord u sl o).self

theorem awningDir_now (s : State) (o : Op) : s.awningDir o
    = if o.job.kind = .awningSet then s.awu.setDir.getD .inward
      else if o.job.kind = .awningJog then o.job.dir.getD .inward else .inward := by
  unfold State.awningDir
  cases o.job.kind <;> simp

/-- The awning as its controller takes a granted operation: the direction and the target of a resumed AWNING_SET are fixed
again (R121). -/
def State.awningTaken (s : State) (o : Op) : AwningUnit :=
  { s.awu with
    setDir := if o.job.kind = .awningSet ∧ o.resumed = true then some (s.setDirNow o.job) else s.awu.setDir
    target := if o.job.kind = .awningSet ∧ o.resumed = true then s.setTarget o.job else s.awu.target }

theorem awningTaken_eq (s : State) (o : Op) :
    (if o.resumed = true then s.fixAwning o.job else s) = { s with awu := s.awningTaken o } := by
  by_cases again : o.resumed = true <;> by_cases kind : o.job.kind = .awningSet <;>
    simp [State.awningTaken, State.fixAwning, again, kind, State.modAwning]

/-- The direction in which a granted awning operation is to run (R121, R122). -/
def State.awningHeading (s : State) (o : Op) : Dir :=
  if o.job.kind = .awningSet then
    if o.resumed = true then
      if s.awu.motor.count < o.job.value.getD 0 * s.items.awn.travel / 1000 then Dir.outward else .inward
    else s.awu.setDir.getD .inward
  else if o.job.kind = .awningJog then o.job.dir.getD .inward else .inward

theorem awningTaken_heading (s : State) (o : Op) :
    ({ s with awu := s.awningTaken o } : State).awningDir o = s.awningHeading o := by
  rw [awningDir_now, State.awningHeading]
  by_cases kind : o.job.kind = .awningSet
  · by_cases again : o.resumed = true
    · simp [State.awningTaken, kind, again, State.setDirNow, State.setTarget]
      rfl
    · simp [State.awningTaken, kind, again]
  · simp only [kind, if_false]

/-- What the awning's controller makes of a granted operation (R121, R122, R130). -/
theorem startAwning_cases (s : State) (sl : Slot) (o : Op) :
    (o.resumed = true ∧ s.awningIdleJob o.job = true →
      s.startAwning sl o o.resumed = s.reportEndWith sl .complete (some (.permille 0)))
    ∧ (¬ (o.resumed = true ∧ s.awningIdleJob o.job = true) →
      (s.awningHeading o = .outward → s.windBars = true →
        s.startAwning sl o o.resumed = ({ s with awu := s.awningTaken o } : State).reportEnd sl (.cancelled .interlock))
      ∧ (¬ (s.awningHeading o = .outward ∧ s.windBars = true) →
        s.startAwning sl o o.resumed = ({ s with awu := s.awningTaken o } : State).runAwning sl o o.resumed)) := by
  have heading := awningTaken_heading s o
  refine ⟨fun idle => ?_, fun moves => ⟨fun outward windy => ?_, fun free => ?_⟩⟩
  · rw [State.startAwning, if_pos (Bool.and_eq_true_iff.2 idle)]
  · rw [State.startAwning, if_neg (by rw [Bool.and_eq_true_iff]; exact moves), awningTaken_eq]
    refine if_pos ?_
    rw [heading, outward]
    exact windy
  · rw [State.startAwning, if_neg (by rw [Bool.and_eq_true_iff]; exact moves), awningTaken_eq]
    refine if_neg ?_
    rw [heading, Bool.and_eq_true_iff, beq_iff_eq]
    exact free

/-- The awning's motor starts (R122). -/
theorem runAwning_eq (start : h.opAt sl = some o.started) (resumed : Bool) :
    h.runAwning sl o resumed = { h with
      opt := { h.opt with slots := h.opt.slots.set sl (some { o with
        state := .running (some (if o.job.kind = .awningSet then .breakaway else .move)), resumed := false }) }
      awu := { h.awu with
        motor := h.awu.motor.startedAs (h.awningDir o) h.awningProfile.breakawayDuty
        ramped := h.awningProfile.breakawayDuty, breaking := true, creeping := resumed && h.awu.creeping
        breakTimer := some (h.now + h.awningProfile.breakawayTime), stallTimer := some (h.now + h.awningProfile.stallWindow)
        jogTimer := if o.job.kind = OpKind.awningJog then some (h.now + o.job.value.getD 0) else none, pend := none } } := by
  have phase : (if (o.job.kind == OpKind.awningSet) = true then Phase.breakaway else .move)
      = if o.job.kind = .awningSet then .breakaway else .move := by simp
  have timer : (if (o.job.kind == OpKind.awningJog) = true then some (h.now + o.job.value.getD 0) else none)
      = if o.job.kind = .awningJog then some (h.now + o.job.value.getD 0) else none := by simp
  rw [← phase, ← timer]
  refine (started_reportPhase ?_ _).trans rfl
  exact start

theorem grants_awning (queue : u.sta.queue = sl :: behind) (fresh : sl ∉ behind) (group : o.job.group = .awning) :
    u.GrantsAwning ((u.grantRecord sl o).startAwning sl o o.resumed) sl o := by
  have other : o.job.group.isRoom = false := by rw [group]; rfl
  obtain ⟨rests, starts⟩ := startAwning_cases (u.grantRecord sl o) sl o
  have windy : (u.grantRecord sl o).windBars = true ↔ u.wind.lockout.isSome = true ∨ u.wind.trigger = true := by
    rw [← Bool.or_eq_true]; rfl
  refine ⟨fun idle => ?_, fun moves outward bars => ?_, fun moves free => ?_⟩
  · rw [rests idle, started_reportEndWith (grantRecord_self u sl o) _ _ (slideFault_other other)]
    exact grantEnds_of queue fresh rfl rfl rfl rfl rfl rfl _ _
  · rw [(starts moves).1 outward (windy.2 bars),
      started_reportEnd (h := { u.grantRecord sl o with awu := (u.grantRecord sl o).awningTaken o }) (grantRecord_self u sl o) _
        (slideFault_other other)]
    exact grantEnds_of (h := { u.grantRecord sl o with awu := (u.grantRecord sl o).awningTaken o }) queue fresh rfl rfl rfl rfl
      rfl rfl _ _
  · rw [(starts moves).2 fun both => free both.1 (windy.1 both.2)]
    have heading := awningTaken_heading (u.grantRecord sl o) o
    rw [runAwning_eq (h := { u.grantRecord sl o with awu := (u.grantRecord sl o).awningTaken o }) (grantRecord_self u sl o), heading]
    refine ⟨grantRuns_of queue fresh ?_ rfl keepsBut_of, ?_⟩
    · simp [grantRecord_opt, set_twice]
    · by_cases both : o.job.kind = .awningSet ∧ o.resumed = true
      · obtain ⟨kind, again⟩ := both
        simp only [State.awningTaken, State.awningHeading, State.setDirNow, State.setTarget, kind, again, and_self, if_true]
        rfl
      · simp only [State.awningTaken, if_neg both]
        rfl

end

end Sys2Proof.Machine
end

section
namespace Sys2Proof.Machine

-- One declaration at a time, so that the memory the check takes stays small.
set_option Elab.async false

section

variable {u h : State} {sl : Slot} {behind : List Slot} {o : Op} {n : Room}

theorem modRoomMotors_frame (s : State) (n : Room) (f : Motor → Motor) (which : List MotorId) :
    which.foldl (fun s m => s.modRoomMotor n m f) s = { s with sdc := (which.foldl (fun s m => s.modRoomMotor n m f) s).sdc } := by
  induction which generalizing s with
  | nil => rfl
  | cons m l ih => rw [List.foldl_cons, ih]; rfl

theorem modRoomMotors_roomUnit (s : State) (n k : Room) (f : Motor → Motor) (which : List MotorId) :
    (which.foldl (fun s m => s.modRoomMotor n m f) s).roomUnit k
      = if n = k then which.foldl (fun r m => r.modMotor m f) (s.roomUnit k) else s.roomUnit k := by
  induction which generalizing s with
  | nil => simp
  | cons m l ih =>
    rw [List.foldl_cons, ih, State.modRoomMotor, State.modRoom_roomUnit]
    by_cases e : n = k
    · subst e; simp
    · simp [e]

theorem modMotors_frame (r : RoomUnit) (f : Motor → Motor) (which : List MotorId) :
    which.foldl (fun r m => r.modMotor m f) r
      = { r with a := (which.foldl (fun r m => r.modMotor m f) r).a, b := (which.foldl (fun r m => r.modMotor m f) r).b } := by
  induction which generalizing r with
  | nil => rfl
  | cons m l ih => rw [List.foldl_cons, ih]; cases m <;> rfl

/-- The unit of a room whose motors have been started (R98, R99). -/
def RoomUnit.startedAs (r : RoomUnit) (s : State) (j : Job) (resumed : Bool) (a b : Motor) : RoomUnit :=
  { r with
    a := a, b := b, ramped := s.roomProfile.breakawayDuty, breaking := true, lateTimer := none
    breakTimer := some (s.now + s.roomProfile.breakawayTime), stallTimer := some (s.now + s.roomProfile.stallWindow)
    jogTimer := if j.kind = OpKind.roomJog then some (s.now + j.value.getD 0) else none, pend := none
    creeping := resumed && r.creeping, blind := !r.referenced || resumed && r.blind }

/-- The motors of a room start (R98). -/
theorem startMotors_leaves (start : h.opAt sl = some o.started) (resumed : Bool) (which : List MotorId) :
    let started := which.foldl (fun r m => r.modMotor m (Motor.start o.job.roomDir h.roomProfile.breakawayDuty false)) (h.roomUnit n)
    let t := h.startMotors n sl o.job resumed which
    t = { h with
        opt := { h.opt with slots := h.opt.slots.set sl (some { o with
          state := .running (some (if o.job.kind = .roomJog then .move else .breakaway)), resumed := false }) }
        sdc := t.sdc }
    ∧ (∀ k, k ≠ n → t.roomUnit k = h.roomUnit k)
    ∧ t.roomUnit n = (h.roomUnit n).startedAs h o.job resumed started.a started.b := by
  intro started t
  let f := Motor.start o.job.roomDir h.roomProfile.breakawayDuty false
  let w := which.foldl (fun s m => s.modRoomMotor n m f) h
  let g : RoomUnit → RoomUnit := fun r => r.startedAs h o.job resumed r.a r.b
  have frame : w = { h with sdc := w.sdc } := modRoomMotors_frame h n f which
  have rooms : ∀ k, w.roomUnit k = if n = k then which.foldl (fun r m => r.modMotor m f) (h.roomUnit k) else h.roomUnit k :=
    fun k => modRoomMotors_roomUnit h n k f which
  have now : w.now = h.now := by rw [frame]
  have unit : which.foldl (fun r m => r.modMotor m f) (h.roomUnit n) = { h.roomUnit n with a := started.a, b := started.b } :=
    modMotors_frame _ f which
  have leaves : t = (w.modRoom n g).reportPhase sl (if o.job.kind = .roomJog then .move else .breakaway) := by
    have phase : (if (o.job.kind == OpKind.roomJog) = true then Phase.move else .breakaway)
        = if o.job.kind = .roomJog then .move else .breakaway := by simp
    have timer : (if (o.job.kind == OpKind.roomJog) = true then some (w.now + o.job.value.getD 0) else none)
        = if o.job.kind = .roomJog then some (h.now + o.job.value.getD 0) else none := by simp [now]
    show State.reportPhase (w.modRoom n _) sl _ = _
    rw [phase, timer, now]
    rfl
  have running : (w.modRoom n g).opAt sl = some o.started := by
    rw [frame]; exact start
  rw [leaves, started_reportPhase running]
  refine ⟨?_, fun k hk => ?_, ?_⟩
  · rw [frame]; rfl
  · show (w.modRoom n g).roomUnit k = _
    rw [State.modRoom_roomUnit, if_neg (Ne.symm hk), rooms, if_neg (Ne.symm hk)]
  · show (w.modRoom n g).roomUnit n = _
    rw [State.modRoom_roomUnit_self, rooms, if_pos rfl, unit]
    rfl

/-- What the room's controller makes of a granted operation (R95, R98, R108, R109). -/
theorem startRoom_cases (s : State) (n : Room) (sl : Slot) (o : Op) :
    let idle := o.resumed = true ∧ s.roomIdleJob n o.job = true
    let apart := s.items.room.motors.get n = 2 ∧ s.items.room.syncLimit < (s.roomUnit n).spread
    (idle → s.startRoom n sl o o.resumed = s.reportEndWith sl .complete (some (.permille 0)))
    ∧ (¬ idle → ¬ apart → s.startRoom n sl o o.resumed = s.startMotors n sl o.job o.resumed (s.items.motors n))
    ∧ (¬ idle → apart → o.job.roomDir = .outward → s.startRoom n sl o o.resumed = s.reportEnd sl (.failed .sync))
    ∧ (¬ idle → apart → o.job.roomDir = .inward → s.startRoom n sl o o.resumed
        = s.startMotors n sl o.job o.resumed [if (s.roomUnit n).b.count < (s.roomUnit n).a.count then .a else .b]) := by
  intro idle apart
  have tested : (s.twoMotors n && decide (s.items.room.syncLimit < (s.roomUnit n).spread)) = true ↔ apart := by
    simp [State.twoMotors, apart]
  refine ⟨fun rests => ?_, fun moves step => ?_, fun moves out dir => ?_, fun moves out dir => ?_⟩
  · rw [State.startRoom, if_pos (Bool.and_eq_true_iff.2 rests)]
  · rw [State.startRoom, if_neg (by rw [Bool.and_eq_true_iff]; exact moves), if_neg (by rw [tested]; exact step)]
  · rw [State.startRoom, if_neg (by rw [Bool.and_eq_true_iff]; exact moves), if_pos (tested.2 out), dir]
  · rw [State.startRoom, if_neg (by rw [Bool.and_eq_true_iff]; exact moves), if_pos (tested.2 out), dir]

theorem start_same (d : Dir) (duty : Nat) (m : Motor) : Motor.start d duty false m = m.startedAs d duty := rfl

theorem grants_room (queue : u.sta.queue = sl :: behind) (fresh : sl ∉ behind) :
    u.GrantsRoom ((u.grantRecord sl o).startRoom n sl o o.resumed) n sl o := by
  obtain ⟨rests, together, outward, inward⟩ := startRoom_cases (u.grantRecord sl o) n sl o
  have start := grantRecord_self u sl o
  have moves : ∀ which : List MotorId,
      let started := which.foldl (fun r m => r.modMotor m (Motor.start o.job.roomDir u.roomProfile.breakawayDuty false)) (u.roomUnit n)
      let t := (u.grantRecord sl o).startMotors n sl o.job o.resumed which
      GrantRuns u t sl o (if o.job.kind = .roomJog then .move else .breakaway) [.rooms]
      ∧ (∀ k, k ≠ n → t.roomUnit k = u.roomUnit k)
      ∧ t.roomUnit n = (u.roomUnit n).startedAs u o.job o.resumed started.a started.b := by
    intro which started t
    obtain ⟨frame, others, unit⟩ := startMotors_leaves (n := n) start o.resumed which
    change t = _ at frame
    refine ⟨grantRuns_of queue fresh ?_ (by rw [frame]) ?_, others, unit⟩
    · rw [frame]
      simp [grantRecord_opt, set_twice]
    · rw [frame]
      exact keepsBut_of
  refine ⟨fun idle => ?_, fun move step => ⟨fun two => ?_, fun one => ?_⟩, fun move apart dir => ⟨fun further => ?_, fun further => ?_⟩,
    fun move apart dir action => ?_⟩
  · rw [rests idle, started_reportEndWith start _ _ (by simp [slideFault])]
    exact grantEnds_of queue fresh rfl rfl rfl rfl rfl rfl _ _
  · have which : (u.grantRecord sl o).items.motors n = [.a, .b] := if_pos two
    rw [together move step, which]
    exact moves [.a, .b]
  · have which : (u.grantRecord sl o).items.motors n = [.a] := if_neg one
    rw [together move step, which]
    exact moves [.a]
  · rw [inward move apart dir]
    have which : (if ((u.grantRecord sl o).roomUnit n).b.count < ((u.grantRecord sl o).roomUnit n).a.count then MotorId.a else .b) = .a :=
      if_pos further
    rw [which]
    exact moves [.a]
  · rw [inward move apart dir]
    have which : (if ((u.grantRecord sl o).roomUnit n).b.count < ((u.grantRecord sl o).roomUnit n).a.count then MotorId.a else .b) = .b :=
      if_neg (Nat.not_lt.2 further)
    rw [which]
    exact moves [.b]
  · have failed : (u.grantRecord sl o).reportEnd sl (.failed .sync)
        = (u.grantRecord sl o).writeEnd sl (.failed .sync) ((u.grantRecord sl o).remainingOf o.started) := by
      have alone : ((u.grantRecord sl o).writeEnd sl (.failed .sync) ((u.grantRecord sl o).remainingOf o.started)).items.room.faultAction
          = .room := by
        obtain ⟨c, hc⟩ := writeEnd_eq start (.failed .sync) ((u.grantRecord sl o).remainingOf o.started)
        rw [hc]
        exact action
      simp only [State.reportEnd, start, State.reportEndWith, Op.started]
      split
      · rw [State.applySlideFault]
        simp only [Op.started] at alone
        rw [alone]
      · rfl
    rw [outward move apart dir, failed]
    exact grantEnds_of queue fresh rfl rfl rfl rfl rfl rfl _ _

end

end Sys2Proof.Machine
end

section
namespace Sys2Proof.Machine

-- One declaration at a time, so that the memory the check takes stays small.
set_option Elab.async false

section

variable {u h : State} {sl : Slot} {behind : List Slot} {o : Op}

/-- The part with LEVELLED clear, as the Levelling Controller takes a granted operation (R62). -/
def State.unlevelled (s : State) : State := { s with lvc := { s.lvc with levelled := false } }

theorem someRoomOut_iff (s : State) : s.someRoomOut = true ↔ ∃ n ∈ s.items.rooms, s.roomCondition n ≠ .inside := by
  simp [State.someRoomOut]

theorem barred_iff (s : State) (o : Op) : (o.retracts && !o.job.exempt && s.someRoomOut) = true
    ↔ (o.job.kind = .jacksStow ∨ o.job.kind = .jackJog ∧ o.job.dir = some .inward)
      ∧ ¬ (o.job.origin = .service ∧ o.job.override = true) ∧ ∃ n ∈ s.items.rooms, s.roomCondition n ≠ .inside := by
  simp only [Bool.and_eq_true, someRoomOut_iff]
  by_cases service : o.job.origin = .service <;> simp [Op.retracts, Job.exempt, and_assoc, service]

/-- What the Levelling Controller makes of a granted operation that it does not end at once (R65, R81 to R86). -/
def State.runJacks (s : State) (sl : Slot) (o : Op) : State :=
  match o.job.kind with
  | .level => if o.resumed && s.lvc.groundDone then s.beginSettle sl else s.beginGround sl
  | .ground => s.beginGround sl
  | .jacksStow => s.startStow sl
  | _ => s.startJackJog sl o.job

theorem startJacks_cases (s : State) (sl : Slot) (o : Op) :
    let barred := (o.job.kind = .jacksStow ∨ o.job.kind = .jackJog ∧ o.job.dir = some .inward)
      ∧ ¬ (o.job.origin = .service ∧ o.job.override = true) ∧ ∃ n ∈ s.items.rooms, s.roomCondition n ≠ .inside
    let idle := o.resumed = true ∧ s.jacksIdleJob o.job = true
    (barred → s.startJacks sl o o.resumed = s.unlevelled.reportEnd sl (.cancelled .interlock))
    ∧ (¬ barred → idle → s.startJacks sl o o.resumed = s.unlevelled.reportEnd sl .complete)
    ∧ (¬ barred → ¬ idle → s.startJacks sl o o.resumed = s.unlevelled.runJacks sl o) := by
  intro barred idle
  have stopped : (o.retracts && !o.job.exempt && s.unlevelled.someRoomOut) = true ↔ barred := barred_iff s o
  refine ⟨fun bars => ?_, fun free rests => ?_, fun free moves => ?_⟩
  · exact if_pos (stopped.2 bars)
  · exact (if_neg (mt stopped.1 free)).trans (if_pos (Bool.and_eq_true_iff.2 rests))
  · exact (if_neg (mt stopped.1 free)).trans (if_neg (by rw [Bool.and_eq_true_iff]; exact moves))

/-! ### The valves of a phase -/

theorem modJacks_frame (s : State) (f : JackUnit → JackUnit) (l : List Jack) :
    l.foldl (fun s j => s.modJack j f) s
      = { s with lvc := { s.lvc with jacks := (l.foldl (fun s j => s.modJack j f) s).lvc.jacks } } := by
  induction l generalizing s with
  | nil => rfl
  | cons j l ih => rw [List.foldl_cons, ih]; rfl

theorem modJacks_jack (s : State) {f : JackUnit → JackUnit} (again : ∀ x, f (f x) = f x) (l : List Jack) (k : Jack) :
    (l.foldl (fun s j => s.modJack j f) s).jack k = if k ∈ l then f (s.jack k) else s.jack k := by
  induction l generalizing s with
  | nil => simp
  | cons j l ih =>
    rw [List.foldl_cons, ih, State.modJack_jack]
    by_cases e : j = k
    · subst e
      by_cases mem : j ∈ l <;> simp [mem, again]
    · simp [e, Ne.symm e]

/-- The retract valves of a stow: those of the jacks whose switch is open (R82). -/
theorem stowValves_eq (s : State) (f : JackUnit → JackUnit) (l : List Jack) :
    l.foldl (fun s j => if s.shut (.jackUp j) then s else s.modJack j f) s
      = (l.filter (fun j => !s.shut (.jackUp j))).foldl (fun s j => s.modJack j f) s := by
  induction l generalizing s with
  | nil => rfl
  | cons j l ih =>
    rw [List.foldl_cons, ih]
    by_cases up : s.shut (.jackUp j) = true
    · rw [if_pos up, List.filter_cons_of_neg (by simp [up])]
    · rw [if_neg up, List.filter_cons_of_pos (by simp [up]), List.foldl_cons]
      rfl

/-- SETTLE begins for an operation that was just granted (R68). -/
theorem beginSettle_eq {st : Option Phase} (start : h.opAt sl = some { o with state := .running st, resumed := false }) :
    h.beginSettle sl = { h with
      opt := { h.opt with slots := h.opt.slots.set sl (some { o with state := .running (some .settle), resumed := false }) }
      lvc := { h.lvc.closeValves with
        timers := { JackTimers.stopped with settle := if h.lvc.pump = 0 then some (h.now + h.items.jack.settleTime * 1000) else none }
        groundDone := true, landing := none } } := by
  have phase : h.reportPhase sl .settle = h.setOp sl { o with state := .running (some .settle), resumed := false } := by
    simp only [State.reportPhase, start]
  rw [State.beginSettle, phase]
  by_cases off : h.lvc.pump = 0
  · simp [State.setOp, off]; rfl
  · simp [State.setOp, off]

/-- The valves of GROUND (R66). -/
def groundValve (x : JackUnit) : JackUnit := { x with goal := x.contact, extending := !x.contact, waiting := false }

/-- The part in GROUND, before its goal is judged (R66). -/
def State.grounding (s : State) (sl : Slot) (o : Op) : State :=
  s.items.jacks.foldl (fun s j => s.modJack j groundValve) { s with
    opt := { s.opt with slots := s.opt.slots.set sl (some { o with state := .running (some .ground), resumed := false }) }
    lvc := { s.lvc with
      groundDone := false
      timers := { JackTimers.stopped with ground := some (s.now + s.items.jack.groundTimeout * 1000) } } }

theorem grounding_frame (s : State) (sl : Slot) (o : Op) : s.grounding sl o = { s with
    opt := { s.opt with slots := s.opt.slots.set sl (some { o with state := .running (some .ground), resumed := false }) }
    lvc := { s.lvc with
      jacks := (s.grounding sl o).lvc.jacks, groundDone := false
      timers := { JackTimers.stopped with ground := some (s.now + s.items.jack.groundTimeout * 1000) } } } :=
  modJacks_frame _ _ _

theorem grounding_jack (s : State) (sl : Slot) (o : Op) (k : Jack) :
    (s.grounding sl o).jack k = if k ∈ s.items.jacks then groundValve (s.jack k) else s.jack k :=
  modJacks_jack _ (f := groundValve) (fun _ => rfl) _ k

theorem grounding_grounded (s : State) (sl : Slot) (o : Op) :
    (s.grounding sl o).allGrounded = true ↔ ∀ j ∈ s.items.jacks, (s.jack j).contact = true := by
  have items : (s.grounding sl o).items = s.items := by rw [grounding_frame]; rfl
  simp only [State.allGrounded, items, List.all_eq_true, grounding_jack]
  refine forall₂_congr fun j mem => ?_
  rw [if_pos mem]
  rfl

theorem beginGround_eq (start : h.opAt sl = some o.started) : h.beginGround sl
    = if (h.grounding sl o).allGrounded then (h.grounding sl o).beginSettle sl else h.grounding sl o := by
  have phase := started_reportPhase start .ground
  rw [State.beginGround, phase]
  rfl

/-- SETTLE of an operation granted in this event (R68). -/
theorem grants_settle (queue : u.sta.queue = sl :: behind) (fresh : sl ∉ behind) {st : Option Phase}
    (start : h.opAt sl = some { o with state := .running st, resumed := false })
    (opt : h.opt = { u.opt with slots := u.opt.slots.set sl (some { o with state := .running st, resumed := false }) })
    (frame : h = { u with opt := h.opt, sta := (u.grantRecord sl o).sta, lvc := h.lvc }) (pump : h.lvc.pump = u.lvc.pump)
    (levelled : h.lvc.levelled = false) :
    (h.beginSettle sl).lvc.levelled = false ∧ (h.beginSettle sl).lvc.pump = u.lvc.pump
    ∧ GrantRuns u (h.beginSettle sl) sl o .settle [.jacks]
    ∧ (h.beginSettle sl).lvc.timers = { JackTimers.stopped with
        settle := if u.lvc.pump = 0 then some (u.now + u.items.jack.settleTime * 1000) else none }
    ∧ ∀ j, ((h.beginSettle sl).jack j).extending = false ∧ ((h.beginSettle sl).jack j).retracting = false := by
  have now : h.now = u.now := by rw [frame]
  have items : h.items = u.items := by rw [frame]; rfl
  rw [beginSettle_eq start]
  refine ⟨levelled, pump, grantRuns_of queue fresh ?_ ?_ ?_, ?_, fun j => ?_⟩
  · rw [opt]
    simp [set_twice]
  · rw [frame]
  · rw [frame]
    exact keepsBut_of
  · rw [pump, now, items]
  · simp [State.jack, Lvc.closeValves]

/-- An open extend valve demands the full duty of the pump (R59). -/
theorem pumpDemand_extending {s : State} {j : Jack} (opens : (s.jack j).extending = true) : s.pumpDemand = 1000 :=
  if_pos (List.any_eq_true.2 ⟨s.jack j, List.get_mem _ _, opens⟩)

/-- GROUND of an operation granted in this event (R66). -/
theorem grants_ground (queue : u.sta.queue = sl :: behind) (fresh : sl ∉ behind) :
    let t := (u.grantRecord sl o).unlevelled.beginGround sl
    t.lvc.levelled = false ∧ t.lvc.pump = u.lvc.pump
    ∧ ((∃ j ∈ u.items.jacks, (u.jack j).contact = false) →
        GrantRuns u t sl o .ground [.jacks] ∧ t.pumpDemand = 1000 ∧ t.lvc.groundDone = false
        ∧ t.lvc.timers = { JackTimers.stopped with ground := some (u.now + u.items.jack.groundTimeout * 1000) }
        ∧ ∀ j ∈ u.items.jacks, (t.jack j).goal = (u.jack j).contact ∧ (t.jack j).extending = !(u.jack j).contact)
    ∧ ((∀ j ∈ u.items.jacks, (u.jack j).contact = true) →
        GrantRuns u t sl o .settle [.jacks]
        ∧ t.lvc.timers = { JackTimers.stopped with
            settle := if u.lvc.pump = 0 then some (u.now + u.items.jack.settleTime * 1000) else none }
        ∧ ∀ j, (t.jack j).extending = false ∧ (t.jack j).retracting = false) := by
  intro t
  have begun : t = _ := beginGround_eq (h := (u.grantRecord sl o).unlevelled) (grantRecord_self u sl o)
  have frame := grounding_frame (u.grantRecord sl o).unlevelled sl o
  have jack : ∀ k, ((u.grantRecord sl o).unlevelled.grounding sl o).jack k
      = if k ∈ u.items.jacks then groundValve (u.jack k) else u.jack k := grounding_jack (u.grantRecord sl o).unlevelled sl o
  have grounded : ((u.grantRecord sl o).unlevelled.grounding sl o).allGrounded = true ↔ ∀ j ∈ u.items.jacks, (u.jack j).contact = true :=
    grounding_grounded (u.grantRecord sl o).unlevelled sl o
  generalize (u.grantRecord sl o).unlevelled.grounding sl o = w at begun frame jack grounded
  have opt : w.opt = { u.opt with slots := u.opt.slots.set sl (some { o with state := .running (some .ground), resumed := false }) } := by
    rw [frame]
    simp [State.unlevelled, grantRecord_opt, set_twice]
  have still : w = { u with opt := w.opt, sta := (u.grantRecord sl o).sta, lvc := w.lvc } := by
    rw [frame]; rfl
  have pump : w.lvc.pump = u.lvc.pump := by rw [frame]; rfl
  have levelled : w.lvc.levelled = false := by rw [frame]; rfl
  by_cases contact : ∀ j ∈ u.items.jacks, (u.jack j).contact = true
  · rw [if_pos (grounded.2 contact)] at begun
    have start : w.opAt sl = some { o with state := .running (some .ground), resumed := false } :=
      ((wrote_setOp u sl _).of_opt opt).self
    obtain ⟨off, same, settled⟩ := grants_settle queue fresh start opt still pump levelled
    rw [← begun] at off same settled
    refine ⟨off, same, fun ⟨j, mem, lost⟩ => ?_, fun _ => settled⟩
    rw [contact j mem] at lost
    cases lost
  · rw [if_neg (mt grounded.1 contact)] at begun
    rw [begun]
    refine ⟨levelled, pump, fun ⟨j, mem, lost⟩ => ⟨grantRuns_of queue fresh opt ?_ ?_, ?_, ?_, ?_, fun k hk => ?_⟩,
      fun all => absurd all contact⟩
    · rw [frame]; rfl
    · rw [still]
      exact keepsBut_of
    · have opens : (w.jack j).extending = true := by
        rw [jack j, if_pos mem]
        show (!(u.jack j).contact) = true
        rw [lost]; rfl
      exact pumpDemand_extending opens
    · rw [frame]
    · rw [frame]; rfl
    · rw [jack k, if_pos hk]
      exact ⟨rfl, rfl⟩

/-- The valve of a jack that a stow retracts (R82). -/
def stowValve (x : JackUnit) : JackUnit := { x with retracting := true }

/-- The stow timer starts; a stow with every jack up is over (R82). -/
def stowTimed (s : State) (sl : Slot) : State :=
  let t : State := { s with lvc := { s.lvc with timers := { JackTimers.stopped with
    stow := some (s.now + s.items.jack.stowTimeout * 1000) } } }
  if t.allJacksUp then t.windDownJacks sl .complete else t

/-- Winding down keeps the pump's duty, and LEVELLED but for a LEVEL that is COMPLETE (R60, R62). -/
theorem windDownJacks_kept {s : State} {p : Op} {ph : Option Phase} (hp : s.opAt sl = some p) (running : p.state = .running ph)
    (jacks : p.job.group = .jacks) (kind : p.job.kind ≠ .level) (r : Result) :
    (s.windDownJacks sl r).lvc.levelled = s.lvc.levelled ∧ (s.windDownJacks sl r).lvc.pump = s.lvc.pump := by
  unfold State.windDownJacks
  dsimp only
  split
  · have lvc := reportJacks_lvc (s := { s with lvc := { s.lvc.standDown with pend := some r } }) (r := r) hp running jacks
    rw [lvc]
    simp [kind, Lvc.standDown, Lvc.closeValves]
  · exact ⟨rfl, rfl⟩

/-- JACKS_STOW granted (R82). -/
theorem grants_stow (queue : u.sta.queue = sl :: behind) (fresh : sl ∉ behind) (group : o.job.group = .jacks)
    (kind : o.job.kind = .jacksStow) :
    let t := (u.grantRecord sl o).unlevelled.startStow sl
    t.lvc.levelled = false ∧ t.lvc.pump = u.lvc.pump
    ∧ ((∃ j ∈ u.items.jacks, u.shut (.jackUp j) = false) → GrantRuns u t sl o .move [.jacks]
    ∧ t.lvc.timers = { JackTimers.stopped with stow := some (u.now + u.items.jack.stowTimeout * 1000) }
    ∧ ∀ j, ((t.jack j).retracting = true ↔ (u.jack j).retracting = true ∨ j ∈ u.items.jacks ∧ u.shut (.jackUp j) = false)) := by
  intro t
  let h := (u.grantRecord sl o).unlevelled.setOp sl { o with state := .running (some .move), resumed := false }
  let down := u.items.jacks.filter (fun j => !u.shut (.jackUp j))
  let w := down.foldl (fun s j => s.modJack j stowValve) h
  have frame : w = { h with lvc := { h.lvc with jacks := w.lvc.jacks } } := modJacks_frame h stowValve down
  have jack : ∀ k, w.jack k = if k ∈ down then stowValve (u.jack k) else u.jack k :=
    modJacks_jack h (f := stowValve) (fun _ => rfl) down
  let v : State := { w with lvc := { w.lvc with timers := { JackTimers.stopped with
    stow := some (w.now + w.items.jack.stowTimeout * 1000) } } }
  have levelled : v.lvc.levelled = false := by show w.lvc.levelled = _; rw [frame]; rfl
  have pump : v.lvc.pump = u.lvc.pump := by show w.lvc.pump = _; rw [frame]; rfl
  have opt : v.opt = { u.opt with slots := u.opt.slots.set sl (some { o with state := .running (some .move), resumed := false }) } := by
    show w.opt = _; rw [frame]; simp [h, State.setOp, State.unlevelled, grantRecord_opt, set_twice]
  have begun : t = if v.allJacksUp then v.windDownJacks sl .complete else v := by
    have phase := started_reportPhase (h := (u.grantRecord sl o).unlevelled) (grantRecord_self u sl o) .move
    have valves : h.items.jacks.foldl (fun s j => if s.shut (.jackUp j) then s else s.modJack j stowValve) h = w :=
      stowValves_eq h stowValve h.items.jacks
    show State.startStow _ sl = _
    rw [State.startStow, phase]
    exact congrArg (fun x : State => stowTimed x sl) valves
  have kept : t.lvc.levelled = false ∧ t.lvc.pump = u.lvc.pump := by
    rw [begun]
    split
    · obtain ⟨same, duty⟩ := windDownJacks_kept (((wrote_setOp u sl _).of_opt opt).self) rfl group (by simp [kind]) .complete
      exact ⟨same.trans levelled, duty.trans pump⟩
    · exact ⟨levelled, pump⟩
  refine ⟨kept.1, kept.2, fun some_down => ?_⟩
  have lowered : v.allJacksUp = false := by
    obtain ⟨j, mem, lost⟩ := some_down
    rw [State.allJacksUp, List.all_eq_false]
    have items : v.items = u.items := by show w.items = _; rw [frame]; rfl
    have shut : v.shut (.jackUp j) = u.shut (.jackUp j) := by show w.shut _ = _; rw [frame]; rfl
    exact ⟨j, by rw [items]; exact mem, by rw [shut, lost]; simp⟩
  rw [begun, if_neg (by simp [lowered])]
  refine ⟨grantRuns_of queue fresh opt ?_ ?_, ?_, fun j => ?_⟩
  · show w.sta = _; rw [frame]; rfl
  · have whole : v = { u with opt := v.opt, sta := v.sta, lvc := v.lvc } := by
      have parts : ∀ l, ({ w with lvc := l } : State) = { u with opt := w.opt, sta := w.sta, lvc := l } := fun l => by
        rw [frame]; rfl
      exact parts v.lvc
    rw [whole]
    exact keepsBut_of
  · show ({ JackTimers.stopped with stow := some (w.now + w.items.jack.stowTimeout * 1000) } : JackTimers) = _
    rw [frame]; rfl
  · show (w.jack j).retracting = true ↔ _
    have mem : j ∈ down ↔ j ∈ u.items.jacks ∧ u.shut (.jackUp j) = false := by simp [down]
    rw [jack, ← mem]
    by_cases taken : j ∈ down
    · simp [taken, stowValve]
    · simp [taken]

/-- The valve of a jog (R85, R86). -/
def jogValve (j : Job) (x : JackUnit) : JackUnit :=
  if j.dir == some Dir.outward then { x with extending := true } else { x with retracting := true }

/-- The jog timer starts (R85). -/
def jogTimed (s : State) (j : Job) : State :=
  { s with lvc := { s.lvc with timers := { JackTimers.stopped with jog := some (s.now + j.value.getD 0) } } }

/-- JACK_JOG granted (R85, R86). -/
theorem grants_jog (queue : u.sta.queue = sl :: behind) (fresh : sl ∉ behind) :
    let t := (u.grantRecord sl o).unlevelled.startJackJog sl o.job
    t.lvc.levelled = false ∧ t.lvc.pump = u.lvc.pump
    ∧ ∀ j, o.job.sub = some j →
      GrantRuns u t sl o .move [.jacks]
      ∧ t.lvc.timers = { JackTimers.stopped with jog := some (u.now + o.job.value.getD 0) }
      ∧ (o.job.dir = some .outward → (t.jack j).extending = true ∧ (t.jack j).retracting = (u.jack j).retracting)
      ∧ (o.job.dir ≠ some .outward → (t.jack j).retracting = true ∧ (t.jack j).extending = (u.jack j).extending)
      ∧ ∀ k, k ≠ j → t.jack k = u.jack k := by
  intro t
  have phase := started_reportPhase (h := (u.grantRecord sl o).unlevelled) (grantRecord_self u sl o) .move
  let h := (u.grantRecord sl o).unlevelled.setOp sl { o with state := .running (some .move), resumed := false }
  have leaves : t = jogTimed (match o.job.sub with
      | some k => h.modJack k (jogValve o.job)
      | none => h) o.job := by
    show State.startJackJog _ sl o.job = _
    rw [State.startJackJog, phase]
    cases o.job.sub <;> rfl
  rw [leaves]
  refine ⟨by cases o.job.sub <;> rfl, by cases o.job.sub <;> rfl, fun j sub => ?_⟩
  simp only [sub]
  have jack : ∀ k, (jogTimed (h.modJack j (jogValve o.job)) o.job).jack k
      = if j = k then jogValve o.job (u.jack k) else u.jack k := fun k => State.modJack_jack h j k _
  refine ⟨grantRuns_of queue fresh ?_ rfl keepsBut_of, rfl, fun outward => ?_, fun inward => ?_, fun k hk => ?_⟩
  · simp [jogTimed, h, State.modJack, State.setOp, State.unlevelled, grantRecord_opt, set_twice]
  · rw [jack, if_pos rfl]
    simp [jogValve, outward]
  · rw [jack, if_pos rfl]
    simp [jogValve, inward]
  · rw [jack, if_neg (Ne.symm hk)]

theorem grants_jacks (queue : u.sta.queue = sl :: behind) (fresh : sl ∉ behind) (group : o.job.group = .jacks) :
    u.GrantsJacks ((u.grantRecord sl o).startJacks sl o o.resumed) sl o := by
  obtain ⟨bars, rests, runs⟩ := startJacks_cases (u.grantRecord sl o) sl o
  have start : (u.grantRecord sl o).unlevelled.opAt sl = some o.started := grantRecord_self u sl o
  have fine : ∀ r, slideFault o r = false := fun r => slideFault_other (by rw [group]; rfl)
  have ends : ∀ r, (o.job.kind = .level → r ≠ .complete) →
      ((u.grantRecord sl o).unlevelled.reportEnd sl r).lvc.levelled = false
      ∧ ((u.grantRecord sl o).unlevelled.reportEnd sl r).lvc.pump = u.lvc.pump
      ∧ GrantEnds u ((u.grantRecord sl o).unlevelled.reportEnd sl r) sl o r := fun r level => by
    rw [started_reportEnd start r (fine r)]
    have ended := grantEnds_of (h := (u.grantRecord sl o).unlevelled) queue fresh rfl rfl rfl rfl rfl rfl r
      ((u.grantRecord sl o).unlevelled.remainingOf o.started)
    refine ⟨?_, ended.pump, ended⟩
    obtain ⟨c, hc⟩ := writeEnd_eq start r ((u.grantRecord sl o).unlevelled.remainingOf o.started)
    rw [hc]
    by_cases k : o.job.kind = .level
    · simp [State.unlevelled, Op.started, level k]
    · simp [State.unlevelled, Op.started, k]
  by_cases barred : (o.job.kind = .jacksStow ∨ o.job.kind = .jackJog ∧ o.job.dir = some .inward)
      ∧ ¬ (o.job.origin = .service ∧ o.job.override = true) ∧ ∃ n ∈ u.items.rooms, u.roomCondition n ≠ .inside
  · rw [bars barred]
    obtain ⟨off, pump, ended⟩ := ends (.cancelled .interlock) fun _ => by simp
    exact ⟨off, pump, fun _ => ended, fun free => absurd barred free, fun free => absurd barred free⟩
  · by_cases idle : o.resumed = true ∧ u.jacksIdleJob o.job = true
    · rw [rests barred idle]
      obtain ⟨off, pump, ended⟩ := ends .complete fun level => by
        have := idle.2
        simp [State.jacksIdleJob, level] at this
      exact ⟨off, pump, fun bar => absurd bar barred, fun _ _ => ended, fun _ moves => absurd idle moves⟩
    · rw [runs barred idle]
      have groundDone : (u.grantRecord sl o).unlevelled.lvc.groundDone = u.lvc.groundDone := rfl
      obtain ⟨groundOff, groundPump, grounds, contacts⟩ := grants_ground (o := o) queue fresh
      by_cases settles : o.job.kind = .level ∧ o.resumed = true ∧ u.lvc.groundDone = true
      · obtain ⟨kind, again, done⟩ := settles
        have run : (u.grantRecord sl o).unlevelled.runJacks sl o = (u.grantRecord sl o).unlevelled.beginSettle sl := by
          simp only [State.runJacks, kind, again, groundDone, done, Bool.and_self, if_true]
        obtain ⟨off, pump, settled⟩ := grants_settle queue fresh start rfl rfl rfl rfl
        rw [run]
        refine ⟨off, pump, fun bar => absurd bar barred, fun _ rest => absurd rest idle, fun _ _ => ⟨fun _ => settled, ?_, ?_, ?_⟩⟩
        · rintro (ground | ⟨-, other⟩)
          · rw [kind] at ground; cases ground
          · exact absurd ⟨kind, again, done⟩ other
        · intro stow; rw [kind] at stow; cases stow
        · intro j jog; rw [kind] at jog; cases jog
      · by_cases ground : o.job.kind = .ground ∨ o.job.kind = .level
        · have run : (u.grantRecord sl o).unlevelled.runJacks sl o = (u.grantRecord sl o).unlevelled.beginGround sl := by
            rcases ground with kind | kind
            · simp only [State.runJacks, kind]
            · simp only [State.runJacks, kind, groundDone]
              exact if_neg fun both => settles ⟨kind, Bool.and_eq_true_iff.1 both⟩
          rw [run]
          refine ⟨groundOff, groundPump, fun bar => absurd bar barred, fun _ rest => absurd rest idle,
            fun _ _ => ⟨fun again => absurd again settles, fun _ => ⟨grounds, contacts⟩, ?_, ?_⟩⟩
          · intro stow; rw [stow] at ground; rcases ground with k | k <;> cases k
          · intro j jog; rw [jog] at ground; rcases ground with k | k <;> cases k
        · by_cases stow : o.job.kind = .jacksStow
          · have run : (u.grantRecord sl o).unlevelled.runJacks sl o = (u.grantRecord sl o).unlevelled.startStow sl := by
              simp only [State.runJacks, stow]
            obtain ⟨off, pump, lowers⟩ := grants_stow queue fresh group stow
            rw [run]
            refine ⟨off, pump, fun bar => absurd bar barred, fun _ rest => absurd rest idle,
              fun _ _ => ⟨fun again => absurd again settles, fun g => absurd (g.imp id And.left) ground, fun _ => lowers, ?_⟩⟩
            intro j jog; rw [stow] at jog; cases jog
          · have run : (u.grantRecord sl o).unlevelled.runJacks sl o = (u.grantRecord sl o).unlevelled.startJackJog sl o.job := by
              unfold State.runJacks
              split
              · next k => exact absurd (.inr k) ground
              · next k => exact absurd (.inl k) ground
              · next k => exact absurd k stow
              · rfl
            obtain ⟨off, pump, jogs⟩ := grants_jog (o := o) queue fresh
            rw [run]
            exact ⟨off, pump, fun bar => absurd bar barred, fun _ rest => absurd rest idle,
              fun _ _ => ⟨fun again => absurd again settles, fun g => absurd (g.imp id And.left) ground, fun k => absurd k stow,
                fun j _ => jogs j⟩⟩

end

end Sys2Proof.Machine
end

section
namespace Sys2Proof.Machine

-- One declaration at a time, so that the memory the check takes stays small.
set_option Elab.async false

/-! ### A grant as a whole (R32, R160) -/

theorem Act.items {s t : State} (a : Act s t) : t.items = s.items := by
  cases a with
  | quiet q => exact q.items
  | rewrite => rfl
  | finish r rem ho _ =>
    obtain ⟨c, hc⟩ := writeEnd_eq ho r rem
    rw [hc]; rfl
  | suspend h ho _ =>
    obtain ⟨c, hc⟩ := moveHeld_eq ho h
    rw [hc]; rfl
  | grant => rfl
  | clear => rw [clearSlot_frame]; rfl
  | monitor => rfl
  | unclaim => rfl

theorem Acts.items {s t : State} (a : Acts s t) : t.items = s.items := by
  induction a with
  | refl => rfl
  | tail _ last ih => exact last.items.trans ih

/-- Every clearance entry is disabled. -/
def State.entriesOff (s : State) : Prop := ∀ k, (s.entryItem k).enabled = false

theorem entriesOff_of_items {s t : State} (h : s.entriesOff) (items : t.items = s.items) : t.entriesOff := fun k => by
  rw [State.entryItem, items]; exact h k

theorem entriesOff_entries {s : State} (h : s.entriesOff) (g : Group) : s.entriesOf g = [] := by
  simp [State.entriesOf, h _]

theorem judgeStanding_off {s : State} (h : s.entriesOff) (g : Group) : s.judgeStanding g (s.protecting g) = s :=
  judgeStanding_quiet g _ (.inl (by rw [State.protecting, entriesOff_entries h]; rfl))

theorem startOp_off {s : State} (h : s.entriesOff) (sl : Slot) (o : Op) : (s.startOp sl o).entriesOff :=
  entriesOff_of_items h (acts_startOp s sl o).items

/-- A grant in a part with every clearance entry disabled (R160). -/
theorem grant_off {u : State} (h : u.entriesOff) (sl : Slot) (o : Op) : u.grant sl o = (u.grantRecord sl o).startOp sl o :=
  judgeStanding_off (startOp_off (s := u.grantRecord sl o) h sl o) _

theorem startOp_leaves {u : State} {sl : Slot} {behind : List Slot} {o : Op} (queue : u.sta.queue = sl :: behind)
    (fresh : sl ∉ behind) : u.GrantLeaves ((u.grantRecord sl o).startOp sl o) sl o := by
  unfold State.GrantLeaves State.startOp
  cases group : o.job.group with
  | jacks => exact grants_jacks queue fresh group
  | room n => exact grants_room queue fresh
  | awning => exact grants_awning queue fresh group

/-! ### What the end of the event makes of it -/

/-- Two states that agree in what a grant speaks of: the table, the Arbiter, the jacks, the rooms and the awning, and every
other block but for what the end of an event follows up. -/
structure Alike (t v : State) : Prop where
  opt : v.opt = t.opt
  sta : v.sta = t.sta
  lvc : v.lvc = t.lvc
  sdc : v.sdc = t.sdc
  awu : v.awu = t.awu
  keeps : t.keepsBut v []

theorem jack_congr {s t : State} (h : t.lvc = s.lvc) (j : Jack) : t.jack j = s.jack j := by rw [State.jack, State.jack, h]

theorem pumpDemand_congr {s t : State} (h : t.lvc = s.lvc) : t.pumpDemand = s.pumpDemand := by
  rw [State.pumpDemand, State.pumpDemand, h]

section

variable {u t v : State} {e : Bank ClearUnit 8} {sl : Slot} {o : Op}

/-- The clearance flags of the examined part may have been derived afresh before the grant (R157). -/
theorem GrantRuns.after {ph : Phase} {held : List Block} (h : GrantRuns (u.withEntries e) t sl o ph held) (f : Flagged u e)
    (a : Alike t v) : GrantRuns u v sl o ph held := by
  refine ⟨(opAt_of_opt a.opt sl).trans h.record, fun k hk => (opAt_of_opt a.opt k).trans (h.others k hk), a.sta.trans h.arbiter, ?_⟩
  have flags : u.keepsBut (u.withEntries e) ([.table, .arbiter] ++ held) :=
    keepsBut_mono (keepsBut_of (l := []) (clearance := fun _ => f.judged)) (List.nil_subset _)
  exact keepsBut_trans flags (keepsBut_trans h.rest (keepsBut_mono a.keeps (List.nil_subset _)))

theorem GrantEnds.after {r : Result} (h : GrantEnds (u.withEntries e) t sl o r) (a : Alike t v) : GrantEnds u v sl o r := by
  refine ⟨by rw [opAt_of_opt a.opt]; exact h.record, fun k hk => (opAt_of_opt a.opt k).trans (h.others k hk),
    by rw [a.opt]; exact h.ends, a.sta.trans h.arbiter, fun n m => by rw [roomUnit_congr a.sdc]; exact h.motors n m,
    by rw [a.awu]; exact h.awning, by rw [a.lvc]; exact h.pump, fun j => by rw [jack_congr a.lvc]; exact h.valves j⟩

theorem State.GrantsAwning.after (h : (u.withEntries e).GrantsAwning t sl o) (f : Flagged u e) (a : Alike t v) :
    u.GrantsAwning v sl o := by
  obtain ⟨rests, barred, runs⟩ := h
  refine ⟨fun idle => (rests idle).after a, fun moves outward windy => (barred moves outward windy).after a, fun moves free => ?_⟩
  obtain ⟨granted, unit⟩ := runs moves free
  exact ⟨granted.after f a, a.awu.trans unit⟩

theorem State.GrantsRoom.after {n : Room} (h : (u.withEntries e).GrantsRoom t n sl o) (f : Flagged u e) (a : Alike t v) :
    u.GrantsRoom v n sl o := by
  obtain ⟨rests, together, inward, outward⟩ := h
  have moves : ∀ {ph : Phase} {r : RoomUnit},
      GrantRuns (u.withEntries e) t sl o ph [.rooms] ∧ (∀ k, k ≠ n → t.roomUnit k = u.roomUnit k) ∧ t.roomUnit n = r →
      GrantRuns u v sl o ph [.rooms] ∧ (∀ k, k ≠ n → v.roomUnit k = u.roomUnit k) ∧ v.roomUnit n = r := fun ⟨granted, others, unit⟩ =>
    ⟨granted.after f a, fun k hk => (roomUnit_congr a.sdc k).trans (others k hk), (roomUnit_congr a.sdc n).trans unit⟩
  exact ⟨fun idle => (rests idle).after a,
    fun move step => ⟨fun two => moves ((together move step).1 two), fun one => moves ((together move step).2 one)⟩,
    fun move apart dir => ⟨fun further => moves ((inward move apart dir).1 further), fun further => moves ((inward move apart dir).2 further)⟩,
    fun move apart dir action => (outward move apart dir action).after a⟩

theorem State.GrantsJacks.after (h : (u.withEntries e).GrantsJacks t sl o) (f : Flagged u e) (a : Alike t v) :
    u.GrantsJacks v sl o := by
  obtain ⟨off, pump, bars, rests, runs⟩ := h
  have settled : ∀ {x : JackTimers}, GrantRuns (u.withEntries e) t sl o .settle [.jacks] ∧ t.lvc.timers = x
      ∧ (∀ j, (t.jack j).extending = false ∧ (t.jack j).retracting = false) →
      GrantRuns u v sl o .settle [.jacks] ∧ v.lvc.timers = x
      ∧ ∀ j, (v.jack j).extending = false ∧ (v.jack j).retracting = false := fun ⟨granted, timers, closed⟩ =>
    ⟨granted.after f a, by rw [a.lvc]; exact timers, fun j => by rw [jack_congr a.lvc]; exact closed j⟩
  refine ⟨by rw [a.lvc]; exact off, by rw [a.lvc]; exact pump, fun bar => (bars bar).after a,
    fun free rest => (rests free rest).after a, fun free moves => ?_⟩
  obtain ⟨settles, grounds, stows, jogs⟩ := runs free moves
  refine ⟨fun again => settled (settles again), fun kind => ?_, fun kind down => ?_, fun j kind sub => ?_⟩
  · obtain ⟨lost, contacts⟩ := grounds kind
    refine ⟨fun some_lost => ?_, fun all => settled (contacts all)⟩
    obtain ⟨granted, demand, done, timers, valves⟩ := lost some_lost
    exact ⟨granted.after f a, (pumpDemand_congr a.lvc).trans demand, by rw [a.lvc]; exact done, by rw [a.lvc]; exact timers,
      fun j mem => by rw [jack_congr a.lvc]; exact valves j mem⟩
  · obtain ⟨granted, timers, valves⟩ := stows kind down
    exact ⟨granted.after f a, by rw [a.lvc]; exact timers, fun j => by rw [jack_congr a.lvc]; exact valves j⟩
  · obtain ⟨granted, timers, outward, inward, others⟩ := jogs j kind sub
    exact ⟨granted.after f a, by rw [a.lvc]; exact timers, fun d => by rw [jack_congr a.lvc]; exact outward d,
      fun d => by rw [jack_congr a.lvc]; exact inward d, fun k hk => (jack_congr a.lvc k).trans (others k hk)⟩

theorem State.GrantLeaves.after (h : (u.withEntries e).GrantLeaves t sl o) (f : Flagged u e) (a : Alike t v) :
    u.GrantLeaves v sl o := by
  unfold State.GrantLeaves at h ⊢
  cases group : o.job.group with
  | jacks => rw [group] at h; exact State.GrantsJacks.after h f a
  | room n => rw [group] at h; exact State.GrantsRoom.after h f a
  | awning => rw [group] at h; exact State.GrantsAwning.after h f a

end

/-! ### The end of an event with one grant -/

/-- No clearance entry can call for an order: every entry is disabled, or no operation outside JACKS is judged (R160). -/
def State.unjudged (s : State) : Prop := s.entriesOff ∨ ∀ g, g ≠ .jacks → s.judged g = false

theorem deriveClearance_unjudged {s : State} (h : s.unjudged) : s.deriveClearance = if s.inm.notReady then s else s.flagged := by
  unfold State.deriveClearance
  split
  · rfl
  · refine foldl_same _ _ _ fun g _ => ?_
    rcases h with off | quiet
    · exact judgeStanding_quiet g _ (.inl (by simp [activeNow_disabled, off _]))
    · by_cases jacks : g = .jacks
      · exact judgeStanding_quiet g _ (.inr (.inl jacks))
      · have unjudged : s.flagged.judged g = false := by rw [flagged_frame]; exact quiet g jacks
        exact sendOrder_unjudged _ _ _ unjudged

theorem derive_unjudged {s : State} (h : s.unjudged) : ∃ e, s.deriveClearance = s.withEntries e ∧ Flagged s e := by
  rw [deriveClearance_unjudged h]
  by_cases early : s.inm.notReady = true
  · exact ⟨s.clm.entries, by rw [if_pos early]; rfl, fun k => ⟨rfl, rfl⟩, fun ready => by rw [early] at ready; cases ready⟩
  · refine ⟨s.flagged.clm.entries, by rw [if_neg early]; exact flagged_frame s, fun k => ?_, fun _ k => ?_⟩
    · have unit := flagged_entryUnit s k
      unfold State.entryUnit at unit
      rw [unit]; exact ⟨rfl, rfl⟩
    · have unit := flagged_entryUnit s k
      unfold State.entryUnit at unit
      rw [unit]; exact ⟨rfl, rfl⟩

/-- The end of an event, by what the examination of the queue leaves of a state with its flags derived. -/
theorem settle_examines {s : State} (h : s.Undisturbed) :
    ∃ e, Flagged s e ∧ ((s.withEntries e).examineQueue.unjudged → Follows (s.withEntries e).examineQueue s.settle) := by
  obtain ⟨e, derived, flagged⟩ := derive_flagged h
  refine ⟨e, flagged, fun quiet => ?_⟩
  obtain ⟨e2, again, flags⟩ := derive_unjudged quiet
  obtain ⟨timer, refreshed⟩ := tail_refreshed (s.withEntries e).examineQueue e2
  have ends : s.settle = ((s.withEntries e).examineQueue.refreshed e2 timer).sync := by
    rw [State.settle, watchRetract_undisturbed h, derived, again, refreshed]
  have notices : NoticesFollow (s.withEntries e).examineQueue ((s.withEntries e).examineQueue.refreshed e2 timer).sync :=
    notices_of_ntu (w := (s.withEntries e).examineQueue.refreshed e2 timer) rfl (notices_sync _)
  rw [ends]
  rw [sync_frame] at notices ⊢
  exact ⟨⟨rfl, rfl, rfl⟩, rfl, rfl, rfl, rfl, rfl, rfl, rfl, rfl, rfl, rfl, rfl, rfl, rfl, flags.judged, flags.flags, notices⟩

theorem Follows.alike {t v : State} (f : Follows t v) : Alike t v := ⟨f.table, f.arbiter, f.jacks, f.rooms, f.awning, f.keeps⟩

end Sys2Proof.Machine
end

section
namespace Sys2Proof.Machine

-- One declaration at a time, so that the memory the check takes stays small.
set_option Elab.async false

/-! ### The examination of a queue of one (R30) -/

section

variable {s : State} {sl : Slot} {o : Op}

theorem examineQueue_granted (queue : s.sta.queue = [sl]) (ho : s.opAt sl = some o) (admitted : o.state.isAdmitted = true)
    (passes : s.blockedBy o = none) : s.examineQueue = s.grant sl o := by
  unfold State.examineQueue
  simp [State.examine, queue, ho, admitted, passes]

/-- An operation alone in the queue that passes the four tests is granted at the end of the event (R30, R32). -/
theorem settle_grants (undisturbed : s.Undisturbed) (off : s.entriesOff) (queue : s.sta.queue = [sl]) (ho : s.opAt sl = some o)
    (admitted : o.state.isAdmitted = true) (passes : s.blockedBy o = none) : s.GrantLeaves s.settle sl o := by
  obtain ⟨e, flagged, ends⟩ := settle_examines undisturbed
  have granted : (s.withEntries e).examineQueue = ((s.withEntries e).grantRecord sl o).startOp sl o := by
    rw [examineQueue_granted (s := s.withEntries e) queue ho admitted passes]
    exact grant_off (u := s.withEntries e) off sl o
  have quiet : (((s.withEntries e).grantRecord sl o).startOp sl o).entriesOff :=
    startOp_off (s := (s.withEntries e).grantRecord sl o) off sl o
  rw [granted] at ends
  exact State.GrantLeaves.after (startOp_leaves (u := s.withEntries e) queue (by simp)) flagged (ends (.inl quiet)).alike

end

/-- A record that waits does not run. -/
theorem undisturbed_waiting {s t : State} {sl : Slot} {o : Op} (h : s.Undisturbed) (hw : Wrote s t sl o) (hi : t.ist = s.ist)
    (hn : t.inm.inputs = s.inm.inputs) (still : o.state.isRunning = false) : t.Undisturbed :=
  undisturbed_of h hi hn fun k p hp hr => by
    by_cases e : sl = k
    · subst e
      rw [hw.self] at hp
      cases hp
      rw [still] at hr
      cases hr
    · rw [hw.other e] at hp
      exact ⟨k, p, hp, hr, rfl⟩

/-- The state of an admission that needs motion, before the queue is examined (R5, R6, R13, R29). -/
def State.joined (s : State) (sl : Slot) (tag : Nat) (j : Job) (queue : List Slot) : State :=
  { s with
    opt := { s.opt with
      slots := s.opt.slots.set sl (some (s.newRecord tag j)), admissions := s.opt.admissions + 1
      endedList := s.opt.endedList.filter (fun x => !(s.opAt sl).any (fun p => p.tag == x)) }
    sta := { s.sta with queue := queue }
    awu := if j.kind = .awningSet then { s.awu with setDir := some (s.setDirNow j), target := s.setTarget j } else s.awu
    lvc := if j.kind = .level then { s.lvc with groundDone := false } else s.lvc }

theorem wrote_joined (s : State) (sl : Slot) (tag : Nat) (j : Job) (queue : List Slot) :
    Wrote s (s.joined sl tag j queue) sl (s.newRecord tag j) := fun k => by
  simp [State.joined, State.opAt, Bank.get_set]

theorem placed_awu (s : State) (sl : Slot) (tag : Nat) (j : Job) : (s.placed sl tag j).awu
    = if j.kind = .awningSet then { s.awu with setDir := some (s.setDirNow j), target := s.setTarget j } else s.awu := by
  have frame := clearSlot_frame s sl
  unfold State.placed State.fixAwning State.placeRecord
  rw [frame]
  by_cases kind : j.kind = .awningSet
  · simp [kind, State.modAwning, State.setOp, State.setDirNow, State.setTarget, State.items]; rfl
  · simp [kind, State.setOp]

/-- The place of a record among the waiting ones (R29). -/
def State.queueWith (s : State) (sl : Slot) (c : OpClass) : List Slot := (s.enqueue sl c).sta.queue

theorem admitJob_joins {s : State} {tag : Nat} {j : Job} {sl : Slot} (place : s.placeSlot = some sl) (moves : s.idleJob j = false) :
    s.admitJob tag j = s.joined sl tag j ((s.placed sl tag j).queueWith sl j.kind.opClass) := by
  rw [admitJob_eq tag j place, if_neg (by simp [moves])]
  have frame := placed_eq s sl tag j
  rw [placed_opt, placed_awu] at frame
  generalize s.placed sl tag j = p at frame
  subst frame
  by_cases kind : j.kind = .level
  · rw [if_pos (by simp [kind])]
    simp only [State.joined, if_pos kind, State.queueWith]
    cases j.kind.opClass <;> rfl
  · rw [if_neg (by simp [kind])]
    simp only [State.joined, if_neg kind, State.queueWith]
    cases j.kind.opClass <;> rfl

end Sys2Proof.Machine
end

section
namespace Sys2Proof.Machine

-- One declaration at a time, so that the memory the check takes stays small.
set_option Elab.async false

/-! ### A SUBMIT that joins the queue (R13, R29, R30) -/

theorem submitted_normal {b : Byte} {k : OpKind} (h : OpKind.submitted b = some k) : k.opClass = .normal := by
  have mem := List.mem_of_find?_eq_some h
  rw [opClass_normal]
  rintro rfl
  simp at mem

theorem readJob_normal {s : State} {l : Link} {q : Submit} {j : Job} (h : s.readJob l q = .ok j) : j.kind.opClass = .normal := by
  unfold State.readJob at h
  split at h
  · cases h
  · next k known =>
    split at h
    · cases h
    · split at h
      · cases h
      · split at h
        · cases h
        · cases h
        · cases h
        · split at h
          · cases h
          · split at h
            · cases h
            · cases h
              exact submitted_normal known

/-- A queue that waits still waits with a record behind it that waits with QUEUE (R30). -/
theorem headWaits_behind {s t : State} {sl : Slot} {p : Op} (waits : s.headWaits) (fresh : sl ∉ s.sta.queue) (some_wait : s.sta.queue ≠ [])
    (wrote : Wrote s t sl p) (waiting : p.state = .admitted .queue) (tests : SameTests s t) (queue : t.sta.queue = s.sta.queue ++ [sl]) :
    t.headWaits := by
  intro head behind split
  obtain ⟨first, rest, parts⟩ := List.exists_cons_of_ne_nil some_wait
  have same : head :: behind = first :: (rest ++ [sl]) := split.symm.trans (by rw [queue, parts]; rfl)
  obtain ⟨rfl, rfl⟩ := List.cons.inj same
  obtain ⟨⟨o, w, ho, hs, blocked⟩, others⟩ := waits head rest parts
  refine ⟨⟨o, w, (wrote.other ?_).trans ho, hs, (blockedBy_congr tests rfl rfl).trans blocked⟩, fun k hk => ?_⟩
  · rintro rfl; exact fresh (by rw [parts]; exact List.mem_cons_self)
  · rcases List.mem_append.1 hk with old | new
    · obtain ⟨q, hq, hqs⟩ := others k old
      refine ⟨q, (wrote.other ?_).trans hq, hqs⟩
      rintro rfl; exact fresh (by rw [parts]; exact List.mem_cons_of_mem _ old)
    · rw [List.mem_singleton.1 new]
      exact ⟨_, wrote.self, waiting⟩

section

variable {s t : State} {sl : Slot} {o : Op} {tag : Nat} {j : Job} {queue : List Slot}

/-- A record that takes a slot where nothing moves moves nothing. -/
theorem moves_wrote (hw : Wrote s t sl o) (idle : o.state.active = false) (before : ∀ p ∈ s.opAt sl, p.state.active = false)
    (g : Group) : t.moves g ↔ s.moves g := by
  constructor
  · rintro ⟨k, p, hp, group, active⟩
    by_cases e : sl = k
    · subst e
      rw [hw.self] at hp
      cases hp
      rw [idle] at active
      cases active
    · exact ⟨k, p, (hw.other e).symm.trans hp, group, active⟩
  · rintro ⟨k, p, hp, group, active⟩
    by_cases e : sl = k
    · subst e
      rw [before p hp] at active
      cases active
    · exact ⟨k, p, (hw.other e).trans hp, group, active⟩

/-- The four tests come out as before where a record that does not move takes a slot of one that did not. -/
theorem joined_tests (free : ∀ o ∈ s.opAt sl, o.state.isEnded = true) : SameTests s (s.joined sl tag j queue) :=
  ⟨rfl, rfl, rfl, rfl, rfl, fun g => moves_wrote (wrote_joined s sl tag j queue) rfl (fun p hp => ended_notActive (free p hp)) g⟩

theorem joined_undisturbed (h : s.Undisturbed) : (s.joined sl tag j queue).Undisturbed :=
  undisturbed_waiting h (wrote_joined s sl tag j queue) rfl rfl rfl

theorem joined_keeps (s : State) (sl : Slot) (tag : Nat) (j : Job) (queue : List Slot) :
    s.keepsBut (s.joined sl tag j queue) [.table, .arbiter, .awning, .jacks] := keepsBut_of

/-- An admission that is blocked waits under the first test it fails (R30). -/
theorem joined_blocked (undisturbed : s.Undisturbed) (free : ∀ o ∈ s.opAt sl, o.state.isEnded = true) (alone : queue = [sl])
    {w : WaitReason} (blocked : s.blockedBy (s.newRecord tag j) = some w) :
    Follows ((s.joined sl tag j queue).setOp sl { s.newRecord tag j with state := .admitted w }) (s.joined sl tag j queue).settle :=
  follows_headBlocked (joined_undisturbed undisturbed)
    ⟨alone, (wrote_joined s sl tag j queue).self, rfl, (blockedBy_congr (joined_tests free) rfl rfl).trans blocked⟩
    (undisturbed_waiting (joined_undisturbed undisturbed) (wrote_setOp _ sl _) rfl rfl rfl)

/-- An admission that passes the four tests is granted in its event (R32). -/
theorem joined_granted (undisturbed : s.Undisturbed) (free : ∀ o ∈ s.opAt sl, o.state.isEnded = true) (alone : queue = [sl])
    (off : s.entriesOff) (passes : s.blockedBy (s.newRecord tag j) = none) :
    (s.joined sl tag j queue).GrantLeaves (s.joined sl tag j queue).settle sl (s.newRecord tag j) :=
  settle_grants (joined_undisturbed undisturbed) off alone (wrote_joined s sl tag j queue).self rfl
    ((blockedBy_congr (joined_tests free) rfl rfl).trans passes)

/-- Behind a queue that waits, an admission waits with QUEUE and nothing else moves (R30). -/
theorem joined_behind (undisturbed : s.Undisturbed) (free : ∀ o ∈ s.opAt sl, o.state.isEnded = true) (waits : s.headWaits)
    (fresh : sl ∉ s.sta.queue) (some_wait : s.sta.queue ≠ []) :
    Follows (s.joined sl tag j (s.sta.queue ++ [sl])) (s.joined sl tag j (s.sta.queue ++ [sl])).settle :=
  follows_headWaits (joined_undisturbed undisturbed)
    (headWaits_behind waits fresh some_wait (wrote_joined s sl tag j _) rfl (joined_tests free) rfl)

end

theorem queueWith_normal (s : State) (sl : Slot) (tag : Nat) (j : Job) (k : Slot) :
    (s.placed sl tag j).queueWith k .normal = s.sta.queue ++ [k] := by
  rw [placed_eq]; rfl

theorem NoticesFollow.since {u w t : State} (h : NoticesFollow w t) (same : w.ntu = u.ntu) : NoticesFollow u t :=
  notices_of_ntu same h

/-! ### The slot and the reservation of an admission (R6, R26) -/

theorem placeSlot_lowest {s : State} {sl : Slot} (open_ : s.opAt sl = none) (below : ∀ k, k < sl → (s.opAt k).isSome = true) :
    s.placeSlot = some sl := by
  have found : slots.find? (fun k => (s.opAt k).isNone) = some sl := by
    have split : ∀ k : Slot, slots = slots.filter (· < k) ++ k :: slots.filter (k < ·) := by decide
    refine List.find?_eq_some_iff_append.2 ⟨by simp [open_], _, _, split sl, fun k mem => ?_⟩
    have full := below k (by simpa using (List.mem_filter.1 mem).2)
    simpa [Option.isSome_iff_ne_none] using full
  rw [State.placeSlot, found]

theorem placeSlot_oldest {s : State} {sl : Slot} {o : Op} {oldest : Nat} {rest : List Nat} (full : ∀ k, (s.opAt k).isSome = true)
    (list : s.opt.endedList = oldest :: rest) (ho : s.opAt sl = some o) (tag : o.tag = oldest)
    (only : ∀ k p, s.opAt k = some p → p.tag = oldest → k = sl) : s.placeSlot = some sl := by
  have none_free : slots.find? (fun k => (s.opAt k).isNone) = none :=
    List.find?_eq_none.2 fun k _ => by simp [Option.isSome_iff_ne_none.1 (full k)]
  have found : s.slotOfTag oldest = some sl := findSlot_eq ho (by simp [tag]) fun k p hp same => only k p hp (by simpa using same)
  rw [State.placeSlot, none_free, list]
  exact found

theorem reservation_cases (t : Items) (j : Job) (fits : j.kind.fits j.group = true) :
    (j.kind = .level ∨ j.kind = .ground ∨ j.kind = .jackJog ∧ j.dir = some .outward → t.reservation j = t.supply.sharePump)
    ∧ (j.kind = .jacksStow ∨ j.kind = .jackJog ∧ j.dir = some .inward → t.reservation j = 0)
    ∧ (∀ n, j.group = .room n → t.reservation j = t.supply.shareRoomMotor * t.room.motors.get n)
    ∧ (j.group = .awning → t.reservation j = t.supply.shareAwning) := by
  refine ⟨?_, ?_, fun n group => ?_, fun group => ?_⟩
  · rintro (kind | kind | ⟨kind, dir⟩)
    · simp [Items.reservation, kind]
    · simp [Items.reservation, kind]
    · simp [Items.reservation, kind, dir]
  · rintro (kind | ⟨kind, dir⟩)
    · simp [Items.reservation, kind]
    · simp [Items.reservation, kind, dir]
  · rw [group] at fits
    cases kind : j.kind <;> simp_all [Items.reservation, OpKind.fits]
  · rw [group] at fits
    cases kind : j.kind <;> simp_all [Items.reservation, OpKind.fits]

/-- Settles O25: the record joins the queue; what the examination makes of it; the slot and the reservation of an admission. -/
theorem submitJoinsQueue : Obligations.SubmitJoinsQueue := by
  refine ⟨fun s l p q j sl takes read ready job passes place free moves undisturbed => ?_,
    fun s sl => ⟨placeSlot_lowest, fun o oldest rest => placeSlot_oldest⟩, reservation_cases⟩
  have accepted := submit_admits takes read ready job passes place
  rw [admitJob_joins place moves, readJob_normal job, queueWith_normal] at accepted
  refine ⟨fun _ empty => ⟨fun w blocked => ?_, fun off passing => ?_⟩, fun books some_wait => ?_⟩
  · have follows := joined_blocked (queue := s.sta.queue ++ [sl]) undisturbed free (by rw [empty]; rfl) blocked
    exact ⟨_, accepted, follows.table, follows.arbiter, follows.awning, follows.jacks,
      follows.keepsBut keepsBut_of, follows.notices.since rfl⟩
  · exact ⟨_, accepted, joined_granted (queue := s.sta.queue ++ [sl]) undisturbed free (by rw [empty]; rfl) off passing⟩
  · have fresh : sl ∉ s.sta.queue := fun mem => by
      obtain ⟨o, ho, admitted⟩ := (books.queue.2 sl).1 mem
      exact absurd (free o ho) (by simp [admitted_notEnded admitted])
    have follows := joined_behind (tag := q.tag.toNat) (j := j) undisturbed free books.examined fresh some_wait
    have same := setOp_same (wrote_joined s sl q.tag.toNat j (s.sta.queue ++ [sl])).self
    refine ⟨_, accepted, ?_, follows.arbiter, follows.awning, follows.jacks, follows.keepsBut (joined_keeps s sl _ j _),
      follows.notices.since rfl⟩
    exact follows.table.trans (congrArg State.opt same).symm

end Sys2Proof.Machine
end

section
namespace Sys2Proof.Machine

-- One declaration at a time, so that the memory the check takes stays small.
set_option Elab.async false

/-! ### RESUME (R21) -/

/-- The record of a held operation that returns to the queue (R21). -/
def State.returned (s : State) (o : Op) : Op :=
  { o with state := .admitted .queue, admission := s.opt.admissions + 1, resumed := true }

/-- The state of a RESUME before the queue is examined (R21, R29). -/
def State.requeued (s : State) (sl : Slot) (o : Op) (queue : List Slot) : State :=
  { s with
    opt := { s.opt with slots := s.opt.slots.set sl (some (s.returned o)), admissions := s.opt.admissions + 1 }
    sta := { s.sta with queue := queue } }

section

variable {s : State} {sl : Slot} {o : Op} {queue : List Slot}

theorem wrote_requeued (s : State) (sl : Slot) (o : Op) (queue : List Slot) : Wrote s (s.requeued sl o queue) sl (s.returned o) :=
  fun k => by simp [State.requeued, State.opAt, Bank.get_set]

theorem requeued_tests (ho : s.opAt sl = some o) (held : o.state.isHeld = true) : SameTests s (s.requeued sl o queue) :=
  ⟨rfl, rfl, rfl, rfl, rfl, fun g => moves_wrote (wrote_requeued s sl o queue) rfl (fun p hp => by
    rw [ho] at hp
    cases hp
    cases e : o.state <;> simp_all [OpState.isHeld, OpState.active]) g⟩

theorem requeued_undisturbed (h : s.Undisturbed) : (s.requeued sl o queue).Undisturbed :=
  undisturbed_waiting h (wrote_requeued s sl o queue) rfl rfl rfl

theorem readmit_normal (normal : o.opClass = .normal) : s.readmit sl o = s.requeued sl o (s.sta.queue ++ [sl]) := by
  simp only [State.readmit, normal]
  rfl

theorem readmit_alone (empty : s.sta.queue = []) : s.readmit sl o = s.requeued sl o (s.sta.queue ++ [sl]) := by
  cases c : o.opClass with
  | normal => exact readmit_normal c
  | safety =>
    simp only [State.readmit, c, State.enqueue, State.requeued, State.setOp, empty]
    rfl

end

section

variable {s : State} {l : Link} {b : Byte} {sl : Slot} {o : Op}

/-- The owner test of a RESUME (R185). -/
def State.resumeOwns (s : State) (l : Link) (g : Group) : Prop :=
  l = .coach ∧ s.claimOf g = .free ∨ l = .service ∧ s.claimOf g ≠ .free

theorem step4_owner {g : Group} : (s.resumeOwns l g → s.step4 (linkOrigin l) g = none)
    ∧ (¬ s.resumeOwns l g → s.step4 (linkOrigin l) g = some .notOwner) := by
  cases l <;> by_cases free : s.claimOf g = .free <;> simp [State.resumeOwns, State.step4, State.claimed, refuseIf, linkOrigin, free]

/-- The interlocks of step 8 (R11). -/
def State.interlocked (s : State) (j : Job) : Prop :=
  s.inm.coach.eStop = .stop ∨ s.inm.coach.brake = .released ∧ s.deploying j = true
    ∨ s.inm.coach.ignition = true ∧ j.kind = .roomOut ∧ s.items.room.withIgnition = false

theorem step8_interlock {j : Job} : (s.interlocked j → s.step8 j = some .interlock)
    ∧ (¬ s.interlocked j → s.step8 j = none) := by
  have test : (s.inm.coach.eStop == .stop || (s.inm.coach.brake == .released && s.deploying j)
      || (s.inm.coach.ignition && j.kind == .roomOut && !s.items.room.withIgnition)) = true ↔ s.interlocked j := by
    simp [State.interlocked, or_assoc, and_assoc]
  exact ⟨fun locked => if_pos (test.2 locked), fun free => if_neg (mt test.1 free)⟩

theorem resume_refused (takes : s.takes l) (named : s.slotOfTag b.toNat = some sl) (ho : s.opAt sl = some o)
    (held : o.state.isHeld = true) {r : Refuse} (refusal : s.resumeRefusal (linkOrigin l) o.job = some r) :
    exec (.resume l [b]) s = .next (s.pushReply l 0x06#8 (BitVec.ofNat 8 r.code) [] .nothing) :=
  congrArg _ (request_refused takes (f := handleResume) (by simp [handleResume, named, ho, held, refusal]))

theorem resume_readmits (takes : s.takes l) (named : s.slotOfTag b.toNat = some sl) (ho : s.opAt sl = some o)
    (held : o.state.isHeld = true) (passes : s.resumeRefusal (linkOrigin l) o.job = none) :
    exec (.resume l [b]) s = .next ((s.readmit sl o).settle.pushReply l 0x06#8 0 [] .nothing) :=
  congrArg _ (request_accepted takes (f := handleResume) (by simp [handleResume, named, ho, held, passes]))

/-- The repeated steps of a RESUME, in their order (R21). -/
theorem resumeRefusal_cases {j : Job} :
    (¬ s.resumeOwns l j.group → s.resumeRefusal (linkOrigin l) j = some .notOwner)
    ∧ (s.resumeOwns l j.group →
      (s.interlocked j → s.resumeRefusal (linkOrigin l) j = some .interlock)
      ∧ (¬ s.interlocked j →
        (∀ r, s.step9 j = some r → s.resumeRefusal (linkOrigin l) j = some r)
        ∧ (s.step9 j = none →
          (s.targetBarred j = true → s.resumeRefusal (linkOrigin l) j = some .clearance)
          ∧ (s.targetBarred j = false → s.resumeRefusal (linkOrigin l) j = none)))) := by
  refine ⟨fun foreign => ?_, fun owns => ⟨fun locked => ?_, fun free => ⟨fun r refusal => ?_, fun fits => ⟨fun barred => ?_, fun open_ => ?_⟩⟩⟩⟩
  · simp [State.resumeRefusal, firstRefusal, step4_owner.2 foreign]
  · simp [State.resumeRefusal, firstRefusal, step4_owner.1 owns, step8_interlock.1 locked]
  · simp [State.resumeRefusal, firstRefusal, step4_owner.1 owns, step8_interlock.2 free, refusal]
  · simp [State.resumeRefusal, firstRefusal, step4_owner.1 owns, step8_interlock.2 free, fits, State.step10, refuseIf, barred]
  · simp [State.resumeRefusal, firstRefusal, step4_owner.1 owns, step8_interlock.2 free, fits, State.step10, refuseIf, open_]

end

section

variable {s : State} {sl : Slot} {o : Op} {queue : List Slot}

/-- A returned operation alone in the queue waits under the first test it fails (R30). -/
theorem requeued_blocked (undisturbed : s.Undisturbed) (ho : s.opAt sl = some o) (held : o.state.isHeld = true) (alone : queue = [sl])
    {w : WaitReason} (blocked : s.blockedBy o = some w) :
    Follows ((s.requeued sl o queue).setOp sl { s.returned o with state := .admitted w }) (s.requeued sl o queue).settle :=
  follows_headBlocked (requeued_undisturbed undisturbed)
    ⟨alone, (wrote_requeued s sl o queue).self, rfl, (blockedBy_congr (requeued_tests ho held) rfl rfl).trans blocked⟩
    (undisturbed_waiting (requeued_undisturbed undisturbed) (wrote_setOp _ sl _) rfl rfl rfl)

theorem requeued_granted (undisturbed : s.Undisturbed) (ho : s.opAt sl = some o) (held : o.state.isHeld = true) (alone : queue = [sl])
    (off : s.entriesOff) (passes : s.blockedBy o = none) :
    (s.requeued sl o queue).GrantLeaves (s.requeued sl o queue).settle sl (s.returned o) :=
  settle_grants (requeued_undisturbed undisturbed) off alone (wrote_requeued s sl o queue).self rfl
    ((blockedBy_congr (requeued_tests ho held) rfl rfl).trans passes)

end

/-- Settles O29: the refusals in their order, then the wait or the grant. -/
theorem resumeReturnsToQueue : Obligations.ResumeReturnsToQueue := by
  intro s l b takes
  refine ⟨fun unused => congrArg _ (request_refused takes (f := handleResume) (r := .noSuchTag) (by simp [handleResume, unused])),
    fun sl o named ho => ⟨fun other => congrArg _ (request_refused takes (f := handleResume) (r := .wrongState)
      (by simp [handleResume, named, ho, other])), fun held => ?_⟩⟩
  obtain ⟨foreign, mine⟩ := resumeRefusal_cases (s := s) (l := l) (j := o.job)
  refine ⟨fun notOwn => resume_refused takes named ho held (foreign notOwn),
    fun owns locked => resume_refused takes named ho held ((mine owns).1 locked),
    fun r owns free refusal => resume_refused takes named ho held (((mine owns).2 free).1 r refusal),
    fun owns free fits barred => resume_refused takes named ho held ((((mine owns).2 free).2 fits).1 barred),
    fun owns free fits open_ undisturbed => ?_⟩
  have accepted := resume_readmits takes named ho held ((((mine owns).2 free).2 fits).2 open_)
  refine ⟨fun _ empty => ⟨fun w blocked => ?_, fun _ off passing => ?_⟩, fun books some_wait normal => ?_⟩
  · rw [readmit_alone empty] at accepted
    have follows := requeued_blocked (queue := s.sta.queue ++ [sl]) undisturbed ho held (by rw [empty]; rfl) blocked
    exact ⟨_, accepted, follows.table, follows.arbiter, follows.keepsBut keepsBut_of⟩
  · rw [readmit_alone empty] at accepted
    exact ⟨_, accepted, requeued_granted (queue := s.sta.queue ++ [sl]) undisturbed ho held (by rw [empty]; rfl) off passing⟩
  · rw [readmit_normal normal] at accepted
    have wrote := wrote_requeued s sl o (s.sta.queue ++ [sl])
    have fresh : sl ∉ s.sta.queue := fun mem => by
      obtain ⟨p, hp, admitted⟩ := (books.queue.2 sl).1 mem
      rw [ho] at hp
      cases hp
      cases e : o.state <;> simp_all [OpState.isHeld, OpState.isAdmitted]
    have follows := follows_headWaits (s := s.requeued sl o (s.sta.queue ++ [sl])) (requeued_undisturbed undisturbed)
      (headWaits_behind books.examined fresh some_wait wrote rfl (requeued_tests ho held) rfl)
    exact ⟨_, accepted, follows.table.trans (congrArg State.opt (setOp_same wrote.self)).symm, follows.arbiter,
      follows.keepsBut keepsBut_of⟩

end Sys2Proof.Machine
end

section
namespace Sys2Proof.Machine

-- One declaration at a time, so that the memory the check takes stays small.
set_option Elab.async false

/-! ### The internal tag (R4) -/

theorem nextTag_round (k : Nat) : nextTag (240 + k % 16) = 240 + (k + 1) % 16 := by
  unfold nextTag
  split <;> omega

/-- The search for a free tag stops at the first from where it began, or runs out (R4). -/
theorem freeTag_first (s : State) (n c : Nat) :
    ∃ d ≤ n, s.freeTag n (240 + c % 16) = 240 + (c + d) % 16 ∧ ∀ e, e < d → (s.slotOfTag (240 + (c + e) % 16)).isSome = true := by
  induction n generalizing c with
  | zero => exact ⟨0, le_rfl, rfl, fun e h => absurd h (Nat.not_lt_zero e)⟩
  | succ n ih =>
    by_cases used : (s.slotOfTag (240 + c % 16)).isSome = true
    · obtain ⟨d, bound, found, before⟩ := ih (c + 1)
      refine ⟨d + 1, by omega, ?_, fun e below => ?_⟩
      · rw [State.freeTag, if_pos used, nextTag_round, found]
        congr 2
        omega
      · cases e with
        | zero => exact used
        | succ e =>
          have := before e (by omega)
          rwa [show c + 1 + e = c + (e + 1) by omega] at this
    · exact ⟨0, by omega, by rw [State.freeTag, if_neg used]; rfl, fun e h => absurd h (Nat.not_lt_zero e)⟩

theorem internalTag_first {s : State} {c : Nat} (counter : s.opt.internalTag = 240 + c) (bound : c ≤ 15) :
    ∃ d ≤ 15, s.internalTag = 240 + (c + d) % 16 ∧ s.slotOfTag s.internalTag = none
      ∧ (∀ e, e < d → (s.slotOfTag (240 + (c + e) % 16)).isSome = true) ∧ nextTag s.internalTag = 240 + (c + d + 1) % 16 := by
  have free : s.slotOfTag s.internalTag = none := internalTag_free s ⟨by omega, by omega⟩
  have round : 240 + c = 240 + c % 16 := by omega
  obtain ⟨d, most, found, before⟩ := freeTag_first s 16 c
  rw [← round, ← counter] at found
  change s.internalTag = _ at found
  refine ⟨d, ?_, found, free, before, by rw [found, nextTag_round]⟩
  by_contra beyond
  have all : d = 16 := by omega
  have first := before 0 (by omega)
  rw [found, all, show (c + 16) % 16 = (c + 0) % 16 by omega] at free
  rw [free] at first
  cases first

/-! ### An examination that can grant one LEVEL alone -/

section

variable {s : State} {sl : Slot} {o : Op}

/-- A LEVEL that is granted for the first time starts in the Levelling Controller alone, LEVELLED clear (R62, R66). -/
theorem grant_level (kind : o.job.kind = .level) (group : o.job.group = .jacks) (first : o.resumed = false) :
    ∃ ph, s.grant sl o = { s with
        opt := { s.opt with slots := s.opt.slots.set sl (some { o with state := .running (some ph), resumed := false }) }
        sta := (s.grantRecord sl o).sta, lvc := (s.grant sl o).lvc }
      ∧ (s.grant sl o).lvc.levelled = false := by
  have judged : s.grant sl o = (s.grantRecord sl o).startOp sl o := by
    show State.judgeStanding _ o.job.group _ = _
    exact judgeStanding_quiet _ _ (.inr (.inl group))
  have starts : s.grant sl o = (s.grantRecord sl o).unlevelled.beginGround sl := by
    rw [judged]
    simp only [State.startOp, group]
    rw [(startJacks_cases (s.grantRecord sl o) sl o).2.2 (by simp [kind]) (by simp [first])]
    simp [State.runJacks, kind, first]
  have frame := grounding_frame (s.grantRecord sl o).unlevelled sl o
  have opt : ((s.grantRecord sl o).unlevelled.grounding sl o).opt
      = { s.opt with slots := s.opt.slots.set sl (some { o with state := .running (some .ground), resumed := false }) } := by
    rw [frame]
    simp [State.unlevelled, grantRecord_opt, set_twice]
  rw [starts, beginGround_eq (h := (s.grantRecord sl o).unlevelled) (grantRecord_self s sl o)]
  split
  · have self : ((s.grantRecord sl o).unlevelled.grounding sl o).opAt sl
        = some { o with state := .running (some .ground), resumed := false } := ((wrote_setOp s sl _).of_opt opt).self
    refine ⟨.settle, ?_, ?_⟩
    · rw [beginSettle_eq self, opt, frame]
      simp only [set_twice]
      rfl
    · rw [beginSettle_eq self, frame]; rfl
  · refine ⟨.ground, ?_, by rw [frame]; rfl⟩
    rw [← opt, frame]
    rfl

theorem setWaits_frame (l : List Slot) (u : State) :
    l.foldl (fun t q => t.setWait q .queue) u = { u with opt := (l.foldl (fun t q => t.setWait q .queue) u).opt } := by
  induction l generalizing u with
  | nil => rfl
  | cons q l ih =>
    rw [List.foldl_cons, ih]
    unfold State.setWait
    split
    · split <;> rfl
    · rfl

/-- A wait reason written leaves the RUNNING records. -/
theorem setWait_running {u : State} {q k : Slot} {w : WaitReason} {p : Op} (hp : (u.setWait q w).opAt k = some p)
    (running : p.state.isRunning = true) : u.opAt k = some p := by
  unfold State.setWait at hp
  split at hp
  · next x hx =>
    split at hp
    · by_cases e : q = k
      · subst e
        rw [(wrote_setOp u q _).self] at hp
        cases hp
        cases running
      · rwa [(wrote_setOp u q _).other e] at hp
    · exact hp
  · exact hp

theorem setWaits_running {u : State} {k : Slot} {p : Op} (l : List Slot)
    (hp : (l.foldl (fun t q => t.setWait q .queue) u).opAt k = some p) (running : p.state.isRunning = true) : u.opAt k = some p := by
  induction l generalizing u with
  | nil => exact hp
  | cons q l ih => exact setWait_running (ih hp) running

theorem examine_noneWaiting {u : State} (idle : u.noneWaiting) (n : Nat) : u.examine n = u := by
  cases n with
  | zero => rfl
  | succ n =>
    unfold State.examine
    split
    · rfl
    · split
      · rfl
      · next p hp => rw [if_pos (by simp [idle _ p hp])]

/-- What an examination leaves where a first LEVEL alone can be granted: the drift timer, and LEVELLED clear. -/
structure LevelExamined (y x : State) : Prop where
  frame : x = { y with opt := x.opt, sta := x.sta, lvc := x.lvc }
  levelled : x.lvc.levelled = false
  running : ∀ k p, x.opAt k = some p → p.state.isRunning = true → y.opAt k = some p ∨ p.job.group = .jacks

theorem levelExamined_examine {y : State} (flat : y.lvc.levelled = false)
    (lone : ∀ k p, y.opAt k = some p → p.state.isAdmitted = true → p.job = relevelJob ∧ p.resumed = false ∧ k = sl) (n : Nat) :
    LevelExamined y (y.examine n) := by
  have still : LevelExamined y y := ⟨rfl, flat, fun _ _ hp _ => .inl hp⟩
  cases n with
  | zero => exact still
  | succ n =>
    unfold State.examine
    split
    · exact still
    · next head behind queue =>
      split
      · exact still
      · next p hp =>
        split
        · exact still
        · next waits =>
          have admitted : p.state.isAdmitted = true := by simpa using waits
          obtain ⟨job, first, rfl⟩ := lone head p hp admitted
          split
          · next passes =>
            obtain ⟨ph, frame, off⟩ := grant_level (s := y) (sl := head) (o := p) (by rw [job]; rfl) (by rw [job]; rfl) first
            have wrote : Wrote y (y.grant head p) head { p with state := .running (some ph), resumed := false } := by
              refine (wrote_setOp y head _).of_opt ?_
              rw [frame]; rfl
            have idle : (y.grant head p).noneWaiting := fun k q hq => by
              by_cases e : head = k
              · subst e
                rw [wrote.self] at hq
                cases hq
                rfl
              · rw [wrote.other e] at hq
                by_contra admits
                exact e (lone k q hq (by simpa using admits)).2.2.symm
            have stops : (y.grant head p).examine n = y.grant head p := examine_noneWaiting idle n
            rw [stops]
            refine ⟨by rw [frame], off, fun k q hq running => ?_⟩
            by_cases e : head = k
            · subst e
              rw [wrote.self] at hq
              cases hq
              exact .inr (by rw [job]; rfl)
            · exact .inl ((wrote.other e).symm.trans hq)
          · next w blocked =>
            have inner : y.setWait head w = { y with opt := (y.setWait head w).opt } := by
              unfold State.setWait
              split
              · split <;> rfl
              · rfl
            have frame := setWaits_frame behind (y.setWait head w)
            refine ⟨?_, ?_, fun k q hq running => .inl (setWait_running (setWaits_running behind hq running) running)⟩
            · rw [frame, inner]
            · rw [frame, inner]; exact flat

end

/-! ### What a drift expiry leaves (R52, R53) -/

/-- An admission under an internal tag, before the queue is examined (R4, R13). -/
def State.joinedUnder (s : State) (sl : Slot) (tag : Nat) (j : Job) (queue : List Slot) : State :=
  { s.joined sl tag j queue with opt := { (s.joined sl tag j queue).opt with internalTag := nextTag tag } }

theorem admitInternal_joins {s : State} {j : Job} {sl : Slot} (place : s.placeSlot = some sl) (moves : s.idleJob j = false)
    (normal : j.kind.opClass = .normal) :
    s.admitInternal j = s.joinedUnder sl s.internalTag j (s.sta.queue ++ [sl]) := by
  rw [State.admitInternal, admitJob_joins place moves, normal, queueWith_normal]
  rfl

theorem wrote_joinedUnder (s : State) (sl : Slot) (tag : Nat) (j : Job) (queue : List Slot) :
    Wrote s (s.joinedUnder sl tag j queue) sl (s.newRecord tag j) := wrote_joined s sl tag j queue

theorem declareDrift_eq (s : State) : s.declareDrift
    = { s.raiseAttitude 0x01#8 with atu := { s.atu with drift := none }, lvc := { s.lvc with levelled := false } } := rfl

theorem declareDrift_calm {s : State} (h : s.Calm) : s.declareDrift.Calm := calm_same h rfl rfl rfl

theorem unjudged_of {s t : State} (h : s.Undisturbed) (items : t.ist = s.ist)
    (running : ∀ k p, t.opAt k = some p → p.state.isRunning = true → s.opAt k = some p ∨ p.job.group = .jacks) : t.unjudged := by
  rcases h.edges with off | only
  · exact .inl (entriesOff_of_items off (by rw [State.items, items]; rfl))
  · refine .inr fun g other => ?_
    cases run : t.runningOp g with
    | none => rw [State.judged, run]
    | some r =>
      obtain ⟨k, p⟩ := r
      obtain ⟨hp, rfl, moves⟩ := runningOp_some run
      rcases running k p hp moves with before | jacks
      · exact absurd (by simpa using only k p before moves) other
      · exact absurd jacks other

theorem follows_flat {u t : State} (h : Follows u t) (stopped : u.atu.drift = none) (flat : u.lvc.levelled = false) :
    t.atu.drift = none ∧ t.lvc.levelled = false := by
  rw [h.attitude, h.jacks]
  exact ⟨by simp [stopped], flat⟩

/-- The LEVEL of a relevel alone: the end of its event leaves the drift timer stopped and LEVELLED clear. -/
theorem relevel_settles {d : State} (calm : d.Calm) (stopped : d.atu.drift = none) (flat : d.lvc.levelled = false) :
    (d.admitInternal relevelJob).settle.atu.drift = none ∧ (d.admitInternal relevelJob).settle.lvc.levelled = false := by
  cases place : d.placeSlot with
  | none =>
    have same : d.admitInternal relevelJob = { d with opt := { d.opt with internalTag := nextTag d.internalTag } } := by
      rw [State.admitInternal, admitJob_noSlot place]
    have follows := follows_settle (s := { d with opt := { d.opt with internalTag := nextTag d.internalTag } })
      (calm_of calm.toUndisturbed rfl rfl (fun k p hp running => ⟨k, p, hp, running, rfl⟩) calm.waiting)
    rw [same]
    exact follows_flat follows stopped flat
  | some sl =>
    rw [admitInternal_joins place rfl rfl]
    let v := d.joinedUnder sl d.internalTag relevelJob (d.sta.queue ++ [sl])
    change v.settle.atu.drift = none ∧ v.settle.lvc.levelled = false
    have wrote : Wrote d v sl (d.newRecord d.internalTag relevelJob) := wrote_joinedUnder d sl _ _ _
    have undisturbed : v.Undisturbed := undisturbed_waiting calm.toUndisturbed wrote rfl rfl rfl
    have lone : ∀ k p, v.opAt k = some p → p.state.isAdmitted = true → p.job = relevelJob ∧ p.resumed = false ∧ k = sl := by
      intro k p hp admitted
      by_cases e : sl = k
      · subst e
        rw [wrote.self] at hp
        cases hp
        exact ⟨rfl, rfl, rfl⟩
      · rw [wrote.other e] at hp
        rw [calm.waiting k p hp] at admitted
        cases admitted
    obtain ⟨e, -, ends⟩ := settle_examines undisturbed
    have examined : LevelExamined (v.withEntries e) (v.withEntries e).examineQueue := levelExamined_examine (y := v.withEntries e) flat lone _
    have follows := ends (unjudged_of undisturbed (by rw [examined.frame]; rfl) examined.running)
    exact follows_flat follows (by rw [examined.frame]; exact stopped) examined.levelled

/-- A relevel that waits under the first test it fails (R30, R53). -/
theorem relevel_blocked {d : State} {sl : Slot} {w : WaitReason} (calm : d.Calm) (place : d.placeSlot = some sl)
    (free : ∀ o ∈ d.opAt sl, o.state.isEnded = true) (queue : d.sta.queue = [])
    (blocked : d.blockedBy (d.newRecord d.internalTag relevelJob) = some w) :
    Follows ((d.joinedUnder sl d.internalTag relevelJob [sl]).setOp sl
      { d.newRecord d.internalTag relevelJob with state := .admitted w }) (d.admitInternal relevelJob).settle := by
  rw [admitInternal_joins place rfl rfl, queue]
  have wrote := wrote_joinedUnder d sl d.internalTag relevelJob [sl]
  have undisturbed : (d.joinedUnder sl d.internalTag relevelJob [sl]).Undisturbed :=
    undisturbed_waiting calm.toUndisturbed wrote rfl rfl rfl
  have tests : SameTests d (d.joinedUnder sl d.internalTag relevelJob [sl]) :=
    ⟨rfl, rfl, rfl, rfl, rfl, fun g => moves_wrote wrote rfl (fun p hp => ended_notActive (free p hp)) g⟩
  exact follows_headBlocked undisturbed ⟨rfl, wrote.self, rfl, (blockedBy_congr tests rfl rfl).trans blocked⟩
    (undisturbed_waiting undisturbed (wrote_setOp _ sl _) rfl rfl rfl)

/-- ATTITUDE with details, on both links. -/
def State.told (s t : State) (bits : BitVec 8) : Prop :=
  t.ntu.coach.attitude = s.ntu.coach.attitude ||| bits ∧ t.ntu.service.attitude = s.ntu.service.attitude ||| bits
    ∧ t.ntu.coach.cats &&& Category.attitude.bit = Category.attitude.bit
    ∧ t.ntu.service.cats &&& Category.attitude.bit = Category.attitude.bit

/-- The end of the event raises FAULT at most (R190), so that what was told before stays told. -/
theorem NoticesFollow.told {s u t : State} {bits : BitVec 8} (h : NoticesFollow u t) (told : s.told u bits) : s.told t bits := by
  obtain ⟨coach, service, cats⟩ := told
  refine ⟨?_, ?_, h.cats cats.1 cats.2⟩
  · rcases h.sets with ⟨same, -⟩ | ⟨raised, -⟩
    · rw [same, coach]
    · rw [raised, ← coach]; rfl
  · rcases h.sets with ⟨-, same, -⟩ | ⟨-, raised⟩
    · rw [same, service]
    · rw [raised, ← service]; rfl

theorem declareDrift_told (s : State) : s.told s.declareDrift 0x01#8 := ⟨rfl, rfl, and_of_or_left _ _, and_of_or_left _ _⟩

theorem skipRelevel_told (s : State) : s.told (s.declareDrift.raiseAttitude 0x04#8) 0x05#8 :=
  ⟨(BitVec.or_assoc ..).trans rfl, (BitVec.or_assoc ..).trans rfl, and_of_or_left _ _, and_of_or_left _ _⟩

theorem relevel_cases (s : State) : s.declareDrift.relevel = if s.items.att.autoRelevel = false then s.declareDrift
    else if s.someRoomOut = true ∨ s.declareDrift.relevelRefusal.isSome = true then s.declareDrift.raiseAttitude 0x04#8
    else s.declareDrift.admitInternal relevelJob := by
  have items : s.declareDrift.items = s.items := rfl
  have out : s.declareDrift.someRoomOut = s.someRoomOut := rfl
  unfold State.relevel
  rw [items, out]
  cases s.items.att.autoRelevel with
  | false => rfl
  | true =>
    cases s.someRoomOut with
    | true => rfl
    | false => cases s.declareDrift.relevelRefusal <;> simp

/-- Settles O42: what is declared, the relevel's LEVEL with its record, and the choice of its tag. -/
theorem driftExpiryDeclares : Obligations.DriftExpiryDeclares := by
  refine ⟨fun s => ⟨fun stopped => ?_, fun running calm => ?_⟩, fun s c => internalTag_first⟩
  · show Host.Outcome.next _ = _
    rw [if_neg (by simp [stopped])]
  · have event : exec .driftTimerExpiry s = .next s.declareDrift.relevel.settle := by
      show Host.Outcome.next _ = _
      rw [if_pos running]
    have quiet := declareDrift_calm calm
    intro u told
    refine ⟨_, event, ?_⟩
    have refusal : s.declareDrift.relevelRefusal = u.relevelRefusal := rfl
    have step : s.declareDrift.relevel = if s.items.att.autoRelevel = false then s.declareDrift
        else if s.someRoomOut = true ∨ u.relevelRefusal.isSome = true then s.declareDrift.raiseAttitude 0x04#8
        else s.declareDrift.admitInternal relevelJob := relevel_cases s
    by_cases relevels : s.items.att.autoRelevel = false
    · rw [step, if_pos relevels]
      have follows := follows_settle quiet
      have flat := follows_flat follows rfl rfl
      exact ⟨flat.1, flat.2,
        fun _ => ⟨follows.notices.told (declareDrift_told s), follows.jacks, follows.keepsBut keepsBut_of⟩,
        fun on => absurd (on.symm.trans relevels) (by simp), fun _ _ on => absurd (on.symm.trans relevels) (by simp)⟩
    rw [step, if_neg relevels]
    by_cases skips : s.someRoomOut = true ∨ u.relevelRefusal.isSome = true
    · rw [if_pos skips]
      have follows := follows_settle (s := s.declareDrift.raiseAttitude 0x04#8) (calm_same quiet rfl rfl rfl)
      have flat := follows_flat follows rfl rfl
      refine ⟨flat.1, flat.2, fun off => absurd off relevels,
        fun _ _ => ⟨follows.notices.told (skipRelevel_told s), follows.jacks, follows.keepsBut keepsBut_of⟩,
        fun _ _ _ home open_ => ?_⟩
      rw [home, open_] at skips
      simp at skips
    · rw [if_neg skips]
      have flat := relevel_settles quiet rfl rfl
      refine ⟨flat.1, flat.2, fun off => absurd off relevels, fun _ skip => absurd skip skips,
        fun sl w _ _ _ place free queue blocked => ?_⟩
      have tests : SameTests u s.declareDrift := ⟨rfl, rfl, rfl, rfl, rfl, fun _ => Iff.rfl⟩
      have follows := relevel_blocked (sl := sl) quiet place free queue ((blockedBy_congr tests rfl rfl).trans blocked)
      have wrote := wrote_joinedUnder s.declareDrift sl s.declareDrift.internalTag relevelJob [sl]
      have told := follows.notices.told (s := s) (bits := 0x01#8) (declareDrift_told s)
      refine ⟨told, ?_, fun k other => ?_, ?_, follows.arbiter, follows.keepsBut keepsBut_of⟩
      · rw [State.opAt, follows.table]
        exact (wrote_setOp _ sl _).self
      · rw [State.opAt, follows.table]
        exact ((wrote_setOp _ sl _).other other.symm).trans (wrote.other other.symm)
      · rw [follows.table]; rfl

end Sys2Proof.Machine
end

section
namespace Sys2Proof.Machine

-- One declaration at a time, so that the memory the check takes stays small.
set_option Elab.async false

/-! ### A kind that does not fit its group

R4 pairs every kind with its group at admission, and `Books` keeps it so; `Calm` alone does not ask for it. A record of kind
LEVEL in the group of a room, or of the awning, sets LEVELLED where it ends COMPLETE (R61), so that more than the blocks of
its group moves at the end of a coast window. -/

/-- A LEVEL that stands in another group and ramps down toward COMPLETE. -/
def misfit (g : Group) : Op :=
  { tag := 1, job := { relevelJob with group := g }, state := .stopping (.ended .complete) none, pass := 0, admission := 1
    reservation := 0, resumed := false }

/-- The motor of room 0 coasts for it. -/
def misfitRoom : State := (State.reset.setOp 0 (misfit (.room 0))).modRoomMotor 0 .a (fun m => { m with coast := some 0 })

/-- The awning's motor coasts for it. -/
def misfitAwning : State := (State.reset.setOp 0 (misfit .awning)).modAwningMotor (fun m => { m with coast := some 0 })

/-- LEVELLED after an event. -/
def levelledAfter (s : State) (i : Instr) : Bool :=
  match exec i s with
  | .next t => t.lvc.levelled
  | _ => false

theorem levelledAfter_next {s t : State} {i : Instr} (h : exec i s = .next t) : levelledAfter s i = t.lvc.levelled := by
  rw [levelledAfter, h]

theorem misfitRoom_levelled : misfitRoom.lvc.levelled = false ∧ levelledAfter misfitRoom (.roomCoastExpiry 0) = true := by
  decide +kernel

theorem misfitAwning_levelled : misfitAwning.lvc.levelled = false ∧ levelledAfter misfitAwning .awningCoastExpiry = true := by
  decide +kernel

theorem misfitRoom_entriesOff : ∀ k, (misfitRoom.entryItem k).enabled = false := by decide +kernel

theorem misfitAwning_entriesOff : ∀ k, (misfitAwning.entryItem k).enabled = false := by decide +kernel

theorem misfitRoom_calm : misfitRoom.Calm :=
  ⟨⟨.inl misfitRoom_entriesOff, .inr (by decide +kernel)⟩, by decide +kernel⟩

theorem misfitAwning_calm : misfitAwning.Calm :=
  ⟨⟨.inl misfitAwning_entriesOff, .inr (by decide +kernel)⟩, by decide +kernel⟩

/-- The event moves LEVELLED, which is none of the blocks of a room or of the awning. -/
theorem jacks_move {s t : State} {i : Instr} {l : List Block} (event : exec i s = .next t)
    (levelled : s.lvc.levelled = false ∧ levelledAfter s i = true) (outside : Block.jacks ∉ l) : ¬ s.keepsBut t l := by
  intro kept
  have same : t.lvc = s.lvc := kept.1 .jacks outside
  rw [levelledAfter_next event, same, levelled.1] at levelled
  exact absurd levelled.2 (by simp)

/-- Refutes O54: the coast of room 0 closes for a record of kind LEVEL that was headed for COMPLETE, which sets LEVELLED. -/
theorem not_roomCoastEnds : ¬ Obligations.RoomCoastEnds := by
  intro h
  obtain ⟨-, coasts⟩ := h.2 misfitRoom 0
  obtain ⟨-, stops, -⟩ := (coasts rfl misfitRoom_calm).2 0 (misfit (.room 0)) (by decide +kernel) (by decide +kernel)
  obtain ⟨t, event, -, kept⟩ := stops none .complete rfl
  exact jacks_move event misfitRoom_levelled (by decide) kept

/-- Refutes O57: the coast of the awning closes for a record of kind LEVEL that was headed for COMPLETE, which sets LEVELLED. -/
theorem not_awningTimersDecide : ¬ Obligations.AwningTimersDecide := by
  intro h
  obtain ⟨-, -, -, -, calm⟩ := h misfitAwning
  obtain ⟨-, coasts⟩ := calm misfitAwning_calm misfitAwning_entriesOff
  obtain ⟨-, stops, -⟩ := (coasts rfl rfl).2 0 (misfit .awning) (by decide +kernel)
  obtain ⟨t, event, -, kept⟩ := stops none .complete rfl
  exact jacks_move event misfitAwning_levelled (by decide) kept

end Sys2Proof.Machine
end

section
namespace Sys2Proof.Machine

-- One declaration at a time, so that the memory the check takes stays small.
set_option Elab.async false

theorem running_phase {st : OpState} (h : st.isRunning = true) : ∃ ph, st = .running ph := by
  cases st with
  | running ph => exact ⟨ph, rfl⟩
  | _ => cases h

/-! ### The awning's pulse (R117, R122, R124) -/

theorem pulseCount_eq (travel count : Nat) (d : Option Dir) :
    pulseCount travel count (d.getD .inward) = if d = some .outward then min (travel + 200) (count + 1) else count - 1 := by
  cases d with
  | none => rfl
  | some d => cases d <;> rfl

theorem entriesOf_off {s : State} (off : s.entriesOff) (g : Group) : s.entriesOf g = [] := by
  unfold State.entriesOf
  rw [List.filter_eq_nil_iff]
  intro k _
  simp [off k]

/-- A RUNNING operation reports a phase: a calm state stays calm. -/
theorem calm_phase {s t : State} {sl : Slot} {o : Op} {ph : Option Phase} (calm : s.Calm) (ho : s.opAt sl = some o)
    (running : o.state.isRunning = true) (wrote : Wrote s t sl { o with state := .running ph }) (items : t.ist = s.ist)
    (inputs : t.inm.inputs = s.inm.inputs) : t.Calm := by
  have back : ∀ k p, t.opAt k = some p → (k = sl ∧ p = { o with state := .running ph }) ∨ s.opAt k = some p := by
    intro k p hp
    by_cases e : sl = k
    · subst e
      rw [wrote.self] at hp
      exact .inl ⟨rfl, (Option.some.inj hp).symm⟩
    · exact .inr ((wrote.other e).symm.trans hp)
  refine calm_of calm.toUndisturbed items inputs (fun k p hp run => ?_) fun k p hp => ?_
  · rcases back k p hp with ⟨rfl, rfl⟩ | old
    · exact ⟨_, o, ho, running, rfl⟩
    · exact ⟨k, p, old, run, rfl⟩
  · rcases back k p hp with ⟨rfl, rfl⟩ | old
    · rfl
    · exact calm.waiting k p old

/-- The state with the pulse of a driven awning motor counted. -/
def State.awningCounted (s : State) : State := s.modAwningMotor (Motor.drivenPulse s.items.awn.travel)

section

variable {s : State}

theorem awningPulse_idle (unwatched : ¬ (s.inm.parked = false ∧ s.items.awn.present = true)) : s.awningPulse = s := by
  rw [State.awningPulse, if_pos]
  cases h : s.inm.parked <;> simp_all

theorem awningPulse_stray (parked : s.inm.parked = false) (present : s.items.awn.present = true)
    (off : s.awu.motor.driven = false) (closed : s.awu.motor.coast = none) :
    s.awningPulse = s.modAwning (fun a => { a with stray := true }) := by
  simp [State.awningPulse, parked, present, off, closed]

theorem awningPulse_coast (entries : s.entriesOff) (parked : s.inm.parked = false) (present : s.items.awn.present = true)
    (off : s.awu.motor.driven = false) (opened : s.awu.motor.coast.isSome = true) :
    s.awningPulse = s.modAwningMotor (Motor.coastPulse s.items.awn.travel) := by
  have silent := judgeMove_noEntries (s := s.modAwningMotor (Motor.coastPulse s.items.awn.travel)) .a .awning s.awu.motor.count
    false (entriesOf_off (entriesOff_of_items entries rfl) .awning)
  simp [State.awningPulse, parked, present, off, opened, silent]

theorem awningPulse_driven (entries : s.entriesOff) (parked : s.inm.parked = false) (present : s.items.awn.present = true)
    (driven : s.awu.motor.driven = true) :
    s.awningPulse = s.awningCounted.testAwningBreakaway.testAwningStop.testAwningCreep := by
  have acts : Acts s s.awningCounted.testAwningBreakaway.testAwningStop.testAwningCreep :=
    (Quiet.acts quiet).trans ((acts_testAwningBreakaway _).trans ((quiet_testAwningStop _).acts.trans (acts_testAwningCreep _)))
  have silent := judgeMove_noEntries .a .awning s.awu.motor.count false
    (entriesOf_off (entriesOff_of_items entries acts.items) .awning)
  simp only [State.awningPulse, parked, present, driven]
  simp only [State.awningCounted] at silent ⊢
  simp [silent]

end

/-! ### The tests at a pulse, for a RUNNING operation with no end pending -/

section

variable {p : State} {sl : Slot} {o : Op}

theorem awningJudging_eq (pend : p.awu.pend = none) (run : p.runningOp .awning = some (sl, o)) :
    p.awningJudging = some (sl, o) := by
  simp [State.awningJudging, pend, run]

theorem activeOp_of_running {g : Group} (run : p.runningOp g = some (sl, o)) : p.activeOp g = some (sl, o) := by
  unfold State.runningOp at run
  split at run
  · next k q found =>
    split at run
    · cases run; exact found
    · cases run
  · cases run

theorem busySlot_of_active {g : Group} (act : p.activeOp g = some (sl, o)) : p.busySlot g = some sl := by
  unfold State.activeOp at act
  split at act
  · cases act
  · next k found =>
    split at act
    · split at act
      · cases act; exact found
      · cases act
    · cases act

theorem findSlot_congr {q : State} {f : Op → Bool} (h : ∀ k, (q.opAt k).any f = (p.opAt k).any f) :
    q.findSlot f = p.findSlot f := by
  unfold State.findSlot
  congr 1
  funext k
  exact h k

/-- A phase written leaves the operation of the group RUNNING. -/
theorem runningOp_phase {q : State} {g : Group} {ph : Option Phase} (run : p.runningOp g = some (sl, o))
    (wrote : Wrote p q sl { o with state := .running ph }) :
    q.runningOp g = some (sl, { o with state := .running ph }) := by
  obtain ⟨ho, group, running⟩ := runningOp_some run
  have busy : q.busySlot g = some sl := by
    rw [← busySlot_of_active (activeOp_of_running run)]
    refine findSlot_congr fun k => ?_
    by_cases e : sl = k
    · subst e
      rw [wrote.self, ho]
      have moves : o.state.isEnded = false := active_notEnded (running_active running)
      have still : (OpState.running ph).isEnded = false := rfl
      simp [moves, still]
    · rw [wrote.other e]
  simp [State.runningOp, State.activeOp, busy, wrote.self, OpState.active, OpState.isRunning]

/-- The stop at a count (R124, R125). -/
def State.awningStopped (p : State) : State :=
  p.modAwning (fun a => { a with
    motor := { a.motor with driven := false, applied := 0, coast := some (p.now + 300), atEnd := true }
    demanded := 0, ramped := 0, pend := some (.result .complete) })

theorem haltAwning_driven (driven : p.awu.motor.driven = true) : p.haltAwning = p.modAwning (fun a => { a with
    motor := { a.motor with driven := false, applied := 0, coast := some (p.now + 300), atEnd := true }
    ramped := 0, demanded := 0 }) := by
  simp [State.haltAwning, State.modAwning, AwningUnit.halt, driven, Motor.halt]

theorem testAwningStop_stops (pend : p.awu.pend = none) (run : p.runningOp .awning = some (sl, o))
    (driven : p.awu.motor.driven = true) (stops : p.awningAtStop o = true) : p.testAwningStop = p.awningStopped := by
  have judging : p.haltAwning.awningJudging = some (sl, o) :=
    awningJudging_eq (by simp [State.haltAwning, State.modAwning, AwningUnit.halt, driven, pend]) run
  simp only [State.testAwningStop, activeOp_of_running run, driven, stops, State.decideAwning, judging]
  simp [State.haltAwning, State.modAwning, AwningUnit.halt, driven, State.awningStopped, AwningUnit.decide, pend, Motor.halt]

theorem testAwningStop_goes (run : p.runningOp .awning = some (sl, o)) (goes : p.awningAtStop o = false) :
    p.testAwningStop = p := by
  simp [State.testAwningStop, activeOp_of_running run, goes]

theorem testAwningCreep_pending (pend : p.awu.pend.isSome = true) : p.testAwningCreep = p := by
  simp [State.testAwningCreep, State.awningJudging, pend]

theorem testAwningCreep_keeps (pend : p.awu.pend = none) (run : p.runningOp .awning = some (sl, o))
    (keeps : p.awu.breaking = true ∨ p.awu.creeping = true ∨ p.awningNear o = false) : p.testAwningCreep = p := by
  simp only [State.testAwningCreep, awningJudging_eq pend run]
  rw [if_neg]
  rcases keeps with h | h | h <;> simp [h]

theorem testAwningCreep_enters (pend : p.awu.pend = none) (run : p.runningOp .awning = some (sl, o))
    (through : p.awu.breaking = false) (before : p.awu.creeping = false) (near : p.awningNear o = true) :
    p.testAwningCreep = p.setAwningPace sl o true := by
  simp [State.testAwningCreep, awningJudging_eq pend run, through, before, near]

theorem testAwningBreakaway_keeps (keeps : p.awu.breakTimer = none ∨ p.awu.motor.tally < 2) : p.testAwningBreakaway = p := by
  rw [State.testAwningBreakaway, if_neg]
  rcases keeps with h | h
  · simp [h]
  · simp [Motor.broken, h]

theorem testAwningBreakaway_ends (timer : p.awu.breakTimer.isSome = true) (broken : p.awu.motor.broken = true) :
    p.testAwningBreakaway = p.endAwningBreakaway := by
  simp [State.testAwningBreakaway, timer, broken]

/-- BREAKAWAY is over. -/
def State.awningBroken (p : State) : State := p.modAwning (fun a => { a with breaking := false, breakTimer := none })

theorem endAwningBreakaway_jog (pend : p.awu.pend = none) (run : p.runningOp .awning = some (sl, o))
    (jog : o.job.kind = .awningJog) :
    p.endAwningBreakaway = p.awningBroken.modAwning (fun a => { a with demanded := p.awningProfile.creepDuty }) := by
  have judging : p.awningBroken.awningJudging = some (sl, o) := awningJudging_eq pend run
  simp only [State.awningBroken] at judging ⊢
  simp only [State.endAwningBreakaway, judging, jog]
  rfl

theorem endAwningBreakaway_paces (pend : p.awu.pend = none) (run : p.runningOp .awning = some (sl, o))
    (other : o.job.kind ≠ .awningJog) :
    p.endAwningBreakaway = p.awningBroken.setAwningPace sl o (p.awu.creeping || p.awningNear o) := by
  have judging : p.awningBroken.awningJudging = some (sl, o) := awningJudging_eq pend run
  simp only [State.awningBroken] at judging ⊢
  simp only [State.endAwningBreakaway, judging]
  rw [if_neg (by simpa using other)]
  rfl

theorem broken_of {s : State} (again : 1 ≤ s.awu.motor.tally) : s.awningCounted.awu.motor.broken = true := by
  have tally : 2 ≤ min 65535 (s.awu.motor.tally + 1) := by omega
  exact decide_eq_true tally

theorem setAwningPace_eq (ho : p.opAt sl = some o) (running : o.state.isRunning = true) (creep : Bool) :
    p.setAwningPace sl o creep
      = let u := p.modAwning (fun a => { a with
          demanded := if creep then p.awningProfile.creepDuty else p.awningProfile.runDuty, creeping := creep })
        if o.job.kind = .awningSet then u.setOp sl { o with state := .running (some (if creep then .creep else .run)) } else u := by
  have same : (p.modAwning (fun a => { a with
      demanded := if creep then p.awningProfile.creepDuty else p.awningProfile.runDuty, creeping := creep })).opAt sl = some o := ho
  unfold State.setAwningPace
  by_cases set : o.job.kind = .awningSet
  · rw [if_pos (by simp [set])]
    obtain ⟨ph, state⟩ := running_phase running
    simp only [State.reportPhase, same, state, set]
    cases creep <;> rfl
  · simp [set]

theorem awningTests_pass (pend : p.awu.pend = none) (run : p.runningOp .awning = some (sl, o)) (goes : p.awningAtStop o = false)
    (keeps : p.awu.breaking = true ∨ p.awu.creeping = true ∨ p.awningNear o = false) :
    p.testAwningStop.testAwningCreep = p := by
  rw [testAwningStop_goes run goes, testAwningCreep_keeps pend run keeps]

/-- The duty just taken passes the tests behind it. -/
theorem setAwningPace_passes {creep : Bool} (pend : p.awu.pend = none) (run : p.runningOp .awning = some (sl, o))
    (goes : p.awningAtStop o = false) (told : creep = true ∨ p.awningNear o = false) :
    (p.setAwningPace sl o creep).testAwningStop.testAwningCreep = p.setAwningPace sl o creep := by
  obtain ⟨ho, -, running⟩ := runningOp_some run
  rw [setAwningPace_eq ho running creep]
  dsimp only
  split
  · exact awningTests_pass pend (runningOp_phase (g := .awning) run (wrote_setOp _ sl _)) goes (.inr told)
  · exact awningTests_pass pend (o := o) run goes (.inr told)

theorem calm_pace {s : State} (calm : s.Calm) (ho : s.opAt sl = some o) (running : o.state.isRunning = true)
    (f : AwningUnit → AwningUnit) (ph : Option Phase) :
    (if o.job.kind = .awningSet then (s.modAwning f).setOp sl { o with state := .running ph } else s.modAwning f).Calm := by
  split
  · exact calm_phase calm ho running (wrote_setOp (s.modAwning f) sl _) rfl rfl
  · exact calm_same calm rfl rfl rfl

theorem awningAtStop_iff (fixed : o.job.kind = .awningSet → p.awu.setDir.isSome = true) :
    p.awningAtStop o = true ↔
      (o.job.kind = .awningSet ∧ p.awu.setDir = some .outward ∧ p.awu.target ≤ p.awu.motor.count
        ∨ o.job.kind = .awningSet ∧ p.awu.setDir = some .inward ∧ 0 < o.job.value.getD 0 ∧ p.awu.motor.count ≤ p.awu.target
        ∨ o.job.kind = .awningJog ∧ o.job.dir = some .outward ∧ p.awu.referenced = true
          ∧ p.items.awn.travel ≤ p.awu.motor.count) := by
  cases kind : o.job.kind
  case awningSet =>
    obtain ⟨d, dir⟩ := Option.isSome_iff_exists.1 (fixed kind)
    cases d <;> simp [State.awningAtStop, kind, State.awningDir, dir]
  case awningJog =>
    cases dir : o.job.dir with
    | none => simp [State.awningAtStop, kind, State.awningDir, dir]
    | some d => cases d <;> simp [State.awningAtStop, kind, State.awningDir, dir]
  all_goals simp [State.awningAtStop, kind]

theorem awningNear_iff : p.awningNear o = true ↔ o.job.kind ≠ .awningJog ∧ p.awu.referenced = true
    ∧ ((p.awu.motor.count : Int) - ((if o.job.kind = .awningSet then p.awu.target else 0 : Nat) : Int)).natAbs
      ≤ p.awningProfile.creepWindow := by
  have target : p.awningTarget o = if o.job.kind = .awningSet then p.awu.target else 0 := by
    unfold State.awningTarget
    split
    · next h => rw [if_pos h]
    · next h => rw [if_neg h]
  simp [State.awningNear, AwningUnit.gap, target, and_assoc]

end

/-! ### The awning's tick (R119) -/

section

variable {s : State} {amps : Nat}

theorem tickAwning_idle (unwatched : ¬ (s.inm.parked = false ∧ s.items.awn.present = true)) : s.tickAwning amps = s := by
  rw [State.tickAwning, if_pos]
  cases h : s.inm.parked <;> simp_all

theorem tickAwning_off (parked : s.inm.parked = false) (present : s.items.awn.present = true)
    (off : s.awu.motor.driven = false) : s.tickAwning amps = s.modAwningMotor (fun m => { m with amps := amps }) := by
  simp [State.tickAwning, parked, present, off, State.modAwningMotor, State.modAwning]

/-- The duty that the ramp comes to (R119), held in BREAKAWAY. -/
def State.awningRamped (s : State) : Nat :=
  if s.awu.breaking then s.awu.ramped
  else rampToward s.awu.demanded s.awningProfile.rampUp s.awningProfile.rampDown s.awu.ramped

theorem awningRamped_eq (s : State) : s.awningRamped = if s.awu.breaking then s.awu.ramped
    else if s.awu.ramped < s.awu.demanded then min s.awu.demanded (s.awu.ramped + s.awningProfile.rampUp)
    else max s.awu.demanded (s.awu.ramped - s.awningProfile.rampDown) := rfl

theorem tickAwning_driven (parked : s.inm.parked = false) (present : s.items.awn.present = true)
    (driven : s.awu.motor.driven = true) :
    s.tickAwning amps =
      let u := s.modAwning (fun a => { a with motor := { a.motor with amps := amps }, ramped := s.awningRamped })
      if s.awu.breaking = false ∧ s.awu.demanded = 0 ∧ s.awningRamped = 0 then u.haltAwning
      else u.modAwning (fun a => { a with motor := { a.motor with applied := a.ramped } }) := by
  rw [State.tickAwning, if_neg (by simp [parked, present])]
  dsimp only
  rw [if_neg (by simp [State.modAwningMotor, State.modAwning, driven])]
  refine if_congr ?_ rfl rfl
  show (!s.awu.breaking && decide (s.awu.demanded = 0) && decide (s.awningRamped = 0)) = true ↔ _
  simp [and_assoc]

end

/-! ### Stray motion (R190) -/

theorem and_or_left {w : Nat} {a b c : BitVec w} (h : a &&& c = c) : (a ||| b) &&& c = c := by
  refine and_of_or (b := a) ?_ h
  rw [BitVec.or_assoc, BitVec.or_comm b a, ← BitVec.or_assoc, BitVec.or_self]

theorem presentNow_stray {s : State} (h : s.awu.stray = true) :
    s.presentNow &&& FaultKind.strayMotion.bit = FaultKind.strayMotion.bit := by
  have bits : (s.strayBits == 0) = false := by
    refine beq_eq_false_iff_ne.2 fun none => ?_
    have bit : s.strayBits.getLsbD 4 = true := by
      rw [State.strayBits, getLsbD_bitsOf (by decide), List.getElem?_append_right (by simp [s.sdc.size])]
      simp [s.sdc.size, h]
    rw [none] at bit
    cases bit
  have mark : markIf (!(s.strayBits == 0)) .strayMotion = FaultKind.strayMotion.bit := by rw [bits]; rfl
  unfold State.presentNow
  iterate 4 apply and_or_left
  rw [mark]
  exact and_of_or_left _ _

/-- The pulse of a driven motor in the words of the statement. -/
theorem awningCounted_eq (s : State) : s.awningCounted = s.modAwning (fun a => { a with motor := { s.awu.motor with
    count := if s.awu.motor.dir = some .outward then min (s.items.awn.travel + 200) (s.awu.motor.count + 1)
      else s.awu.motor.count - 1
    run := 0, tally := min 65535 (s.awu.motor.tally + 1), pulsed := true } }) := by
  simp only [State.awningCounted, State.modAwningMotor, State.modAwning, Motor.drivenPulse, pulseCount_eq]

/-- Settles O56: the pulse through its three tests, which a record that is RUNNING with no end pending decides; the tick. -/
theorem awningPulseAndTick : Obligations.AwningPulseAndTick := by
  intro s calm entries x travel counted watched pulsed
  have pulse : exec .awningHallPulse s = .next s.awningPulse.settle := rfl
  have awn : ∀ f, (s.modAwning f).Calm := fun f => calm_same calm rfl rfl rfl
  refine ⟨fun unwatched => ?_, fun watch off closed => ?_, fun watch off opened => ?_, fun sl o watch driven through timer pend run => ?_,
    fun sl o watch driven breaking timer pend run => ?_, fun amps => ?_⟩
  · exact ⟨_, pulse, by rw [awningPulse_idle unwatched]; exact follows_settle calm⟩
  · have follows := follows_settle (awn (fun a => { a with stray := true }))
    refine ⟨_, pulse, ?_⟩
    rw [awningPulse_stray watch.1 watch.2 off closed]
    refine ⟨follows, ?_⟩
    rw [follows.notices.present]
    exact presentNow_stray (by rw [follows.awning]; rfl)
  · refine ⟨_, pulse, ?_⟩
    rw [awningPulse_coast entries watch.1 watch.2 off opened]
    have same : s.modAwningMotor (Motor.coastPulse s.items.awn.travel) = s.modAwningMotor (fun y => { y with count := counted y }) := by
      simp only [State.modAwningMotor, State.modAwning, Motor.coastPulse, pulseCount_eq]; rfl
    rw [same]
    exact follows_settle (awn _)
  · intro set jog stops near fixed
    obtain ⟨ho, -, running⟩ := runningOp_some run
    have counting : s.awningCounted = s.modAwning (fun a => { a with motor := pulsed }) := awningCounted_eq s
    have at_stop : s.awningCounted.awningAtStop o = true ↔ stops := by
      rw [awningAtStop_iff (p := s.awningCounted) fixed, counting]
      exact Iff.rfl
    have at_creep : s.awningCounted.awningNear o = true ↔ ¬ jog ∧ near := by
      rw [awningNear_iff, counting, Nat.cast_ite]
      exact Iff.rfl
    have event : exec .awningHallPulse s = .next s.awningCounted.testAwningStop.testAwningCreep.settle := by
      rw [pulse, awningPulse_driven entries watch.1 watch.2 driven, testAwningBreakaway_keeps (p := s.awningCounted) (.inl timer)]
    refine ⟨fun stop => ⟨_, event, ?_⟩, fun goes keeps => ⟨_, event, ?_⟩, fun goes before slow close => ⟨_, event, ?_⟩⟩
    · rw [testAwningStop_stops (p := s.awningCounted) pend run driven (at_stop.2 stop), testAwningCreep_pending rfl, counting]
      exact follows_settle (awn _)
    · rw [testAwningStop_goes (p := s.awningCounted) run (by simpa using fun h => goes (at_stop.1 h)),
        testAwningCreep_keeps (p := s.awningCounted) pend run ?_, counting]
      · exact follows_settle (awn _)
      · refine .inr ?_
        by_cases crept : s.awu.creeping = true
        · exact .inl crept
        · refine .inr (Bool.eq_false_iff.2 fun h => ?_)
          obtain ⟨slow, close⟩ := at_creep.1 h
          rcases keeps with h | h | h
          · exact crept h
          · exact slow h
          · exact h close
    · rw [testAwningStop_goes (p := s.awningCounted) run (by simpa using fun h => goes (at_stop.1 h)),
        testAwningCreep_enters (p := s.awningCounted) pend run through before (at_creep.2 ⟨slow, close⟩),
        setAwningPace_eq (p := s.awningCounted) ho running, counting]
      exact follows_settle (calm_pace calm ho running _ _)
  · intro outward inward fixed limit target near broken phased
    obtain ⟨ho, -, running⟩ := runningOp_some run
    have counting : s.awningCounted = s.modAwning (fun a => { a with motor := pulsed }) := awningCounted_eq s
    have at_creep : s.awningCounted.awningNear o = true ↔ o.job.kind ≠ .awningJog ∧ near := by
      rw [awningNear_iff, counting]
      exact Iff.rfl
    have goes : s.awningCounted.awningAtStop o = false := by
      refine Bool.eq_false_iff.2 fun stop => ?_
      have at_stop := (awningAtStop_iff (p := s.awningCounted) fixed).1 stop
      rw [counting] at at_stop
      rcases at_stop with ⟨set, dir, reached⟩ | ⟨set, dir, value, reached⟩ | ⟨jog, dir, referenced, reached⟩
      · exact absurd (outward set dir) (Nat.not_lt.2 reached)
      · exact absurd (inward set dir value) (Nat.not_lt.2 reached)
      · exact absurd (limit jog dir referenced) (Nat.not_lt.2 reached)
    have event : exec .awningHallPulse s = .next s.awningCounted.testAwningBreakaway.testAwningStop.testAwningCreep.settle := by
      rw [pulse, awningPulse_driven entries watch.1 watch.2 driven]
    refine ⟨fun still => ⟨_, event, ?_⟩, fun again jog => ⟨_, event, ?_⟩, fun again other => ⟨fun fast => ⟨_, event, ?_⟩, fun slow => ⟨_, event, ?_⟩⟩⟩
    · have tally : s.awningCounted.awu.motor.tally < 2 := by
        show min 65535 (s.awu.motor.tally + 1) < 2
        simp only [x] at still
        omega
      rw [testAwningBreakaway_keeps (.inr tally), testAwningStop_goes (p := s.awningCounted) run goes,
        testAwningCreep_keeps (p := s.awningCounted) pend run (.inl breaking), counting]
      exact follows_settle (awn _)
    · rw [testAwningBreakaway_ends (p := s.awningCounted) timer (broken_of again), endAwningBreakaway_jog (p := s.awningCounted) pend run jog]
      have far : s.awningCounted.awningNear o = false := Bool.eq_false_iff.2 fun h => (awningNear_iff.1 h).1 jog
      have passes := awningTests_pass (p := s.awningCounted.awningBroken.modAwning (fun a => { a with
        demanded := s.awningCounted.awningProfile.creepDuty })) (o := o) pend run goes (.inr (.inr far))
      rw [passes, counting]
      exact follows_settle (awn _)
    · have pace := endAwningBreakaway_paces (p := s.awningCounted) pend run other
      have slow : (s.awningCounted.awu.creeping || s.awningCounted.awningNear o) = false :=
        Bool.or_eq_false_iff.2 ⟨Bool.eq_false_iff.2 fun h => fast (.inl h), Bool.eq_false_iff.2 fun h => fast (.inr (at_creep.1 h).2)⟩
      rw [testAwningBreakaway_ends (p := s.awningCounted) timer (broken_of again), pace, slow,
        setAwningPace_passes (p := s.awningCounted.awningBroken) pend run goes (.inr (Bool.or_eq_false_iff.1 slow).2),
        setAwningPace_eq (p := s.awningCounted.awningBroken) ho running, counting]
      exact follows_settle (calm_pace calm ho running _ _)
    · have pace := endAwningBreakaway_paces (p := s.awningCounted) pend run other
      have creeps : (s.awningCounted.awu.creeping || s.awningCounted.awningNear o) = true :=
        Bool.or_eq_true_iff.2 (slow.imp id fun close => at_creep.2 ⟨other, close⟩)
      rw [testAwningBreakaway_ends (p := s.awningCounted) timer (broken_of again), pace, creeps,
        setAwningPace_passes (p := s.awningCounted.awningBroken) pend run goes (.inl rfl),
        setAwningPace_eq (p := s.awningCounted.awningBroken) ho running, counting]
      exact follows_settle (calm_pace calm ho running _ _)
  · intro p ramped
    have tick : exec (.awningTick amps) s = .next (s.tickAwning amps).settle := rfl
    refine ⟨fun unwatched => ⟨_, tick, ?_⟩, fun watch off => ⟨_, tick, ?_⟩, fun watch driven through foot rampedOff => ⟨_, tick, ?_⟩,
      fun watch driven goes => ⟨_, tick, ?_⟩⟩
    · rw [tickAwning_idle unwatched]; exact follows_settle calm
    · rw [tickAwning_off watch.1 watch.2 off]; exact follows_settle (awn _)
    · have off : s.awningRamped = 0 := (awningRamped_eq s).trans rampedOff
      rw [tickAwning_driven watch.1 watch.2 driven]
      dsimp only
      rw [if_pos ⟨through, foot, off⟩,
        haltAwning_driven (p := s.modAwning (fun a => { a with motor := { a.motor with amps := amps }, ramped := s.awningRamped })) driven]
      exact follows_settle (awn _)
    · have same : s.awningRamped = ramped := awningRamped_eq s
      rw [tickAwning_driven watch.1 watch.2 driven]
      dsimp only
      rw [if_neg (by rw [same]; rintro ⟨through, foot, off⟩; exact goes.elim (by simp [through]) (fun h => h.elim (absurd foot) (absurd off))), same]
      exact follows_settle (awn _)

end Sys2Proof.Machine
end

section
namespace Sys2Proof.Machine

-- One declaration at a time, so that the memory the check takes stays small.
set_option Elab.async false

/-! ### A start reaches its own record alone (R32) -/

/-- What a controller's start of the operation in a slot leaves beside its own outputs: the other records, the stagger
timer, the supply state and the queue; the record itself runs or has ended. -/
structure Starts (sl : Slot) (s t : State) : Prop where
  others : ∀ k, sl ≠ k → t.opAt k = s.opAt k
  queue : sl ∉ s.sta.queue → t.sta.queue = s.sta.queue
  stagger : t.sta.stagger = s.sta.stagger
  supply : t.sta.supply = s.sta.supply
  clock : t.now = s.now
  items : t.ist = s.ist
  record : ∀ o, s.opAt sl = some o → o.resumed = false → o.state.isRunning = true ∨ o.state.isEnded = true →
    ∃ st, t.opAt sl = some { o with state := st } ∧ (st.isRunning = true ∨ st.isEnded = true)

section

variable {s t u : State} {sl : Slot}

theorem starts_still (opt : t.opt = s.opt) (sta : t.sta = s.sta) (clock : t.now = s.now) (items : t.ist = s.ist) :
    Starts sl s t :=
  ⟨fun k _ => opAt_of_opt opt k, fun _ => by rw [sta], by rw [sta], by rw [sta], clock, items,
    fun o ho _ moves => ⟨o.state, (opAt_of_opt opt sl).trans ho, moves⟩⟩

theorem Starts.refl (s : State) (sl : Slot) : Starts sl s s := starts_still rfl rfl rfl rfl

theorem Starts.trans (h : Starts sl s t) (k : Starts sl t u) : Starts sl s u := by
  refine ⟨fun x hx => (k.others x hx).trans (h.others x hx), fun fresh => ?_, k.stagger.trans h.stagger, k.supply.trans h.supply,
    k.clock.trans h.clock, k.items.trans h.items, fun o ho first moves => ?_⟩
  · have same := h.queue fresh
    rw [← same]
    exact k.queue (by rw [same]; exact fresh)
  · obtain ⟨st, at_t, still⟩ := h.record o ho first moves
    obtain ⟨st', at_u, then_⟩ := k.record _ at_t first still
    exact ⟨st', at_u, then_⟩

/-- A start goes on from a state of the same table and Arbiter. -/
theorem Starts.over {w : State} (h : Starts sl s t) (k : Starts sl u w) (opt : u.opt = t.opt := by rfl)
    (sta : u.sta = t.sta := by rfl) (clock : u.now = t.now := by rfl) (items : u.ist = t.ist := by rfl) : Starts sl s w :=
  (h.trans (starts_still opt sta clock items)).trans k

theorem Starts.peers (h : Starts sl s t) (peers : s.items.room.faultAction = .room) : t.items.room.faultAction = .room := by
  rw [State.items, h.items]
  exact peers

theorem starts_foldl {α : Type} {f : State → α → State} (step : ∀ s a, Starts sl s (f s a)) (l : List α) (s : State) :
    Starts sl s (l.foldl f s) := by
  induction l generalizing s with
  | nil => exact .refl s sl
  | cons a l ih => exact (step s a).trans (ih _)

theorem starts_reportPhase (s : State) (sl : Slot) (ph : Phase) : Starts sl s (s.reportPhase sl ph) := by
  unfold State.reportPhase
  split
  · next o ho =>
    split
    · next st running =>
      have wrote := wrote_setOp s sl { o with state := .running (some ph) }
      refine ⟨fun k hk => wrote.other hk, fun _ => rfl, rfl, rfl, rfl, rfl, fun p hp _ _ => ?_⟩
      rw [ho] at hp
      cases hp
      exact ⟨_, wrote.self, .inl rfl⟩
    · exact .refl s sl
  · exact .refl s sl

theorem starts_writeEnd {o : Op} (ho : s.opAt sl = some o) (r : Result) (rem : Option Remaining) :
    Starts sl s (s.writeEnd sl r rem) := by
  obtain ⟨c, whole⟩ := writeEnd_eq ho r rem
  have wrote := wrote_writeEnd ho r rem
  refine ⟨fun k hk => wrote.other hk, fun fresh => ?_, by rw [whole], by rw [whole], by rw [whole], by rw [whole], fun p hp first _ => ?_⟩
  · rw [whole]
    refine List.filter_eq_self.2 fun q hq => ?_
    simp only [bne_iff_ne]
    rintro rfl
    exact fresh hq
  · rw [ho] at hp
    cases hp
    refine ⟨.ended r rem (s.opt.ends + 1), ?_, .inr rfl⟩
    rw [wrote.self, ← first]

/-- With slide_fault_action ROOM an end reported reaches no other operation (R113). -/
theorem starts_reportEndWith (peers : s.items.room.faultAction = .room) (r : Result) (rem : Option Remaining) :
    Starts sl s (s.reportEndWith sl r rem) := by
  unfold State.reportEndWith
  split
  · exact .refl s sl
  · next o ho =>
    split
    · have ended := starts_writeEnd ho r rem
      have alone : (s.writeEnd sl r rem).applySlideFault sl = s.writeEnd sl r rem := by
        rw [State.applySlideFault, show (s.writeEnd sl r rem).items = s.items by rw [State.items, ended.items]; rfl, peers]
      dsimp only
      split
      · rw [alone]; exact ended
      · exact ended
    · exact .refl s sl

theorem starts_reportEnd (peers : s.items.room.faultAction = .room) (r : Result) : Starts sl s (s.reportEnd sl r) := by
  unfold State.reportEnd
  split
  · exact .refl s sl
  · exact starts_reportEndWith peers r _

theorem starts_windDownJacks (peers : s.items.room.faultAction = .room) (r : Result) : Starts sl s (s.windDownJacks sl r) := by
  let v : State := { s with lvc := { s.lvc.standDown with pend := some r } }
  have stands : Starts sl s v := starts_still rfl rfl rfl rfl
  have reports : Starts sl v (v.reportJacks sl r) := by
    unfold State.reportJacks
    split
    · exact .refl v sl
    · next o _ =>
      refine (starts_reportEnd (s := v) peers r).trans ?_
      rw [unloadedNotice_frame]
      exact starts_still rfl rfl rfl rfl
  unfold State.windDownJacks
  dsimp only
  split
  · exact stands.trans reports
  · exact stands

theorem starts_beginSettle (s : State) (sl : Slot) : Starts sl s (s.beginSettle sl) :=
  (starts_reportPhase s sl .settle).trans (starts_still rfl rfl rfl rfl)

theorem starts_beginGround (s : State) (sl : Slot) : Starts sl s (s.beginGround sl) := by
  have opens : ∀ t : State, Starts sl t (t.items.jacks.foldl (fun s j =>
      s.modJack j (fun u => { u with goal := u.contact, extending := !u.contact, waiting := false })) t) :=
    fun t => by
      refine starts_foldl (fun u j => ?_) _ t
      exact starts_still rfl rfl rfl rfl
  unfold State.beginGround
  dsimp only
  split
  · exact ((starts_reportPhase s sl .ground).over (opens _)).trans (starts_beginSettle _ sl)
  · exact (starts_reportPhase s sl .ground).over (opens _)

theorem starts_startStow (peers : s.items.room.faultAction = .room) : Starts sl s (s.startStow sl) := by
  have opens : ∀ t : State, Starts sl t (t.items.jacks.foldl (fun s j =>
      if s.shut (.jackUp j) then s else s.modJack j (fun u => { u with retracting := true })) t) :=
    fun t => by
      refine starts_foldl (fun u j => ?_) _ t
      split
      · exact .refl u sl
      · exact starts_still rfl rfl rfl rfl
  have moves := (starts_reportPhase s sl .move).trans (opens _)
  unfold State.startStow
  dsimp only
  split
  · exact (moves.trans (starts_still rfl rfl rfl rfl)).trans (starts_windDownJacks (moves.peers peers) _)
  · exact moves.trans (starts_still rfl rfl rfl rfl)

theorem starts_startJackJog (s : State) (sl : Slot) (j : Job) : Starts sl s (s.startJackJog sl j) := by
  refine (starts_reportPhase s sl .move).trans ?_
  unfold State.startJackJog
  dsimp only
  split
  · exact starts_still rfl rfl rfl rfl
  · exact starts_still rfl rfl rfl rfl

theorem starts_startJacks (peers : s.items.room.faultAction = .room) (o : Op) (resumed : Bool) :
    Starts sl s (s.startJacks sl o resumed) := by
  let v : State := { s with lvc := { s.lvc with levelled := false } }
  have begun : Starts sl s v := starts_still rfl rfl rfl rfl
  unfold State.startJacks
  dsimp only
  split
  · exact begun.trans (starts_reportEnd (s := v) peers _)
  · split
    · exact begun.trans (starts_reportEnd (s := v) peers _)
    · split
      · split
        · exact begun.trans (starts_beginSettle v sl)
        · exact begun.trans (starts_beginGround v sl)
      · exact begun.trans (starts_beginGround v sl)
      · exact begun.trans (starts_startStow (s := v) peers)
      · exact begun.trans (starts_startJackJog v sl _)

theorem starts_startMotors (s : State) (n : Room) (sl : Slot) (j : Job) (resumed : Bool) (which : List MotorId) :
    Starts sl s (s.startMotors n sl j resumed which) := by
  have motors : Starts sl s (which.foldl (fun t m =>
      t.modRoomMotor n m (Motor.start j.roomDir s.roomProfile.breakawayDuty false)) s) := by
    refine starts_foldl (fun u m => ?_) which s
    exact starts_still rfl rfl rfl rfl
  exact motors.over (starts_reportPhase _ sl _)

theorem starts_startRoom (peers : s.items.room.faultAction = .room) (n : Room) (o : Op) (resumed : Bool) :
    Starts sl s (s.startRoom n sl o resumed) := by
  unfold State.startRoom
  dsimp only
  split
  · exact starts_reportEndWith peers _ _
  · split
    · split
      · exact starts_reportEnd peers _
      · exact starts_startMotors s n sl _ _ _
    · exact starts_startMotors s n sl _ _ _

theorem starts_startAwning (peers : s.items.room.faultAction = .room) (o : Op) (resumed : Bool) :
    Starts sl s (s.startAwning sl o resumed) := by
  have fixed : Starts sl s (if resumed then s.fixAwning o.job else s) := by
    split
    · rw [fixAwning_eq]
      exact starts_still rfl rfl rfl rfl
    · exact .refl s sl
  unfold State.startAwning
  split
  · exact starts_reportEndWith peers _ _
  · refine fixed.trans ?_
    have same := fixed.peers peers
    generalize (if resumed then s.fixAwning o.job else s) = v at same
    dsimp only
    split
    · exact starts_reportEnd same _
    · exact (Starts.refl v sl).over (starts_reportPhase _ sl _)

theorem starts_startOp (peers : s.items.room.faultAction = .room) (o : Op) : Starts sl s (s.startOp sl o) := by
  unfold State.startOp
  split
  · exact starts_startJacks peers o _
  · exact starts_startRoom peers _ o _
  · exact starts_startAwning peers o _

end

end Sys2Proof.Machine
end

section
namespace Sys2Proof.Machine

-- One declaration at a time, so that the memory the check takes stays small.
set_option Elab.async false

/-! ### The examination, record by record (R30 to R34) -/

section

variable {u : State} {q k : Slot} {w : WaitReason} {p : Op}

theorem setWait_opt (u : State) (q : Slot) (w : WaitReason) : u.setWait q w = { u with opt := (u.setWait q w).opt } := by
  unfold State.setWait
  split
  · split <;> rfl
  · rfl

theorem setWait_other (u : State) (w : WaitReason) (apart : q ≠ k) : (u.setWait q w).opAt k = u.opAt k := by
  unfold State.setWait
  split
  · split
    · exact (wrote_setOp u q _).other apart
    · rfl
  · rfl

/-- A wait reason written leaves a waiting record waiting, and its other fields. -/
theorem setWait_waits (q : Slot) (w : WaitReason) (hp : u.opAt k = some p) (waiting : p.state.isAdmitted = true) :
    ∃ v, (u.setWait q w).opAt k = some { p with state := .admitted v } := by
  by_cases e : q = k
  · subst e
    rw [setWait_opAt hp waiting]
    exact ⟨w, (wrote_setOp u q _).self⟩
  · rw [setWait_other u w e, hp]
    cases state : p.state with
    | admitted v => exact ⟨v, by rw [← state]⟩
    | _ => rw [state] at waiting; cases waiting

theorem setWaits_waits (l : List Slot) (hp : u.opAt k = some p) (waiting : p.state.isAdmitted = true) :
    ∃ v, (l.foldl (fun t q => t.setWait q .queue) u).opAt k = some { p with state := .admitted v } := by
  induction l generalizing u p with
  | nil =>
    cases state : p.state with
    | admitted v => exact ⟨v, by rw [← state]; exact hp⟩
    | _ => rw [state] at waiting; cases waiting
  | cons q l ih =>
    obtain ⟨v, written⟩ := setWait_waits q .queue hp waiting
    exact ih (u := u.setWait q .queue) (p := { p with state := .admitted v }) written rfl

theorem setWaits_other (l : List Slot) (outside : k ∉ l) : (l.foldl (fun t q => t.setWait q .queue) u).opAt k = u.opAt k := by
  induction l generalizing u with
  | nil => rfl
  | cons q l ih =>
    rw [List.mem_cons, not_or] at outside
    exact (ih outside.2).trans (setWait_other u .queue (Ne.symm outside.1))

end

/-- What the examination leaves but for the head's wait (`Examined.head`) and the bound on the grants. -/
structure Granting (u t : State) : Prop where
  grants : ∃ granted, u.sta.queue = granted ++ t.sta.queue
    ∧ (granted ≠ [] ↔ ∃ sl o, u.sta.queue.head? = some sl ∧ u.opAt sl = some o ∧ u.blockedBy o = none)
    ∧ (u.items.supply.staggerTime ≠ 0 → granted.length ≤ 1)
    ∧ (∀ sl ∈ granted, ∃ o st, u.opAt sl = some o ∧ t.opAt sl = some { o with state := st, resumed := false }
        ∧ (st.isRunning = true ∨ st.isEnded = true))
    ∧ t.sta.stagger = if granted = [] ∨ u.items.supply.staggerTime = 0 then u.sta.stagger
        else some (u.now + u.items.supply.staggerTime)
  waiting : ∀ sl ∈ t.sta.queue, ∃ o w, u.opAt sl = some o ∧ t.opAt sl = some { o with state := .admitted w }
  others : ∀ sl, sl ∉ u.sta.queue → t.opAt sl = u.opAt sl
  items : t.ist = u.ist
  supply : t.sta.supply = u.sta.supply

section

variable {u : State} {sl : Slot} {behind : List Slot} {o : Op}

/-- A head that fails a test: nothing is granted. -/
theorem granting_blocked {w : WaitReason} (queue : u.sta.queue = sl :: behind) (ho : u.opAt sl = some o)
    (waits : ∀ k ∈ u.sta.queue, ∃ p, u.opAt k = some p ∧ p.state.isAdmitted = true) (blocked : u.blockedBy o = some w) :
    Granting u (behind.foldl (fun t q => t.setWait q .queue) (u.setWait sl w)) := by
  have frame : behind.foldl (fun t q => t.setWait q .queue) (u.setWait sl w)
      = { u with opt := (behind.foldl (fun t q => t.setWait q .queue) (u.setWait sl w)).opt } := by
    rw [setWaits_frame, setWait_opt]
  have sta : (behind.foldl (fun t q => t.setWait q .queue) (u.setWait sl w)).sta = u.sta := by rw [frame]
  refine ⟨⟨[], by rw [sta]; rfl, ?_, by simp, by simp, by simp [sta]⟩, fun k hk => ?_, fun k outside => ?_, by rw [frame], by rw [sta]⟩
  · refine ⟨fun h => absurd rfl h, ?_⟩
    rintro ⟨k, p, head, hp, passes⟩
    rw [queue, List.head?_cons] at head
    cases head
    rw [ho] at hp
    cases hp
    rw [blocked] at passes
    cases passes
  · rw [sta] at hk
    obtain ⟨p, hp, waiting⟩ := waits k hk
    obtain ⟨v, written⟩ := setWait_waits sl w hp waiting
    obtain ⟨x, after⟩ := setWaits_waits behind written rfl
    exact ⟨p, x, hp, after⟩
  · rw [queue, List.mem_cons, not_or] at outside
    rw [setWaits_other behind outside.2, setWait_other u w (Ne.symm outside.1)]

/-- The grant of the head, with no clearance entry enabled and slide_fault_action ROOM. -/
theorem starts_grant (off : u.entriesOff) (peers : u.items.room.faultAction = .room) (o : Op) :
    Starts sl (u.grantRecord sl o) (u.grant sl o) := by
  rw [grant_off off]
  exact starts_startOp (s := u.grantRecord sl o) peers o

/-- Behind the head no operation of class SAFETY waits: the stow is the only one, and stands ahead (R29). -/
theorem behind_normal (ledger : u.Ledger) (queue : u.sta.queue = sl :: behind) {k : Slot} {p : Op} (mem : k ∈ behind)
    (hp : u.opAt k = some p) : p.opClass = .normal := by
  by_contra safe
  have safety : ∀ x : Op, x.opClass ≠ .normal → x.opClass = .safety := fun x h => by
    cases c : x.opClass with
    | normal => exact absurd c h
    | safety => rfl
  obtain ⟨o, ho, waits⟩ := (ledger.queue.2 sl).1 (by rw [queue]; exact List.mem_cons_self)
  obtain ⟨q, hq, queued⟩ := (ledger.queue.2 k).1 (by rw [queue]; exact List.mem_cons_of_mem _ mem)
  rw [hp] at hq
  cases hq
  have order := ledger.order
  rw [queue, List.pairwise_cons] at order
  have ahead := order.1 k mem o p ho hp (safety p safe)
  have awning : ∀ (j : Slot) (x : Op), u.opAt j = some x → x.opClass = .safety → x.job.group = .awning := by
    intro j x hx c
    have fits := ledger.kinds j x hx
    rw [safety_iff.1 c] at fits
    cases group : x.job.group with
    | awning => rfl
    | _ => rw [group] at fits; cases fits
  have same := ledger.groups sl k o ho p hp (admitted_notEnded waits) (admitted_notEnded queued)
    ((awning sl o ho ahead).trans (awning k p hp (safety p safe)).symm)
  have once := ledger.queue.1
  rw [queue, List.nodup_cons] at once
  exact once.1 (same ▸ mem)

theorem granting_idle (empty : u.sta.queue = []) : Granting u u := by
  refine ⟨⟨[], rfl, ⟨fun h => absurd rfl h, ?_⟩, by simp, by simp, by simp⟩, by simp [empty], fun _ _ => rfl, rfl, rfl⟩
  rintro ⟨k, p, head, -⟩
  rw [empty] at head
  cases head

/-- A head that passes is granted, and what follows is the examination behind it. -/
theorem granting_grant {x : State} (ledger : u.Ledger) (off : u.entriesOff) (peers : u.items.room.faultAction = .room)
    (queue : u.sta.queue = sl :: behind) (ho : u.opAt sl = some o) (passes : u.blockedBy o = none)
    (rest : Granting (u.grant sl o) x) : Granting u x := by
  have once := ledger.queue.1
  rw [queue, List.nodup_cons] at once
  have start := starts_grant (sl := sl) off peers o
  have written := wrote_grantRecord u sl o
  have sta := grantRecord_sta (o := o) queue once.1
  obtain ⟨st, at_sl, runs⟩ := start.record o.started written.self rfl (.inl rfl)
  have apart : ∀ k, sl ≠ k → (u.grant sl o).opAt k = u.opAt k := fun k hk => (start.others k hk).trans (written.other hk)
  have left : (u.grant sl o).sta.queue = behind := by
    rw [start.queue (by rw [sta, queue]; exact once.1), sta, queue]; rfl
  have timer : (u.grant sl o).sta.stagger
      = if u.items.supply.staggerTime = 0 then u.sta.stagger else some (u.now + u.items.supply.staggerTime) := by
    rw [start.stagger, sta]
  have clock : (u.grant sl o).now = u.now := start.clock
  have items : (u.grant sl o).items = u.items := by rw [State.items, start.items]; rfl
  obtain ⟨granted, split, some_more, few, records, later⟩ := rest.grants
  rw [items] at few later
  have more : u.items.supply.staggerTime ≠ 0 → granted = [] := by
    intro long
    by_contra further
    obtain ⟨k, p, head, hp, second⟩ := some_more.1 further
    have mem : k ∈ behind := by rw [← left]; exact List.mem_of_mem_head? head
    have differ : sl ≠ k := by rintro rfl; exact once.1 mem
    rw [apart k differ] at hp
    obtain ⟨-, -, stagger, -⟩ := blockedBy_none second
    rw [State.staggerAllows, behind_normal ledger queue mem hp, timer, if_neg long] at stagger
    cases stagger
  refine ⟨⟨sl :: granted, ?_, ?_, fun long => ?_, fun k hk => ?_, ?_⟩, fun k hk => ?_, fun k outside => ?_, ?_, ?_⟩
  · rw [queue, ← left, split]; rfl
  · exact ⟨fun _ => ⟨sl, o, by rw [queue]; rfl, ho, passes⟩, fun _ => List.cons_ne_nil _ _⟩
  · rw [more long]; exact le_rfl
  · rcases List.mem_cons.1 hk with rfl | hk
    · refine ⟨o, st, ho, ?_, runs⟩
      rw [rest.others k (by rw [left]; exact once.1)]
      exact at_sl
    · obtain ⟨p, st', hp, after, moves⟩ := records k hk
      have mem : k ∈ behind := by rw [← left, split]; exact List.mem_append_left _ hk
      rw [apart k (by rintro rfl; exact once.1 mem)] at hp
      exact ⟨p, st', hp, after, moves⟩
  · rw [later, timer, clock]
    by_cases zero : u.items.supply.staggerTime = 0
    · simp [zero]
    · simp [zero]
  · obtain ⟨p, w, hp, after⟩ := rest.waiting k hk
    have mem : k ∈ behind := by rw [← left, split]; exact List.mem_append_right _ hk
    rw [apart k (by rintro rfl; exact once.1 mem)] at hp
    exact ⟨p, w, hp, after⟩
  · rw [queue, List.mem_cons, not_or] at outside
    rw [rest.others k (by rw [left]; exact outside.2), apart k (Ne.symm outside.1)]
  · rw [rest.items, start.items]; rfl
  · rw [rest.supply, start.supply, sta]

theorem granting_examine (n : Nat) {u : State} (ledger : u.Ledger) (off : u.entriesOff) (peers : u.items.room.faultAction = .room)
    (fuel : u.sta.queue.length ≤ n) : Granting u (u.examine n) := by
  induction n generalizing u with
  | zero => exact granting_idle (List.length_eq_zero_iff.1 (Nat.le_zero.1 fuel))
  | succ n ih =>
    unfold State.examine
    split
    · next empty => exact granting_idle empty
    · next sl behind queue =>
      have waits : ∀ k ∈ u.sta.queue, ∃ p, u.opAt k = some p ∧ p.state.isAdmitted = true := fun k hk => (ledger.queue.2 k).1 hk
      obtain ⟨o, ho, waiting⟩ := waits sl (by rw [queue]; exact List.mem_cons_self)
      rw [ho]
      simp only [waiting, Bool.not_true, Bool.false_eq_true, if_false]
      split
      · next passes =>
        have acts := acts_grant ho waiting passes
        have same : (u.grant sl o).items = u.items := acts.items
        refine granting_grant ledger off peers queue ho passes (ih (acts.ledger ledger) (entriesOff_of_items off same) ?_ ?_)
        · rw [same]; exact peers
        · have shorter := grant_shorter o queue
          rw [queue, List.length_cons] at fuel
          omega
      · next w blocked => exact granting_blocked queue ho waits blocked

end

/-! ### The examination at the end of an event -/

/-- The end of an event with the books kept and nothing but the queue to judge (R30). -/
theorem settle_leaves {u : State} (ledger : u.Ledger) (plain : u.Plain) : Examined u u.settle := by
  obtain ⟨e, -, ends⟩ := settle_examines plain.toUndisturbed
  have off : (u.withEntries e).entriesOff := plain.entries
  have law : (u.withEntries e).Ledger := ledger.congr rfl rfl rfl rfl rfl ledger.budget
  have granting : Granting (u.withEntries e) (u.withEntries e).examineQueue := granting_examine _ law off plain.peers le_rfl
  have waits : (u.withEntries e).examineQueue.headWaits := headWaits_examineQueue law
  have follows := ends (.inl (entriesOff_of_items off (by rw [State.items, granting.items]; rfl)))
  have same : ∀ k, u.settle.opAt k = (u.withEntries e).examineQueue.opAt k := opAt_of_opt follows.table
  refine ⟨?_, headWaits_congr waits follows.table follows.arbiter ?_, ?_, fun k outside => (same k).trans (granting.others k outside)⟩
  · obtain ⟨granted, split, some_more, few, records, timer⟩ := granting.grants
    refine ⟨granted, ?_, some_more, few, fun k hk => ?_, ?_⟩
    · rw [follows.arbiter]; exact split
    · rw [same]; exact records k hk
    · rw [follows.arbiter]; exact timer
  · rw [State.items, State.items, follows.items]
  · rw [follows.arbiter]
    intro k hk
    rw [same]
    exact granting.waiting k hk

end Sys2Proof.Machine
end

section
namespace Sys2Proof.Machine

-- One declaration at a time, so that the memory the check takes stays small.
set_option Elab.async false

/-! ### A category raised stays raised while operations end and are held -/

/-- Both change sets hold a category. -/
def State.raised (s : State) (c : Category) : Prop :=
  s.ntu.coach.cats &&& c.bit = c.bit ∧ s.ntu.service.cats &&& c.bit = c.bit

section

variable {s t : State} {sl : Slot} {o : Op} {c : Category}

theorem raised_of (h : s.raised c) (ntu : t.ntu = s.ntu) : t.raised c := by
  unfold State.raised
  rw [ntu]
  exact h

theorem raised_raise (s : State) (c : Category) : (s.raise c).raised c := ⟨raise_has _ c, raise_has _ c⟩

theorem noteTag_cats (x : ChangeSet) (tag : Nat) : (x.noteTag tag).cats = x.cats ||| Category.ops.bit := by
  unfold ChangeSet.noteTag
  dsimp only
  split
  · rfl
  · split <;> rfl

theorem raised_noteTag (h : s.raised c) (tag : Nat) : (s.noteTag tag).raised c := by
  have coach : (s.noteTag tag).ntu.coach.cats = s.ntu.coach.cats ||| Category.ops.bit := noteTag_cats _ tag
  have service : (s.noteTag tag).ntu.service.cats = s.ntu.service.cats ||| Category.ops.bit := noteTag_cats _ tag
  unfold State.raised
  rw [coach, service]
  exact ⟨and_or_left h.1, and_or_left h.2⟩

theorem raised_writeEnd (ho : s.opAt sl = some o) (h : s.raised c) (r : Result) (rem : Option Remaining) :
    (s.writeEnd sl r rem).raised c := by
  obtain ⟨x, whole⟩ := writeEnd_eq ho r rem
  exact raised_of (raised_noteTag h o.tag) (by rw [whole])

theorem raised_endOp (h : s.raised c) (sl : Slot) (r : Result) : (s.endOp sl r).raised c := by
  unfold State.endOp
  split
  · exact h
  · next o ho => exact raised_writeEnd ho h r _

theorem raised_moveHeld (h : s.raised c) (sl : Slot) (x : HoldReason) : (s.moveHeld sl x).raised c := by
  cases ho : s.opAt sl with
  | none => simpa only [State.moveHeld, ho] using h
  | some o =>
    obtain ⟨x, whole⟩ := moveHeld_eq ho x
    exact raised_of (raised_noteTag h o.tag) (by rw [whole])

theorem raised_motionCeased (h : s.raised c) (sl : Slot) : (s.motionCeased sl).raised c := by
  unfold State.motionCeased
  split
  · exact h
  · split
    · exact raised_endOp h sl _
    · exact raised_moveHeld h sl _
    · exact h

theorem raised_stopToward (h : s.raised c) (sl : Slot) (d : Dest) : (s.stopToward sl d).raised c := by
  unfold State.stopToward
  split
  · exact h
  · next o _ =>
    split
    · next ph _ =>
      have ramps : ((s.setOp sl { o with state := .stopping d ph }).rampGroup o.job.group).raised c :=
        raised_of h (by rw [rampGroup_frame]; rfl)
      dsimp only
      split
      · exact raised_motionCeased ramps sl
      · exact ramps
    · exact h

theorem raised_holdOp (h : s.raised c) (sl : Slot) (x : HoldReason) : (s.holdOp sl x).raised c := by
  unfold State.holdOp
  split
  · exact h
  · split
    · exact h
    · split
      · exact raised_moveHeld h sl x
      · exact raised_stopToward h sl _
      · exact h

theorem raised_endNow (h : s.raised c) (sl : Slot) (r : Result) : (s.endNow sl r).raised c := by
  cases ho : s.opAt sl with
  | none => simpa only [State.endNow, ho] using h
  | some o =>
    cases hx : o.state.immediate r with
    | none => simpa only [State.endNow, ho, hx] using h
    | some x =>
      rw [endNow_eq ho hx]
      exact raised_writeEnd ((shed_opAt s o sl).trans ho) (raised_of h (by rw [shed_frame])) x _

theorem raised_holdAll (h : s.raised c) (p : Op → Bool) (x : HoldReason) : (s.holdAll p x).raised c :=
  eachOp_invariant (I := fun u => u.raised c) (fun _ sl _ hu _ _ => raised_holdOp hu sl x) h

theorem raised_endAll (h : s.raised c) (p : Op → Bool) (r : Result) : (s.endAll p r).raised c :=
  eachOp_invariant (I := fun u => u.raised c) (fun _ sl _ hu _ _ => raised_endNow hu sl r) h

/-! ### What a hold of many and an end of many leave of the Arbiter and the table -/

theorem endNow_sta (s : State) (sl : Slot) (r : Result) : (s.endNow sl r).sta
    = { s.sta with queue := (s.endNow sl r).sta.queue, resSum := (s.endNow sl r).sta.resSum
                   normalSum := (s.endNow sl r).sta.normalSum } := by
  cases ho : s.opAt sl with
  | none => simp only [State.endNow, ho]
  | some o =>
    cases hx : o.state.immediate r with
    | none => simp only [State.endNow, ho, hx]
    | some x =>
      rw [endNow_eq ho hx]
      obtain ⟨y, whole⟩ := writeEnd_eq ((shed_opAt s o sl).trans ho) x (s.remainingOf o)
      have sta : (s.shed o).sta = s.sta := by rw [shed_frame]
      rw [whole, sta]

theorem endAll_sta (s : State) (p : Op → Bool) (r : Result) : (s.endAll p r).sta
    = { s.sta with queue := (s.endAll p r).sta.queue, resSum := (s.endAll p r).sta.resSum
                   normalSum := (s.endAll p r).sta.normalSum } :=
  eachOp_invariant (I := fun u => u.sta = { s.sta with queue := u.sta.queue, resSum := u.sta.resSum, normalSum := u.sta.normalSum })
    (fun u sl _ hu _ _ => by
      rw [endNow_sta u sl r]
      generalize (u.endNow sl r).sta.queue = q
      rw [hu]) rfl

theorem moveHeld_opt (s : State) (sl : Slot) (x : HoldReason) : (s.moveHeld sl x).opt
    = { s.opt with slots := (s.moveHeld sl x).opt.slots } := by
  cases ho : s.opAt sl with
  | none => simp only [State.moveHeld, ho]
  | some o =>
    obtain ⟨c, whole⟩ := moveHeld_eq ho x
    rw [whole]

theorem holdOp_opt (s : State) (sl : Slot) (x : HoldReason) : (s.holdOp sl x).opt
    = { s.opt with slots := (s.holdOp sl x).opt.slots } := by
  unfold State.holdOp
  split
  · rfl
  · next o ho =>
    split
    · rfl
    · split
      · exact moveHeld_opt s sl x
      · next ph running =>
        have frame := rampGroup_frame (s.setOp sl { o with state := .stopping (.held x) ph }) o.job.group
        have stopped : ((s.setOp sl { o with state := .stopping (.held x) ph }).rampGroup o.job.group).opAt sl
            = some { o with state := .stopping (.held x) ph } := by
          rw [frame]; exact (wrote_setOp s sl _).self
        have opt : ((s.setOp sl { o with state := .stopping (.held x) ph }).rampGroup o.job.group).opt
            = (s.setOp sl { o with state := .stopping (.held x) ph }).opt := by rw [frame]
        simp only [State.stopToward, ho, running, State.motionCeased, stopped]
        split
        · rw [moveHeld_opt, opt]; rfl
        · rw [opt]; rfl
      · rfl

/-- A hold ends nothing and admits nothing. -/
theorem holdAll_lists (s : State) (p : Op → Bool) (x : HoldReason) :
    (s.holdAll p x).opt = { s.opt with slots := (s.holdAll p x).opt.slots } :=
  eachOp_invariant (I := fun u => u.opt = { s.opt with slots := u.opt.slots })
    (fun u sl _ hu _ _ => by
      rw [holdOp_opt u sl x]
      generalize (u.holdOp sl x).opt.slots = b
      rw [hu]) rfl

theorem holdLeaves_still {after : Op} {x : HoldReason} (normal : o.opClass = .normal) (h : s.HoldLeaves o x after) :
    after.state.isRunning = false ∧ after.state.isAdmitted = false ∧ after.job = o.job := by
  unfold State.HoldLeaves at h
  rw [if_neg (by simp [normal])] at h
  split at h
  · rw [h]; exact ⟨rfl, rfl, rfl⟩
  · split at h
    · rw [h]; exact ⟨rfl, rfl, rfl⟩
    · rw [h]; exact ⟨rfl, rfl, rfl⟩
  · next idle moves => 
    rw [h]
    cases state : o.state with
    | admitted w => exact absurd state (idle w)
    | running ph => exact absurd state (moves ph)
    | _ => exact ⟨rfl, rfl, rfl⟩

end

end Sys2Proof.Machine
end

section
namespace Sys2Proof.Machine

-- One declaration at a time, so that the memory the check takes stays small.
set_option Elab.async false

/-! ### A table after a hold of many (R20) -/

section

variable {s t : State} {p : Op → Bool} {x : HoldReason}

theorem safety_of {o : Op} (h : o.opClass ≠ .normal) : o.opClass = .safety := by
  cases c : o.opClass with
  | normal => exact absurd c h
  | safety => rfl

/-- A record after the holds is one that they do not reach, or neither runs nor waits. -/
theorem held_origin (records : s.eachRecord t p (fun o after => s.HoldLeaves o x after)) {sl : Slot} {q : Op}
    (hq : t.opAt sl = some q) : (s.opAt sl = some q ∧ (p q = false ∨ q.opClass = .safety))
      ∨ q.state.isRunning = false ∧ q.state.isAdmitted = false := by
  cases ho : s.opAt sl with
  | none => rw [(records sl).1 ho] at hq; cases hq
  | some o =>
    cases named : p o with
    | false =>
      rw [((records sl).2 o ho).1 named] at hq
      cases hq
      exact .inl ⟨rfl, .inl named⟩
    | true =>
      obtain ⟨after, at_sl, leaves⟩ := ((records sl).2 o ho).2 named
      rw [at_sl] at hq
      cases hq
      by_cases normal : o.opClass = .normal
      · obtain ⟨still, idle, -⟩ := holdLeaves_still normal leaves
        exact .inr ⟨still, idle⟩
      · rw [State.HoldLeaves, if_pos (safety_of normal)] at leaves
        rw [leaves]
        exact .inl ⟨rfl, .inr (safety_of normal)⟩

theorem undisturbed_held (h : s.Undisturbed) (items : t.ist = s.ist) (inputs : t.inm.inputs = s.inm.inputs)
    (records : s.eachRecord t p (fun o after => s.HoldLeaves o x after)) : t.Undisturbed :=
  undisturbed_of h items inputs fun sl q hq running => by
    rcases held_origin records hq with ⟨before, -⟩ | ⟨still, -⟩
    · exact ⟨sl, q, before, running, rfl⟩
    · rw [still] at running; cases running

theorem held_noneWaiting (records : s.eachRecord t p (fun o after => s.HoldLeaves o x after))
    (waiting : ∀ sl o, s.opAt sl = some o → o.state.isAdmitted = true → p o = true ∧ o.opClass = .normal) : t.noneWaiting := by
  intro sl q hq
  rcases held_origin records hq with ⟨before, spared⟩ | ⟨-, idle⟩
  · by_contra admitted
    obtain ⟨named, normal⟩ := waiting sl q before (Bool.not_eq_false _ ▸ admitted)
    rw [named, normal] at spared
    simp at spared
  · exact idle

end

/-! ### The hold timer and the watchdog (R20, R36, R180) -/

theorem followSupply_eq (s : State) (first : Bool) : s.followSupply first =
    if s.sta.flags.state = s.sta.supply then s
    else (if first then { s with sta := { s.sta with supply := s.sta.flags.state } }
      else ({ s with sta := { s.sta with supply := s.sta.flags.state } } : State).raise .supply).enterSupply s.sta.flags.state := by
  unfold State.followSupply
  by_cases same : s.sta.flags.state = s.sta.supply
  · simp [same]
  · simp [same]

theorem presentNow_watchdog {s : State} (h : s.liu.silent = true) :
    s.presentNow &&& FaultKind.watchdog.bit = FaultKind.watchdog.bit := by
  unfold State.presentNow
  iterate 11 apply and_or_left
  rw [h]
  rfl

/-- WATCHDOG_EXPIRY without a stow (R180). -/
theorem watchdog_holds {s : State} (undisturbed : s.Undisturbed)
    (waiting : ∀ sl o, s.opAt sl = some o → o.state.isAdmitted = true → o.job.origin = .link ∧ o.opClass = .normal) :
    let u : State := { s with liu := { s.liu with watchdog := none, silent := true } }
    let v := u.holdAll (fun o => o.job.origin == .link) .linkSilent
    v.Calm ∧ s.eachRecord v (fun o => o.job.origin == .link) (fun o after => s.HoldLeaves o .linkSilent after) ∧ Eased u v
      ∧ v.opt = { s.opt with slots := v.opt.slots } ∧ v.liu = { s.liu with watchdog := none, silent := true, claims := v.liu.claims } := by
  intro u v
  have records : s.eachRecord v (fun o => o.job.origin == .link) (fun o after => s.HoldLeaves o .linkSilent after) :=
    holdAll_records u _ _
  have eased : Eased u v := eased_holdAll u _ _
  have links : v.liu = { u.liu with claims := v.liu.claims } := eased.blocks.1 .links (by decide)
  have items : v.ist = s.ist := eased.blocks.1 .items (by decide)
  have inputs : v.inm.inputs = s.inm.inputs := congrArg (·.inputs) (eased.blocks.1 .inputs (by decide) : v.inm = _)
  refine ⟨⟨undisturbed_held undisturbed items inputs records, held_noneWaiting records fun sl o ho admitted => ?_⟩,
    records, eased, holdAll_lists u _ _, links⟩
  obtain ⟨link, normal⟩ := waiting sl o ho admitted
  exact ⟨by simp [link], normal⟩

end Sys2Proof.Machine
end

section
namespace Sys2Proof.Machine

-- One declaration at a time, so that the memory the check takes stays small.
set_option Elab.async false

/-! ### The misfit in a supersede

R22's supersede ends the awning's operation; where that is a record of kind LEVEL in STOPPING toward COMPLETE, its end sets
LEVELLED (R61), so that the jacks' block moves too. -/

/-- A part after start-up on its own items, with E-stop normal and the awning not home, the misfit ramping down in slot 0,
and a gate about to end with a gust. -/
def misfitGust : State :=
  { State.reset.setOp 0 (misfit .awning) with
    wind := { State.reset.wind with gateCount := 2000, gateTimer := some 0 }
    inm := { Inm.reset with
      notReady := false
      inputs := Inm.reset.inputs.modify 3 (fun u => { u with debounced := some .closed, firstDone := true }) }
    ist := { State.reset.ist with source := .image } }

theorem misfitGust_due : misfitGust.stowDue = true ∧ misfitGust.busySlot .awning = some 0 := by decide +kernel

theorem misfitGust_levelled : misfitGust.lvc.levelled = false ∧ levelledAfter misfitGust .windGateEnd = true := by
  decide +kernel

theorem misfitGust_undisturbed : misfitGust.Undisturbed := ⟨.inl (by decide +kernel), .inr (by decide +kernel)⟩

/-- Refutes O58: the stow supersedes a record of kind LEVEL that was headed for COMPLETE, which sets LEVELLED. -/
theorem not_windGatesJudge : ¬ Obligations.WindGatesJudge := by
  intro h
  obtain ⟨-, -, -, -, gate, -⟩ := h misfitGust
  obtain ⟨-, -, -, supersedes, -⟩ := gate rfl
  obtain ⟨t, st, event, -, -, -, -, -, -, -, -, -, -, -, kept⟩ := supersedes 0 (misfit .awning) 1 misfitGust_undisturbed
    (by decide +kernel) rfl misfitGust_due.1 misfitGust_due.2 (by decide +kernel) (by decide +kernel) (by decide +kernel)
    (by decide +kernel) (by decide +kernel)
  exact jacks_move event misfitGust_levelled (by decide) kept

end Sys2Proof.Machine
end

section
namespace Sys2Proof.Machine

-- One declaration at a time, so that the memory the check takes stays small.
set_option Elab.async false

/-! ### The supply monitor (R35 to R41) -/

/-- A sample judged: the filtered voltage, the flags and the hold timer follow. -/
def State.supplyJudged (s : State) (v : Nat) : State :=
  let window := pushSample s.sta.samples v
  { s with sta := { s.sta with
      samples := window, filtered := some (filterVoltage window)
      flags := evalFlags s.items.supply (filterVoltage window) s.sta.flags
      holdTimer := evalHoldTimer s.items.supply (filterVoltage window) s.now s.sta.flags s.sta.holdTimer } }

/-- The supply state entered, and told where it is not the first one judged (R35, R37). -/
def State.supplyEntered (s : State) (first : Bool) (x : SupplyState) : State :=
  if first then { s with sta := { s.sta with supply := x } } else ({ s with sta := { s.sta with supply := x } } : State).raise .supply

theorem sampleSupply_short {s : State} {v : Nat} (short : (pushSample s.sta.samples v).length < 8) :
    s.sampleSupply v = { s with sta := { s.sta with samples := pushSample s.sta.samples v } } := by
  rw [State.sampleSupply]
  exact if_pos short

theorem sampleSupply_full {s : State} {v : Nat} (full : ¬ (pushSample s.sta.samples v).length < 8) :
    s.sampleSupply v =
      let w := s.supplyJudged v
      if w.sta.flags.state = s.sta.supply then w
      else (w.supplyEntered s.sta.filtered.isNone w.sta.flags.state).enterSupply w.sta.flags.state := by
  rw [State.sampleSupply]
  exact (if_neg full).trans (followSupply_eq (s.supplyJudged v) s.sta.filtered.isNone)

theorem supplyEntered_frame (s : State) (first : Bool) (x : SupplyState) : s.supplyEntered first x
    = { s with sta := { s.sta with supply := x }, ntu := (s.supplyEntered first x).ntu } := by
  unfold State.supplyEntered
  split <;> rfl

/-! ### The examination seen from another state -/

theorem Examined.since {u v t : State} (h : Examined v t) (queue : v.sta.queue = u.sta.queue) (opt : v.opt = u.opt)
    (tests : SameTests u v) (clock : v.now = u.now) : Examined u t := by
  have same : ∀ k, v.opAt k = u.opAt k := opAt_of_opt opt
  obtain ⟨granted, split, some_more, few, records, timer⟩ := h.grants
  rw [queue] at split some_more
  rw [tests.items] at few timer
  rw [tests.stagger, clock] at timer
  simp only [same, blockedBy_congr tests rfl rfl] at some_more records
  refine ⟨⟨granted, split, some_more, few, records, timer⟩, h.head, fun k hk => ?_, fun k outside => ?_⟩
  · simpa only [same] using h.waiting k hk
  · rw [← same]; exact h.others k (by rw [queue]; exact outside)

/-- The supply state stands through the end of an event. -/
theorem settle_supply {u : State} (ledger : u.Ledger) (plain : u.Plain) : u.settle.sta.supply = u.sta.supply := by
  obtain ⟨e, -, ends⟩ := settle_examines plain.toUndisturbed
  have off : (u.withEntries e).entriesOff := plain.entries
  have granting : Granting (u.withEntries e) (u.withEntries e).examineQueue :=
    granting_examine _ (ledger.congr rfl rfl rfl rfl rfl ledger.budget) off plain.peers le_rfl
  have follows := ends (.inl (entriesOff_of_items off (by rw [State.items, granting.items]; rfl)))
  rw [follows.arbiter, granting.supply]
  rfl

/-- A state that has the table and the queue of another, and what the four tests ask beside the supply. -/
structure Restated (s v : State) : Prop where
  frame : v = { s with sta := v.sta, ntu := v.ntu }
  queue : v.sta.queue = s.sta.queue
  resSum : v.sta.resSum = s.sta.resSum
  normalSum : v.sta.normalSum = s.sta.normalSum
  stagger : v.sta.stagger = s.sta.stagger

section

variable {s v : State}

theorem Restated.opt (h : Restated s v) : v.opt = s.opt := by rw [h.frame]

theorem Restated.ledger (h : Restated s v) (ledger : s.Ledger) : v.Ledger :=
  ledger.congr h.opt h.queue h.resSum h.normalSum (by rw [h.frame]) (by rw [h.frame]; exact ledger.budget)

theorem Restated.plain (h : Restated s v) (plain : s.Plain) : v.Plain := by
  have items : v.items = s.items := by rw [h.frame]; rfl
  refine ⟨undisturbed_congr plain.toUndisturbed h.opt (by rw [h.frame]) (by rw [h.frame]) (by rw [h.frame]), ?_, ?_⟩
  · exact entriesOff_of_items plain.entries items
  · rw [items]; exact plain.peers

theorem Restated.examined (h : Restated s v) (ledger : s.Ledger) (plain : s.Plain) :
    Examined { s with sta := { s.sta with supply := v.settle.sta.supply } } v.settle := by
  have leaves := settle_leaves (h.ledger ledger) (h.plain plain)
  refine leaves.since h.queue h.opt ⟨h.resSum, h.normalSum, h.stagger, ?_, by rw [h.frame]; rfl, fun g => ?_⟩ (by rw [h.frame])
  · exact (settle_supply (h.ledger ledger) (h.plain plain)).symm
  · simp only [State.moves, opAt_of_opt h.opt]
    rfl

theorem restated_judged (s : State) (v : Nat) : Restated s (s.supplyJudged v) := ⟨rfl, rfl, rfl, rfl, rfl⟩

theorem restated_entered (s : State) (v : Nat) (first : Bool) (x : SupplyState) :
    Restated s ((s.supplyJudged v).supplyEntered first x) := by
  rw [supplyEntered_frame]
  exact ⟨rfl, rfl, rfl, rfl, rfl⟩

theorem holdLeaves_active {o after : Op} {x : HoldReason} (h : s.HoldLeaves o x after) (moves : after.state.active = true) :
    o.state.active = true ∧ after.reservation = o.reservation := by
  unfold State.HoldLeaves at h
  split at h
  · rw [h] at moves ⊢; exact ⟨moves, rfl⟩
  · split at h
    · rw [h] at moves; cases moves
    · next ph running =>
      split at h
      · rw [h] at moves; cases moves
      · rw [h, running]; exact ⟨rfl, rfl⟩
    · rw [h] at moves ⊢; exact ⟨moves, rfl⟩

/-- A hold of many releases reservations, and reserves none. -/
theorem held_resSum {p : Op → Bool} {x : HoldReason} (before : s.Ledger) (after : v.Ledger)
    (records : s.eachRecord v p (fun o after => s.HoldLeaves o x after)) : v.sta.resSum ≤ s.sta.resSum := by
  rw [before.sums.1, after.sums.1, reserved_eq, reserved_eq]
  refine List.sum_le_sum fun sl _ => ?_
  cases hq : v.opAt sl with
  | none => exact Nat.zero_le _
  | some q =>
    cases moves : q.state.active with
    | false => simp [share, moves]
    | true =>
      cases ho : s.opAt sl with
      | none => rw [(records sl).1 ho] at hq; cases hq
      | some o =>
        have kept : o.state.active = true ∧ q.reservation = o.reservation := by
          cases named : p o with
          | false =>
            rw [((records sl).2 o ho).1 named] at hq
            cases hq
            exact ⟨moves, rfl⟩
          | true =>
            obtain ⟨after, at_sl, leaves⟩ := ((records sl).2 o ho).2 named
            rw [at_sl] at hq
            cases hq
            exact holdLeaves_active leaves moves
        simp [share, moves, kept.1, kept.2]

/-- A stow with room in the budget passes the four tests outside CUT (R31, R38). -/
theorem stow_passes {o : Op} (safe : o.opClass = .safety) (awning : o.job.group = .awning)
    (room : s.sta.resSum + o.reservation ≤ s.items.supply.budgetLimit) (powered : s.sta.supply ≠ .cut) : s.blockedBy o = none := by
  have budget : s.fitsBudget o = true := by simp [State.fitsBudget, safe, room]
  have supply : s.supplyAllows o = true := by simp [State.supplyAllows, safe, powered]
  simp [State.blockedBy, budget, supply, State.frameAllows, State.staggerAllows, awning, safe]

/-- The head that passes its tests is granted (R30). -/
theorem Examined.grants_head {t : State} {sl : Slot} {o : Op} {behind : List Slot} (h : Examined s t)
    (queue : s.sta.queue = sl :: behind) (ho : s.opAt sl = some o) (passes : s.blockedBy o = none) :
    ∃ st, t.opAt sl = some { o with state := st, resumed := false } ∧ (st.isRunning = true ∨ st.isEnded = true) := by
  obtain ⟨granted, split, some_more, -, records, -⟩ := h.grants
  obtain ⟨first, rest, parts⟩ := List.exists_cons_of_ne_nil (some_more.2 ⟨sl, o, by rw [queue]; rfl, ho, passes⟩)
  have same : first = sl := by
    rw [queue, parts] at split
    exact (List.cons.inj split).1.symm
  obtain ⟨p, st, hp, after, moves⟩ := records sl (by rw [parts, same]; exact List.mem_cons_self)
  rw [ho] at hp
  cases hp
  exact ⟨st, after, moves⟩

/-- An entry to HOLD (R39, R41): every NORMAL operation gets its hold, and a waiting stow that the budget has room for is granted. -/
theorem holds_entered {t : State} (held : v = s.holdAll (fun _ => true) .supplyLow) (settled : t = v.settle) (books : s.Ledger)
    (plain : s.Plain) (low : s.sta.supply = .hold) :
    t.sta.supply = .hold
    ∧ (∀ sl o, s.opAt sl = some o →
      (o.opClass = .normal → ∃ after, t.opAt sl = some after ∧ s.HoldLeaves o .supplyLow after)
      ∧ (o.opClass = .safety → o.state.isAdmitted = false → t.opAt sl = some o)
      ∧ (o.opClass = .safety → o.state.isAdmitted = true → s.sta.resSum + o.reservation ≤ s.items.supply.budgetLimit →
        ∃ st, t.opAt sl = some { o with state := st, resumed := false } ∧ (st.isRunning = true ∨ st.isEnded = true)))
    ∧ ∀ sl ∈ t.sta.queue, ∃ o, t.opAt sl = some o ∧ o.opClass = .safety := by
  have records : s.eachRecord v (fun _ => true) (fun o after => s.HoldLeaves o .supplyLow after) := held ▸ holdAll_records s _ _
  have eased : Eased s v := held ▸ eased_holdAll s _ _
  have acts : Acts s v := held ▸ acts_holdAll s _ _
  have ledger : v.Ledger := acts.ledger books
  have items : v.ist = s.ist := eased.blocks.1 .items (by decide)
  have inputs : v.inm.inputs = s.inm.inputs := congrArg (·.inputs) (eased.blocks.1 .inputs (by decide) : v.inm = _)
  have vplain : v.Plain := ⟨undisturbed_held plain.toUndisturbed items inputs records,
    entriesOff_of_items plain.entries acts.items, by rw [acts.items]; exact plain.peers⟩
  have vlow : v.sta.supply = .hold := by rw [eased.arbiter]; exact low
  have examined : Examined v t := settled ▸ settle_leaves ledger vplain
  have stays : t.sta.supply = v.sta.supply := settled ▸ settle_supply ledger vplain
  have waits_safe : ∀ sl ∈ v.sta.queue, ∃ o, v.opAt sl = some o ∧ o.state.isAdmitted = true ∧ o.opClass = .safety := by
    intro sl mem
    obtain ⟨o, ho, waiting⟩ := (ledger.queue.2 sl).1 mem
    refine ⟨o, ho, waiting, ?_⟩
    rcases held_origin records ho with ⟨-, spared⟩ | ⟨-, idle⟩
    · rcases spared with named | safe
      · cases named
      · exact safe
    · rw [idle] at waiting; cases waiting
  have still : ∀ sl o, v.opAt sl = some o → o.state.isAdmitted = false → t.opAt sl = some o := by
    intro sl o ho idle
    refine (examined.others sl fun mem => ?_).trans ho
    obtain ⟨p, hp, waiting, -⟩ := waits_safe sl mem
    rw [ho] at hp
    cases hp
    rw [idle] at waiting
    cases waiting
  have spared : ∀ sl o, s.opAt sl = some o → o.opClass = .safety → v.opAt sl = some o := by
    intro sl o ho safe
    obtain ⟨after, at_sl, leaves⟩ := ((records sl).2 o ho).2 rfl
    rw [State.HoldLeaves, if_pos safe] at leaves
    rw [at_sl, leaves]
  refine ⟨stays.trans vlow, fun sl o ho => ⟨fun normal => ?_, fun safe idle => ?_, fun safe waiting room => ?_⟩,
    fun sl mem => ?_⟩
  · obtain ⟨after, at_sl, leaves⟩ := ((records sl).2 o ho).2 rfl
    exact ⟨after, still sl after at_sl (holdLeaves_still normal leaves).2.1, leaves⟩
  · exact still sl o (spared sl o ho safe) idle
  · have ho' := spared sl o ho safe
    have mem : sl ∈ v.sta.queue := (ledger.queue.2 sl).2 ⟨o, ho', waiting⟩
    obtain ⟨head, behind, queue⟩ := List.exists_cons_of_ne_nil (List.ne_nil_of_mem mem)
    have first : head = sl := by
      rw [queue, List.mem_cons] at mem
      refine (mem.resolve_right fun later => ?_).symm
      have normal := behind_normal ledger queue later ho'
      rw [safe] at normal
      cases normal
    have awning : o.job.group = .awning := by
      have fits := ledger.kinds sl o ho'
      rw [safety_iff.1 safe] at fits
      cases group : o.job.group with
      | awning => rfl
      | _ => rw [group] at fits; cases fits
    refine examined.grants_head (first ▸ queue) ho' (stow_passes safe awning ?_ (by rw [vlow]; decide))
    have less := held_resSum books ledger records
    rw [acts.items]
    omega
  · obtain ⟨granted, split, -⟩ := examined.grants
    obtain ⟨o, w, ho, after⟩ := examined.waiting sl mem
    obtain ⟨p, hp, -, safe⟩ := waits_safe sl (by rw [split]; exact List.mem_append_right _ mem)
    rw [ho] at hp
    cases hp
    exact ⟨_, after, safe⟩

end

end Sys2Proof.Machine
end

section
namespace Sys2Proof.Machine

-- One declaration at a time, so that the memory the check takes stays small.
set_option Elab.async false

section

variable {s v : State} {p : Op → Bool} {r : Result}

/-- A record after the ends of many is one that stood, or has ended. -/
theorem endAll_origin {sl : Slot} {q : Op} (hq : (s.endAll p r).opAt sl = some q) :
    s.opAt sl = some q ∨ q.state.isEnded = true := by
  cases ho : s.opAt sl with
  | none => rw [endAll_free ho] at hq; cases hq
  | some o =>
    by_cases spared : o.state.isEnded = true ∨ p o = false
    · rw [endAll_spared ho spared] at hq
      exact .inl hq
    · rw [not_or, Bool.not_eq_false] at spared
      obtain ⟨x, hx⟩ := immediate_some r (Bool.eq_false_iff.2 spared.1)
      obtain ⟨rem, n, at_sl⟩ := endAll_named ho spared.2 hx
      rw [at_sl] at hq
      cases hq
      exact .inr rfl

theorem endAll_items (s : State) (p : Op → Bool) (r : Result) : (s.endAll p r).ist = s.ist :=
  (endAll_keeps s p r).1 .items (by decide)

theorem endAll_inputs (s : State) (p : Op → Bool) (r : Result) : (s.endAll p r).inm.inputs = s.inm.inputs :=
  congrArg (·.inputs) ((endAll_keeps s p r).1 .inputs (by decide) : (s.endAll p r).inm = _)

theorem undisturbed_endAll (h : s.Undisturbed) : (s.endAll p r).Undisturbed :=
  undisturbed_of h (endAll_items s p r) (endAll_inputs s p r) fun sl q hq running => by
    rcases endAll_origin hq with before | ended
    · exact ⟨sl, q, before, running, rfl⟩
    · exact absurd (running_active running) (by simp [ended_notActive ended])

theorem calm_endAll (h : s.Calm) : (s.endAll p r).Calm := by
  refine ⟨undisturbed_endAll h.toUndisturbed, fun sl q hq => ?_⟩
  rcases endAll_origin hq with before | ended
  · exact h.waiting sl q before
  · by_contra admitted
    exact absurd (admitted_notEnded (Bool.not_eq_false _ ▸ admitted)) (by simp [ended])

theorem supply_endAll (s : State) (p : Op → Bool) (r : Result) : (s.endAll p r).sta.supply = s.sta.supply := by
  rw [endAll_sta]

end

/-! ### A sample with the books kept (R30, R38 to R41) -/

section

variable {s : State} {v : Nat}

/-- A state entered that starts and ends nothing by itself leaves the queue to be examined. -/
theorem sample_examined {w : State} (books : s.Books) (plain : s.Plain) (restated : Restated s w)
    (event : s.sampleSupply v = w) (calm : w.sta.supply ≠ .hold ∨ w.sta.supply = s.sta.supply) :
    ∃ t, exec (.supplySample v) s = .next t
      ∧ Examined { s with sta := { s.sta with supply := t.sta.supply } } t
      ∧ (t.sta.supply = .hold → s.sta.supply = .hold) := by
  refine ⟨w.settle, congrArg (fun x : State => Host.Outcome.next x.settle) event, restated.examined books.ledger plain, fun low => ?_⟩
  rw [settle_supply (restated.ledger books.ledger) (restated.plain plain)] at low
  rcases calm with other | same
  · exact absurd low other
  · rw [← same]; exact low

/-- What an entry to HOLD leaves of the records and the queue (R39, R41). -/
def HoldEntry (s t : State) : Prop :=
  (∀ sl o, s.opAt sl = some o →
    (o.opClass = .normal → ∃ after, t.opAt sl = some after ∧ s.HoldLeaves o .supplyLow after)
    ∧ (o.opClass = .safety → o.state.isAdmitted = false → t.opAt sl = some o)
    ∧ (o.opClass = .safety → o.state.isAdmitted = true → s.sta.resSum + o.reservation ≤ s.items.supply.budgetLimit →
      ∃ st, t.opAt sl = some { o with state := st, resumed := false } ∧ (st.isRunning = true ∨ st.isEnded = true)))
  ∧ ∀ sl ∈ t.sta.queue, ∃ o, t.opAt sl = some o ∧ o.opClass = .safety

theorem Restated.holdEntry {w t : State} (h : Restated s w) (rest : ∀ g, w.groupAtRest g = s.groupAtRest g) (entry : HoldEntry w t) :
    HoldEntry s t := by
  refine ⟨fun sl o ho => ?_, entry.2⟩
  obtain ⟨normal, still, granted⟩ := entry.1 sl o ((opAt_of_opt h.opt sl).trans ho)
  refine ⟨fun c => ?_, still, fun c waiting room => granted c waiting ?_⟩
  · obtain ⟨after, at_sl, leaves⟩ := normal c
    exact ⟨after, at_sl, holdLeaves_congr rest leaves⟩
  · have items : w.items = s.items := by rw [h.frame]; rfl
    rw [h.resSum, items]
    exact room

theorem supplySample_examines (books : s.Books) (plain : s.Plain) :
    ∃ t, exec (.supplySample v) s = .next t
      ∧ (t.sta.supply = .normal ∨ t.sta.supply = .low ∨ t.sta.supply = s.sta.supply →
          Examined { s with sta := { s.sta with supply := t.sta.supply } } t)
      ∧ (t.sta.supply = .hold → s.sta.supply ≠ .hold → HoldEntry s t) := by
  have examines : ∀ {w : State}, Restated s w → s.sampleSupply v = w → w.sta.supply ≠ .hold ∨ w.sta.supply = s.sta.supply →
      ∃ t, exec (.supplySample v) s = .next t
        ∧ (t.sta.supply = .normal ∨ t.sta.supply = .low ∨ t.sta.supply = s.sta.supply →
            Examined { s with sta := { s.sta with supply := t.sta.supply } } t)
        ∧ (t.sta.supply = .hold → s.sta.supply ≠ .hold → HoldEntry s t) := fun restated event calm => by
    obtain ⟨t, next, examined, low⟩ := sample_examined books plain restated event calm
    exact ⟨t, next, fun _ => examined, fun hold other => absurd (low hold) other⟩
  by_cases short : (pushSample s.sta.samples v).length < 8
  · exact examines (w := { s with sta := { s.sta with samples := pushSample s.sta.samples v } }) ⟨rfl, rfl, rfl, rfl, rfl⟩
      (sampleSupply_short short) (.inr rfl)
  have full := sampleSupply_full short
  dsimp only at full
  by_cases same : (s.supplyJudged v).sta.flags.state = s.sta.supply
  · rw [if_pos same] at full
    exact examines (restated_judged s v) full (.inr rfl)
  rw [if_neg same] at full
  have entered := restated_entered s v s.sta.filtered.isNone (s.supplyJudged v).sta.flags.state
  have supply : ((s.supplyJudged v).supplyEntered s.sta.filtered.isNone (s.supplyJudged v).sta.flags.state).sta.supply
      = (s.supplyJudged v).sta.flags.state := by rw [supplyEntered_frame]
  generalize (s.supplyJudged v).supplyEntered s.sta.filtered.isNone (s.supplyJudged v).sta.flags.state = w at full entered supply
  generalize (s.supplyJudged v).sta.flags.state = new at full same supply
  have ledger := entered.ledger books.ledger
  have wplain := entered.plain plain
  cases new with
  | normal => exact examines entered full (.inl (by rw [supply]; decide))
  | low => exact examines entered full (.inl (by rw [supply]; decide))
  | hold =>
    obtain ⟨low, records, queue⟩ := holds_entered (t := (w.enterSupply .hold).settle) rfl rfl ledger wplain supply
    refine ⟨_, congrArg (fun x : State => Host.Outcome.next x.settle) full, fun h => ?_, fun _ _ => ?_⟩
    · rw [low] at h
      exact absurd h (by simpa using same)
    · exact entered.holdEntry (fun g => by rw [entered.frame]; cases g <;> rfl) ⟨records, queue⟩
  | cut =>
    have cut : (w.enterSupply .cut).settle.sta.supply = .cut := by
      have acts : Acts w (w.enterSupply .cut) := acts_endAll w _ _
      have after : (w.enterSupply .cut).Plain := ⟨undisturbed_endAll wplain.toUndisturbed,
        entriesOff_of_items wplain.entries acts.items, by rw [acts.items]; exact wplain.peers⟩
      rw [settle_supply (acts.ledger ledger) after]
      exact (supply_endAll w _ _).trans supply
    refine ⟨_, congrArg (fun x : State => Host.Outcome.next x.settle) full, fun h => ?_, fun h => ?_⟩
    · rw [cut] at h
      exact absurd h (by simpa using same)
    · rw [cut] at h
      cases h

end

end Sys2Proof.Machine
end

section
namespace Sys2Proof.Machine

-- One declaration at a time, so that the memory the check takes stays small.
set_option Elab.async false

/-! ### A sample in a calm state (R35 to R37, R40) -/

theorem holdFlag_iff {old : Bool} {set clear : Prop} [Decidable set] [Decidable clear] :
    (set → holdFlag old (decide set) (decide clear) = true) ∧ (¬ set → clear → holdFlag old (decide set) (decide clear) = false)
    ∧ (¬ set → ¬ clear → holdFlag old (decide set) (decide clear) = old) := by
  refine ⟨fun h => ?_, fun h k => ?_, fun h k => ?_⟩ <;> simp [holdFlag, *]

theorem holdAll_ended {s : State} {p : Op → Bool} {x : HoldReason} (ended : s.allEnded) : s.holdAll p x = s :=
  eachOp_invariant (I := fun u => u = s) (p := fun _ o => o.opClass == .normal && !o.state.isEnded && p o)
    (f := fun s sl => s.holdOp sl x) (fun u sl o same ho named => by
      subst same
      simp [ended sl o ho] at named) rfl

theorem endAll_ended {s : State} {p : Op → Bool} {r : Result} (ended : s.allEnded) : s.endAll p r = s :=
  eachOp_invariant (I := fun u => u = s) (p := fun _ o => !o.state.isEnded && p o) (f := fun s sl => s.endNow sl r)
    (fun u sl o same ho named => by
      subst same
      simp [ended sl o ho] at named) rfl

/-- What an entry to a supply state leaves beside the operations it reaches. -/
structure SupplyEntry (s u : State) (x : SupplyState) : Prop where
  calm : u.Calm
  keeps : s.keepsBut u [.table, .arbiter, .jacks, .rooms, .awning, .orders, .claims]
  arbiter : u.sta = { s.sta with queue := u.sta.queue, resSum := u.sta.resSum, normalSum := u.sta.normalSum }
  raised : ∀ c, s.raised c → u.raised c
  idle : s.allEnded → u = s

theorem supplyEntry {s : State} (calm : s.Calm) (x : SupplyState) : SupplyEntry s (s.enterSupply x) x := by
  have still : SupplyEntry s s x := ⟨calm, keepsBut_refl s _, rfl, fun _ h => h, fun _ => rfl⟩
  cases x with
  | normal => exact still
  | low => exact still
  | hold =>
    have records := holdAll_records s (fun _ => true) .supplyLow
    have eased := eased_holdAll s (fun _ => true) .supplyLow
    have items : (s.holdAll (fun _ => true) .supplyLow).ist = s.ist := eased.blocks.1 .items (by decide)
    have inputs : (s.holdAll (fun _ => true) .supplyLow).inm.inputs = s.inm.inputs :=
      congrArg (·.inputs) (eased.blocks.1 .inputs (by decide) : (s.holdAll (fun _ => true) .supplyLow).inm = _)
    refine ⟨⟨undisturbed_held calm.toUndisturbed items inputs records, held_noneWaiting records fun sl o ho admitted => ?_⟩,
      keepsBut_mono eased.blocks (by decide), eased.arbiter, fun c h => raised_holdAll h _ _, fun ended => ?_⟩
    · rw [calm.waiting sl o ho] at admitted
      cases admitted
    · exact holdAll_ended ended
  | cut =>
    refine ⟨calm_endAll calm, keepsBut_mono (endAll_keeps s _ _) (by decide), endAll_sta s _ _, fun c h => raised_endAll h _ _,
      fun ended => endAll_ended ended⟩

/-- An entry to CUT ends what moves, at once (R17, R40). -/
theorem cutEntry (s : State) (sl : Slot) (o : Op) (ho : s.opAt sl = some o) :
    (o.state.active = false → (s.enterSupply .cut).opAt sl = some o)
    ∧ (∀ r ph, o.state = .stopping (.ended r) ph → ∃ rem n,
        (s.enterSupply .cut).opAt sl = some { o with state := .ended r rem n, resumed := false })
    ∧ (∀ h ph, o.state = .stopping (.held h) ph → ∃ rem n,
        (s.enterSupply .cut).opAt sl = some { o with state := .ended (.failed .supply) rem n, resumed := false })
    ∧ (∀ ph, o.state = .running ph → ∃ rem n,
        (s.enterSupply .cut).opAt sl = some { o with state := .ended (.failed .supply) rem n, resumed := false }) := by
  have named : ∀ {x}, o.state.active = true → o.state.immediate (.failed .supply) = some x → ∃ rem n,
      (s.enterSupply .cut).opAt sl = some { o with state := .ended x rem n, resumed := false } :=
    fun moves hx => endAll_named (p := fun o => o.state.active) ho moves hx
  exact ⟨fun rests => endAll_spared ho (.inr rests), fun r ph state => named (by rw [state]; rfl) (by rw [state]; rfl),
    fun h ph state => named (by rw [state]; rfl) (by rw [state]; rfl), fun ph state => named (by rw [state]; rfl) (by rw [state]; rfl)⟩

section

variable {s t : State} {v x : Nat} {window : List Nat}

/-- What a judged sample leaves, by the state that the end of the event starts from. -/
theorem sample_judged (calm : s.Calm) (full : ¬ (pushSample s.sta.samples v).length < 8) :
    ∃ u, exec (.supplySample v) s = .next u.settle ∧ Follows u u.settle
      ∧ u.sta = { (s.supplyJudged v).sta with
          queue := u.sta.queue, resSum := u.sta.resSum, normalSum := u.sta.normalSum
          supply := (s.supplyJudged v).sta.flags.state }
      ∧ s.keepsBut u [.table, .arbiter, .jacks, .rooms, .awning, .orders, .claims]
      ∧ ((s.supplyJudged v).sta.flags.state ≠ s.sta.supply → s.sta.filtered.isSome = true → u.raised .supply)
      ∧ ((s.supplyJudged v).sta.flags.state = s.sta.supply ∨ s.sta.filtered = none ∧ s.allEnded →
          u.opt = s.opt ∧ u.ntu.coach.cats = s.ntu.coach.cats)
      ∧ ((s.supplyJudged v).sta.flags.state ≠ s.sta.supply → (s.supplyJudged v).sta.flags.state = .cut →
          ∃ w : State, w.opt = s.opt ∧ u = w.enterSupply .cut) := by
  have event := sampleSupply_full full
  dsimp only at event
  have before : s.keepsBut (s.supplyJudged v) [.table, .arbiter, .jacks, .rooms, .awning, .orders, .claims] := keepsBut_of
  by_cases same : (s.supplyJudged v).sta.flags.state = s.sta.supply
  · rw [if_pos same] at event
    refine ⟨s.supplyJudged v, congrArg (fun x : State => Host.Outcome.next x.settle) event,
      follows_settle (calm_same calm rfl rfl rfl), ?_, before, fun other => absurd same other, fun _ => ⟨rfl, rfl⟩, fun other => absurd same other⟩
    rw [same]
    rfl
  · rw [if_neg same] at event
    let w := (s.supplyJudged v).supplyEntered s.sta.filtered.isNone (s.supplyJudged v).sta.flags.state
    have frame : w = { s.supplyJudged v with
        sta := { (s.supplyJudged v).sta with supply := (s.supplyJudged v).sta.flags.state }, ntu := w.ntu } := supplyEntered_frame _ _ _
    have calmly : w.Calm := by
      rw [frame]
      exact calm_same calm rfl rfl rfl
    have entry := supplyEntry calmly (s.supplyJudged v).sta.flags.state
    have opt : w.opt = s.opt := by rw [frame]; rfl
    refine ⟨_, congrArg (fun x : State => Host.Outcome.next x.settle) event, follows_settle entry.calm, ?_, ?_, fun _ later => ?_,
      fun quiet => ?_, fun _ cut => ⟨w, opt, congrArg w.enterSupply cut⟩⟩
    · have sta : w.sta = { (s.supplyJudged v).sta with supply := (s.supplyJudged v).sta.flags.state } := by rw [frame]
      have arbiter := entry.arbiter
      rw [sta] at arbiter
      exact arbiter
    · refine keepsBut_trans ?_ entry.keeps
      show s.keepsBut w _
      rw [frame]
      exact keepsBut_of
    · refine entry.raised _ ?_
      have not_first : s.sta.filtered.isNone = false := by
        cases h : s.sta.filtered with
        | none => rw [h] at later; cases later
        | some _ => rfl
      show w.raised _
      simp only [w, State.supplyEntered, not_first]
      exact raised_raise _ _
    · obtain ⟨first, ended⟩ := quiet.resolve_left same
      have ended' : w.allEnded := fun sl o ho => ended sl o ((opAt_of_opt opt sl).symm.trans ho)
      rw [entry.idle ended']
      refine ⟨opt, ?_⟩
      show w.ntu.coach.cats = _
      simp only [w, State.supplyEntered, first]
      rfl

theorem pushSample_full (h : s.sta.samples.length = 7 ∧ window = s.sta.samples ++ [v]
    ∨ s.sta.samples.length = 8 ∧ window = s.sta.samples.drop 1 ++ [v]) :
    pushSample s.sta.samples v = window ∧ ¬ window.length < 8 := by
  rcases h with ⟨seven, rfl⟩ | ⟨eight, rfl⟩
  · simp [pushSample, seven]
  · simp [pushSample, eight]

end

theorem or_idem_right {w : Nat} (a b : BitVec w) : a ||| b ||| b = a ||| b := by rw [BitVec.or_assoc, BitVec.or_self]

/-- Settles O38: with the books kept the examination or the holds; in a calm state the filter, the flags, the hold timer, the
state and its entry. -/
theorem supplySampleJudges : Obligations.SupplySampleJudges := by
  refine ⟨fun s v books plain => supplySample_examines books plain, fun s v calm => ⟨fun few => ?_, fun window x full mean => ?_⟩⟩
  · have push : pushSample s.sta.samples v = s.sta.samples ++ [v] := by
      rw [pushSample, if_neg (by omega)]
    have event := sampleSupply_short (s := s) (v := v) (by rw [push, List.length_append]; simp; omega)
    refine ⟨_, congrArg (fun x : State => Host.Outcome.next x.settle) event, ?_⟩
    rw [push]
    exact follows_settle (calm_same calm rfl rfl rfl)
  · obtain ⟨push, long⟩ := pushSample_full full
    obtain ⟨u, event, follows, sta, keeps, raises, quiet, cuts⟩ := sample_judged calm (by rw [push]; exact long)
    have judged : (s.supplyJudged v).sta = { s.sta with
        samples := window, filtered := some x, flags := evalFlags s.items.supply x s.sta.flags
        holdTimer := evalHoldTimer s.items.supply x s.now s.sta.flags s.sta.holdTimer } := by
      rw [mean]
      simp only [State.supplyJudged, push]
      rfl
    rw [judged] at sta raises quiet cuts
    have arbiter := follows.arbiter.trans sta
    have flags : u.settle.sta.flags = evalFlags s.items.supply x s.sta.flags := by rw [arbiter]
    have timer : u.settle.sta.holdTimer = evalHoldTimer s.items.supply x s.now s.sta.flags s.sta.holdTimer := by rw [arbiter]
    have supply : u.settle.sta.supply = (evalFlags s.items.supply x s.sta.flags).state := by rw [arbiter]
    generalize u.settle = t at event follows arbiter flags timer supply
    have same : t.sta.supply = s.sta.supply ↔ (evalFlags s.items.supply x s.sta.flags).state = s.sta.supply := by rw [supply]
    refine ⟨t, event, by rw [arbiter], by rw [arbiter], ?_, ?_, ?_, ?_, ?_, ?_, ?_, ?_, ?_, ?_, ?_, ?_, ?_, ?_, supply.trans (by rw [flags]; rfl),
      fun differs later => ?_, fun still => ?_, fun differs cut sl o ho => ?_, follows.keepsBut keeps⟩
    · rw [flags]; exact fun h => holdFlag_iff.1 h
    · rw [flags]; exact fun h => holdFlag_iff.2.1 (by omega) h
    · rw [flags]; exact fun h k => holdFlag_iff.2.2 (by omega) (by omega)
    · rw [flags]; exact fun h => holdFlag_iff.1 h
    · rw [flags]; exact fun h => holdFlag_iff.2.1 (by omega) h
    · rw [flags]; exact fun h k => holdFlag_iff.2.2 (by omega) (by omega)
    · rw [flags]; exact fun h => by simp [evalFlags, holdFlag, h]
    · rw [flags]; exact fun h => by simp [evalFlags, holdFlag, h]
    · rw [flags]; exact fun h => holdFlag_iff.1 h
    · rw [flags]; exact fun h => holdFlag_iff.2.1 (by omega) h
    · rw [flags]; exact fun h k => holdFlag_iff.2.2 (by omega) (by omega)
    · rw [timer]; exact fun h => if_neg (by omega)
    · rw [timer]; exact fun h stopped off => by simp [evalHoldTimer, h, stopped, off]
    · rw [timer]; exact fun e h run => by simp [evalHoldTimer, h, run]
    · exact follows.notices.cats (raises (mt same.2 differs) later).1 (raises (mt same.2 differs) later).2
    · obtain ⟨opt, cats⟩ := quiet (still.imp same.1 id)
      refine ⟨follows.table.trans opt, ?_⟩
      rcases follows.notices.sets with ⟨coach, -⟩ | ⟨coach, -⟩
      · rw [coach, cats]
      · rw [coach, ← cats]
        exact or_idem_right _ _
    · obtain ⟨w, opt, entered⟩ := cuts (mt same.2 differs) (supply.symm.trans cut)
      rw [opAt_of_opt follows.table, entered]
      exact cutEntry w sl o ((opAt_of_opt opt sl).trans ho)

end Sys2Proof.Machine
end

section
namespace Sys2Proof.Machine

-- One declaration at a time, so that the memory the check takes stays small.
set_option Elab.async false

/-! ### The supersede (R22) -/

/-- What the supersede leaves: the awning's operation has ended, with its own result where it was headed for one; every
other record stands. -/
structure Superseded (v b : State) : Prop where
  free : ∀ k, v.opAt k = none → b.opAt k = none
  ends : ∀ k o, v.opAt k = some o → o.job.group = .awning → o.state.isEnded = false →
    ∃ x rem m, o.state.immediate (.cancelled .superseded) = some x
      ∧ b.opAt k = some { o with state := .ended x rem m, resumed := false }
  stays : ∀ k o, v.opAt k = some o → o.job.group ≠ .awning ∨ o.state.isEnded = true → b.opAt k = some o
  blocks : v.keepsBut b endBlocks
  arbiter : b.sta = { v.sta with queue := b.sta.queue, resSum := b.sta.resSum, normalSum := b.sta.normalSum }
  queue : ∀ k, k ∈ b.sta.queue → k ∈ v.sta.queue
  counters : b.opt.admissions = v.opt.admissions ∧ b.opt.internalTag = v.opt.internalTag
  notices : b.ntu.coach.inputs = v.ntu.coach.inputs

theorem noteTag_inputs (x : ChangeSet) (tag : Nat) : (x.noteTag tag).inputs = x.inputs := by
  unfold ChangeSet.noteTag
  dsimp only
  split
  · rfl
  · split <;> rfl

theorem superseded {v : State} (one : v.onePerGroup) : Superseded v v.supersede := by
  cases busy : v.busySlot .awning with
  | none =>
    have same : v.supersede = v := by rw [State.supersede, busy]
    rw [same]
    exact ⟨fun _ h => h, fun k o ho group running => absurd (busySlot_none busy ho group) (by simp [running]), fun _ _ ho _ => ho,
      keepsBut_refl v _, rfl, fun _ h => h, ⟨rfl, rfl⟩, rfl⟩
  | some sl =>
    have ends : v.supersede = v.endNow sl (.cancelled .superseded) := by rw [State.supersede, busy]
    obtain ⟨p, hp, group, running⟩ := busySlot_some busy
    obtain ⟨x, hx⟩ := immediate_some (.cancelled .superseded) running
    have visited := visited_endNow v sl (.cancelled .superseded)
    obtain ⟨-, -, queue⟩ := endNow_arbiter hp (.cancelled .superseded)
    have self := endNow_self hp hx
    have alone : ∀ k o, v.opAt k = some o → o.job.group = .awning → o.state.isEnded = false → k = sl :=
      fun k o ho awning moves => one k sl o ho p hp moves running (awning.trans group.symm)
    rw [ends]
    refine ⟨fun k free => ?_, fun k o ho awning moves => ?_, fun k o ho other => ?_, endNow_keeps hp _, endNow_sta v sl _,
      fun k mem => ?_, visited.counters, ?_⟩
    · refine (visited.others k ?_).trans free
      rintro rfl
      rw [hp] at free
      cases free
    · have here := alone k o ho awning moves
      subst here
      rw [hp] at ho
      cases ho
      exact ⟨x, _, _, hx, self⟩
    · refine (visited.others k ?_).trans ho
      rintro rfl
      rw [hp] at ho
      cases ho
      rcases other with away | over_
      · exact away group
      · rw [running] at over_; cases over_
    · rw [queue, running] at mem
      exact (List.mem_filter.1 mem).1
    · obtain ⟨c, whole⟩ := writeEnd_eq ((shed_opAt v p sl).trans hp) x (v.remainingOf p)
      rw [endNow_eq hp hx, whole]
      exact (noteTag_inputs _ _).trans (by rw [shed_frame])

section

variable {v b : State}

/-- A record after the supersede is one that stood, or has ended. -/
theorem Superseded.origin (h : Superseded v b) {k : Slot} {q : Op} (hq : b.opAt k = some q) :
    v.opAt k = some q ∨ q.state.isEnded = true := by
  cases ho : v.opAt k with
  | none => rw [h.free k ho] at hq; cases hq
  | some o =>
    by_cases ends : o.job.group = .awning ∧ o.state.isEnded = false
    · obtain ⟨x, rem, m, -, at_k⟩ := h.ends k o ho ends.1 ends.2
      rw [at_k] at hq
      cases hq
      exact .inr rfl
    · have stays := h.stays k o ho (by
        by_cases group : o.job.group = .awning
        · exact .inr (by simpa [group] using ends)
        · exact .inl group)
      rw [stays] at hq
      exact .inl hq

theorem Superseded.occupied (h : Superseded v b) (k : Slot) : (b.opAt k).map Op.tag = (v.opAt k).map Op.tag := by
  cases ho : v.opAt k with
  | none => rw [h.free k ho]
  | some o =>
    by_cases ends : o.job.group = .awning ∧ o.state.isEnded = false
    · obtain ⟨x, rem, m, -, at_k⟩ := h.ends k o ho ends.1 ends.2
      rw [at_k]
      rfl
    · rw [h.stays k o ho (by
        by_cases group : o.job.group = .awning
        · exact .inr (by simpa [group] using ends)
        · exact .inl group)]

/-- The internal tag is chosen by the tags in use (R4). -/
theorem internalTag_congr (tags : ∀ k, (b.opAt k).map Op.tag = (v.opAt k).map Op.tag)
    (counter : b.opt.internalTag = v.opt.internalTag) : b.internalTag = v.internalTag := by
  have slot : ∀ tag, b.slotOfTag tag = v.slotOfTag tag := fun tag =>
    findSlot_congr fun k => by
      have same := congrArg (fun x : Option Nat => x.any (· == tag)) (tags k)
      simpa [Option.any_map] using same
  have free : ∀ n c, b.freeTag n c = v.freeTag n c := by
    intro n
    induction n with
    | zero => exact fun _ => rfl
    | succ n ih => intro c; rw [State.freeTag, State.freeTag, slot, ih]
  rw [State.internalTag, State.internalTag, counter, free]

theorem Superseded.calm (h : Superseded v b) (calm : v.Calm) : b.Calm := by
  refine calm_of calm.toUndisturbed (h.blocks.1 .items (by decide))
    (congrArg (·.inputs) (h.blocks.1 .inputs (by decide) : b.inm = _)) (fun k q hq running => ?_) fun k q hq => ?_
  · rcases h.origin hq with before | ended
    · exact ⟨k, q, before, running, rfl⟩
    · exact absurd (running_active running) (by simp [ended_notActive ended])
  · rcases h.origin hq with before | ended
    · exact calm.waiting k q before
    · by_contra admitted
      exact absurd (admitted_notEnded (Bool.not_eq_false _ ▸ admitted)) (by simp [ended])

end

end Sys2Proof.Machine
end

section
namespace Sys2Proof.Machine

-- One declaration at a time, so that the memory the check takes stays small.
set_option Elab.async false

/-! ### The stow's own admission and grant (R22, R29 to R32, R122) -/

section

variable {u y : State} {sl : Slot} {o : Op}

theorem judgeStanding_unjudged {s : State} (h : s.unjudged) (g : Group) : s.judgeStanding g (s.protecting g) = s := by
  rcases h with off | quiet
  · exact judgeStanding_off off g
  · by_cases jacks : g = .jacks
    · exact judgeStanding_quiet g _ (.inr (.inl jacks))
    · exact sendOrder_unjudged _ _ _ (quiet g jacks)

/-- No operation of class SAFETY is judged (R160). -/
theorem unjudged_safety {s t : State} (h : s.Undisturbed) (items : t.ist = s.ist)
    (running : ∀ k p, t.opAt k = some p → p.state.isRunning = true → s.opAt k = some p ∨ p.opClass = .safety) : t.unjudged := by
  rcases h.edges with off | only
  · exact .inl (entriesOff_of_items off (by rw [State.items, items]; rfl))
  · refine .inr fun g other => ?_
    cases run : t.runningOp g with
    | none => rw [State.judged, run]
    | some r =>
      obtain ⟨k, p⟩ := r
      obtain ⟨hp, rfl, moves⟩ := runningOp_some run
      rcases running k p hp moves with before | safe
      · exact absurd (by simpa using only k p before moves) other
      · rw [State.judged, run]
        simp [safe]

/-- The awning with its motor started inward for a stow (R122). -/
def State.stowing (s : State) : AwningUnit :=
  { s.awu with
    motor := s.awu.motor.startedAs .inward s.awningProfile.breakawayDuty
    ramped := s.awningProfile.breakawayDuty, breaking := true, creeping := false
    breakTimer := some (s.now + s.awningProfile.breakawayTime), stallTimer := some (s.now + s.awningProfile.stallWindow)
    jogTimer := none, pend := none }

/-- The grant of a stow: its motor starts inward, whatever the wind (R122, R130). -/
theorem grant_stow (undisturbed : y.Undisturbed) (job : o.job = stowJob) (first : o.resumed = false) :
    y.grant sl o = { y with
      opt := { y.opt with slots := y.opt.slots.set sl (some { o with state := .running (some .move), resumed := false }) }
      sta := (y.grantRecord sl o).sta, awu := y.stowing }
    ∧ (y.grant sl o).unjudged := by
  have kind : o.job.kind = .awningStow := by rw [job]; rfl
  have group : o.job.group = .awning := by rw [job]; rfl
  have inward : (y.grantRecord sl o).awningHeading o = .inward := by simp [State.awningHeading, kind]
  have taken : (y.grantRecord sl o).awningTaken o = y.awu := by simp [State.awningTaken, kind]; rfl
  have starts : (y.grantRecord sl o).startOp sl o = { y with
      opt := { y.opt with slots := y.opt.slots.set sl (some { o with state := .running (some .move), resumed := false }) }
      sta := (y.grantRecord sl o).sta, awu := y.stowing } := by
    rw [State.startOp, group]
    show (y.grantRecord sl o).startAwning sl o o.resumed = _
    rw [((startAwning_cases (y.grantRecord sl o) sl o).2 (by simp [first])).2 (by simp [inward]), taken,
      runAwning_eq (h := { y.grantRecord sl o with awu := y.awu }) (grantRecord_self y sl o)]
    have dir : ({ y.grantRecord sl o with awu := y.awu } : State).awningDir o = .inward := by simp [State.awningDir, kind]
    have slots := set_twice y.opt.slots sl (some o.started) (some { o with state := .running (some .move), resumed := false })
    rw [dir]
    simp only [kind, first]
    exact congrArg (fun b => ({ y with opt := { y.opt with slots := b }, sta := (y.grantRecord sl o).sta, awu := y.stowing } : State)) slots
  have wrote : Wrote y ((y.grantRecord sl o).startOp sl o) sl { o with state := .running (some .move), resumed := false } := by
    rw [starts]
    exact wrote_setOp y sl _
  have quiet : ((y.grantRecord sl o).startOp sl o).unjudged := by
    refine unjudged_safety undisturbed (by rw [starts]) fun k p hp running => ?_
    by_cases e : sl = k
    · subst e
      rw [wrote.self] at hp
      cases hp
      exact .inr (by rw [Op.opClass, kind]; rfl)
    · exact .inl ((wrote.other e).symm.trans hp)
  have same : y.grant sl o = (y.grantRecord sl o).startOp sl o := judgeStanding_unjudged quiet _
  exact ⟨same.trans starts, same ▸ quiet⟩

/-- The end of an event with a stow alone in the queue: it waits under the first test it fails, or is granted. -/
theorem stow_settles (undisturbed : u.Undisturbed) (queue : u.sta.queue = [sl]) (ho : u.opAt sl = some o)
    (job : o.job = stowJob) (waits : o.state.isAdmitted = true) (first : o.resumed = false) :
    ∃ x st, Follows x u.settle ∧ x.opt = { u.opt with slots := u.opt.slots.set sl (some { o with state := st }) }
      ∧ u.keepsBut x [.table, .arbiter, .awning] ∧ x.ntu = u.ntu ∧ x.liu = u.liu ∧ x.inm = u.inm ∧ x.ist = u.ist
      ∧ (st = .running (some .move) ∧ x.awu = u.stowing ∨ ∃ w, st = .admitted w ∧ x.awu = u.awu) := by
  cases blocked : u.blockedBy o with
  | some w =>
    have after : (u.setOp sl { o with state := .admitted w }).Undisturbed :=
      undisturbed_waiting undisturbed (wrote_setOp u sl _) rfl rfl rfl
    exact ⟨_, .admitted w, follows_headBlocked undisturbed ⟨queue, ho, waits, blocked⟩ after, rfl, keepsBut_of, rfl, rfl, rfl, rfl,
      .inr ⟨w, rfl, rfl⟩⟩
  | none =>
    obtain ⟨e, flagged, ends⟩ := settle_examines undisturbed
    have calm : (u.withEntries e).Undisturbed := undisturbed_congr undisturbed rfl rfl rfl rfl
    obtain ⟨granted, quiet⟩ := grant_stow (sl := sl) calm job first
    rw [examineQueue_granted (s := u.withEntries e) queue ho waits blocked] at ends
    have follows := ends quiet
    rw [granted] at follows
    refine ⟨_, .running (some .move), follows, ?_, ?_, rfl, rfl, rfl, rfl, .inl ⟨rfl, rfl⟩⟩
    · have whole : ({ o with state := .running (some .move), resumed := false } : Op) = { o with state := .running (some .move) } := by
        cases o
        cases first
        rfl
      exact congrArg (fun p => ({ u.opt with slots := u.opt.slots.set sl (some p) } : Opt)) whole
    · exact keepsBut_of (clearance := fun _ k => flagged.judged k)

end

theorem admitInternal_alone {s : State} {j : Job} {sl : Slot} (place : s.placeSlot = some sl) (moves : s.idleJob j = false)
    (empty : s.sta.queue = []) : s.admitInternal j = s.joinedUnder sl s.internalTag j [sl] := by
  have queue : (s.placed sl s.internalTag j).queueWith sl j.kind.opClass = [sl] := by
    have left : (s.placed sl s.internalTag j).sta.queue = [] := by rw [placed_eq]; exact empty
    simp only [State.queueWith, State.enqueue, left]
    cases j.kind.opClass <;> rfl
  rw [State.admitInternal, admitJob_joins place moves, queue]
  rfl

/-! ### The coach condition record (R142) -/

theorem coachNow_congr {x t : State} (items : t.ist = x.ist) (inputs : t.inm.inputs = x.inm.inputs)
    (ready : t.inm.notReady = x.inm.notReady) (jacks : t.lvc = x.lvc) (rooms : t.sdc = x.sdc) (awning : t.awu = x.awu) :
    t.coachNow = x.coachNow := by
  obtain ⟨_, _, _, _, _, _, _, _, _, _, ⟨⟩, _, _, _, _⟩ := x
  obtain ⟨_, _, _, _, _, _, _, _, _, _, ⟨⟩, _, _, _, _⟩ := t
  dsimp only at *
  subst items inputs ready jacks rooms awning
  rfl

/-- Awake, the end of an event leaves the record of the present inputs and conditions. -/
theorem follows_coachNow {x t : State} (follows : Follows x t) (awake : x.inm.parked = false) : t.inm.coach = t.coachNow := by
  have inm := follows.inputs
  rw [follows.coach, if_neg (by simp [awake])]
  exact (coachNow_congr follows.items (by rw [inm]) (by rw [inm]) follows.jacks follows.rooms follows.awning).symm

theorem follows_notices {x t : State} (follows : Follows x t) : t.ntu.coach.inputs = x.ntu.coach.inputs := by
  rcases follows.notices.sets with ⟨same, -, -⟩ | ⟨raised, -⟩
  · rw [same]
  · rw [raised]
    rfl

/-! ### A stow created (R22, R131) -/

/-- What the creation of a stow in the slot `sl` leaves at the end of the event, from a state in which none waits. -/
structure StowCreated (v t : State) (sl : Slot) (st : OpState) : Prop where
  record : t.opAt sl = some { tag := v.internalTag, job := stowJob, state := st, pass := 0, admission := v.opt.admissions + 1
                              reservation := v.items.supply.shareAwning, resumed := false }
  state : st = .running (some .move) ∨ ∃ w, st = .admitted w
  motor : st = .running (some .move) → t.awu.motor.driven = true ∧ t.awu.motor.dir = some .inward
  free : ∀ k, k ≠ sl → v.opAt k = none → t.opAt k = none
  ends : ∀ k o, v.opAt k = some o → o.job.group = .awning → o.state.isEnded = false →
    ∃ x rem m, o.state.immediate (.cancelled .superseded) = some x
      ∧ t.opAt k = some { o with state := .ended x rem m, resumed := false }
  stays : ∀ k o, v.opAt k = some o → o.job.group ≠ .awning ∨ o.state.isEnded = true → t.opAt k = some o
  counters : t.opt.admissions = v.opt.admissions + 1 ∧ t.opt.internalTag = nextTag v.internalTag
  links : t.liu = { v.liu with claims := t.liu.claims }
  blocks : v.keepsBut t endBlocks
  inputs : t.inm.inputs = v.inm.inputs ∧ t.inm.parked = v.inm.parked
  coach : v.inm.parked = false → t.inm.coach = t.coachNow
  notices : t.ntu.coach.inputs = v.ntu.coach.inputs
  present : t.ntu.faults.present = t.presentNow

theorem createStow_leaves {v : State} {sl : Slot} (due : v.stowDue = true) (calm : v.Calm) (one : v.onePerGroup)
    (queue : v.sta.queue = []) (open_ : v.opAt sl = none) (below : ∀ k, k < sl → (v.opAt k).isSome = true) :
    ∃ st, StowCreated v v.createStow.settle sl st := by
  have over_ := superseded one
  have begun : v.createStow = v.supersede.admitInternal stowJob := by rw [State.createStow, if_pos due]
  rw [begun]
  generalize v.supersede = b at over_
  have empty : b.sta.queue = [] := List.eq_nil_iff_forall_not_mem.2 fun k mem => by
    have before := over_.queue k mem
    rw [queue] at before
    cases before
  have open_b : b.opAt sl = none := over_.free sl open_
  have place : b.placeSlot = some sl := placeSlot_lowest open_b fun k less => by
    rw [← Option.isSome_map (f := Op.tag), over_.occupied k, Option.isSome_map]
    exact below k less
  have tag : b.internalTag = v.internalTag := internalTag_congr over_.occupied over_.counters.2
  rw [admitInternal_alone place rfl empty, tag]
  let u := b.joinedUnder sl v.internalTag stowJob [sl]
  have wrote : Wrote b u sl (b.newRecord v.internalTag stowJob) := wrote_joinedUnder b sl _ _ _
  have undisturbed : u.Undisturbed := undisturbed_waiting (over_.calm calm).toUndisturbed wrote rfl rfl rfl
  obtain ⟨x, st, follows, opt, blocks, ntu, liu, inm, ist, granted⟩ :=
    stow_settles (u := u) undisturbed rfl wrote.self rfl rfl rfl
  change ∃ st, StowCreated v u.settle sl st
  generalize u.settle = t at follows
  have rewritten : Wrote u t sl { b.newRecord v.internalTag stowJob with state := st } :=
    (wrote_setOp u sl _).of_opt (follows.table.trans opt)
  have other : ∀ k, k ≠ sl → t.opAt k = b.opAt k := fun k hk => (rewritten.other hk.symm).trans (wrote.other hk.symm)
  have items : b.items = v.items := congrArg (·.items) (over_.blocks.1 .items (by decide) : b.ist = v.ist)
  have inputs : x.inm.inputs = v.inm.inputs ∧ x.inm.parked = v.inm.parked := by
    have kept : b.inm = _ := over_.blocks.1 .inputs (by decide)
    have same : x.inm = b.inm := inm
    rw [same, kept]
    exact ⟨rfl, rfl⟩
  refine ⟨st, ⟨?_, ?_, ?_, ?_, ?_, ?_, ?_, ?_, ?_, ?_, ?_, ?_, follows.notices.present⟩⟩
  · rw [rewritten.self, State.newRecord, items, over_.counters.1]
    rfl
  · rcases granted with ⟨runs, -⟩ | ⟨w, waits, -⟩
    · exact .inl runs
    · exact .inr ⟨w, waits⟩
  · intro runs
    rcases granted with ⟨-, awu⟩ | ⟨w, waits, -⟩
    · rw [follows.awning, awu]; exact ⟨rfl, rfl⟩
    · rw [waits] at runs; cases runs
  · exact fun k hk free => (other k hk).trans (over_.free k free)
  · intro k o ho awning moves
    obtain ⟨r, rem, m, result, at_k⟩ := over_.ends k o ho awning moves
    refine ⟨r, rem, m, result, (other k ?_).trans at_k⟩
    rintro rfl
    rw [open_] at ho
    cases ho
  · intro k o ho which
    refine (other k ?_).trans (over_.stays k o ho which)
    rintro rfl
    rw [open_] at ho
    cases ho
  · have table : t.opt = { u.opt with slots := t.opt.slots } := by rw [follows.table, opt]
    rw [table]
    exact ⟨congrArg (· + 1) over_.counters.1, rfl⟩
  · rw [follows.links, liu]
    exact over_.blocks.1 .links (by decide)
  · refine follows.keepsBut (keepsBut_trans over_.blocks (keepsBut_trans ?_ (keepsBut_mono blocks (by decide))))
    exact keepsBut_of
  · rw [follows.inputs]
    exact inputs
  · intro awake
    exact follows_coachNow follows (inputs.2.trans awake)
  · rw [follows_notices follows, ntu]
    exact over_.notices

end Sys2Proof.Machine
end

section
namespace Sys2Proof.Machine

-- One declaration at a time, so that the memory the check takes stays small.
set_option Elab.async false

/-! ### The awning's posture, which no hold and no cancel moves (R126) -/

/-- The awning's count, the direction of its last drive and its reference: what R23 and R131 read of it. -/
def State.posture (s : State) : Nat × Option Dir × Bool := (s.awu.motor.count, s.awu.motor.dir, s.awu.referenced)

theorem rampGroup_posture (s : State) (g : Group) : (s.rampGroup g).posture = s.posture := by cases g <;> rfl

theorem restGroup_posture (s : State) (g : Group) : (s.restGroup g).posture = s.posture := by cases g <;> rfl

theorem forgetGroup_posture (s : State) (g : Group) : (s.forgetGroup g).posture = s.posture := by cases g <;> rfl

theorem endOp_posture (s : State) (sl : Slot) (r : Result) : (s.endOp sl r).posture = s.posture := by
  unfold State.endOp
  split
  · rfl
  · next o ho =>
    obtain ⟨c, whole⟩ := writeEnd_eq ho r (s.remainingOf o)
    rw [whole]
    exact forgetGroup_posture s o.job.group

theorem moveHeld_posture (s : State) (sl : Slot) (x : HoldReason) : (s.moveHeld sl x).posture = s.posture := by
  cases ho : s.opAt sl with
  | none => rw [State.moveHeld, ho]
  | some o =>
    obtain ⟨c, whole⟩ := moveHeld_eq ho x
    rw [whole]
    exact restGroup_posture s o.job.group

/-- A reading of the state that no end and no hold of an operation changes. -/
structure Unmoved {α : Type} (view : State → α) : Prop where
  endOp : ∀ s sl r, view (s.endOp sl r) = view s
  moveHeld : ∀ s sl x, view (s.moveHeld sl x) = view s
  setOp : ∀ s sl o, view (s.setOp sl o) = view s
  rampGroup : ∀ s g, view (s.rampGroup g) = view s

section

variable {α : Type} {view : State → α}

theorem Unmoved.motionCeased (h : Unmoved view) (s : State) (sl : Slot) : view (s.motionCeased sl) = view s := by
  unfold State.motionCeased
  split
  · rfl
  · split
    · exact h.endOp s sl _
    · exact h.moveHeld s sl _
    · rfl

theorem Unmoved.stopToward (h : Unmoved view) (s : State) (sl : Slot) (d : Dest) : view (s.stopToward sl d) = view s := by
  unfold State.stopToward
  split
  · rfl
  · next o _ =>
    split
    · next ph _ =>
      have ramped : view ((s.setOp sl { o with state := .stopping d ph }).rampGroup o.job.group) = view s :=
        (h.rampGroup _ _).trans (h.setOp s sl _)
      dsimp only
      split
      · exact (h.motionCeased _ sl).trans ramped
      · exact ramped
    · rfl

theorem Unmoved.cancelOp (h : Unmoved view) (s : State) (sl : Slot) (r : Result) : view (s.cancelOp sl r) = view s := by
  unfold State.cancelOp
  split
  · rfl
  · split
    · exact h.endOp s sl r
    · exact h.endOp s sl r
    · exact h.stopToward s sl _
    · exact h.setOp s sl _
    · rfl
    · rfl

theorem Unmoved.holdOp (h : Unmoved view) (s : State) (sl : Slot) (x : HoldReason) : view (s.holdOp sl x) = view s := by
  unfold State.holdOp
  split
  · rfl
  · split
    · rfl
    · split
      · exact h.moveHeld s sl x
      · exact h.stopToward s sl _
      · rfl

theorem Unmoved.cancelAll (h : Unmoved view) (s : State) (p : State → Op → Bool) (r : Result) : view (s.cancelAll p r) = view s :=
  eachOp_invariant (I := fun u => view u = view s) (fun u sl _ hu _ _ => (h.cancelOp u sl r).trans hu) rfl

theorem Unmoved.holdAll (h : Unmoved view) (s : State) (p : Op → Bool) (x : HoldReason) : view (s.holdAll p x) = view s :=
  eachOp_invariant (I := fun u => view u = view s) (fun u sl _ hu _ _ => (h.holdOp u sl x).trans hu) rfl

end

theorem posture_unmoved : Unmoved State.posture :=
  ⟨endOp_posture, moveHeld_posture, fun _ _ _ => rfl, rampGroup_posture⟩

/-! ### The queue holds waiting operations alone -/

/-- Every entry of the queue is an ADMITTED operation. -/
def State.queuesWaiting (s : State) : Prop := ∀ q ∈ s.sta.queue, ∃ o, s.opAt q = some o ∧ o.state.isAdmitted = true

/-- An act on one slot that takes an ADMITTED operation off the queue keeps the queue one of waiting operations. -/
theorem queuesWaiting_step {u v : State} {sl : Slot} {o : Op} (h : u.queuesWaiting) (ho : u.opAt sl = some o)
    (others : ∀ k, sl ≠ k → v.opAt k = u.opAt k) (queue : ∀ k, k ∈ v.sta.queue → k ∈ u.sta.queue)
    (leaves : o.state.isAdmitted = true → sl ∉ v.sta.queue) : v.queuesWaiting := by
  intro q mem
  have other : sl ≠ q := by
    rintro rfl
    obtain ⟨p, hp, admitted⟩ := h sl (queue sl mem)
    rw [ho] at hp
    cases hp
    exact leaves admitted mem
  rw [others q other]
  exact h q (queue q mem)

theorem endOp_unqueues {s : State} {sl : Slot} {o : Op} (ho : s.opAt sl = some o) (r : Result) : sl ∉ (s.endOp sl r).sta.queue := by
  obtain ⟨c, whole⟩ := writeEnd_eq ho r (s.remainingOf o)
  simp [State.endOp, ho, whole]

theorem moveHeld_unqueues {s : State} {sl : Slot} {o : Op} (ho : s.opAt sl = some o) (x : HoldReason) :
    sl ∉ (s.moveHeld sl x).sta.queue := by
  obtain ⟨c, whole⟩ := moveHeld_eq ho x
  simp [whole]

theorem cancelAll_queuesWaiting {s : State} (h : s.queuesWaiting) (p : State → Op → Bool) (r : Result) :
    (s.cancelAll p r).queuesWaiting :=
  eachOp_invariant (fun u sl o hu ho _ => queuesWaiting_step hu ho (fun k hk => cancelOp_other u r hk) (eased_cancelOp u sl r).queue
    fun admitted => by
      cases state : o.state with
      | admitted w =>
        have ends : u.cancelOp sl r = u.endOp sl r := by rw [State.cancelOp, ho]; simp only [state]
        rw [ends]
        exact endOp_unqueues ho r
      | _ => rw [state] at admitted; cases admitted) h

theorem holdAll_queuesWaiting {s : State} (h : s.queuesWaiting) (p : Op → Bool) (x : HoldReason) : (s.holdAll p x).queuesWaiting :=
  eachOp_invariant (fun u sl o hu ho named => queuesWaiting_step hu ho (fun k hk => holdOp_other u x hk) (eased_holdOp u sl x).queue
    fun admitted => by
      cases state : o.state with
      | admitted w =>
        have normal : ¬ (o.opClass == .safety) = true := by
          intro safe
          rw [beq_iff_eq.1 safe] at named
          cases named
        have holds : u.holdOp sl x = u.moveHeld sl x := by rw [State.holdOp, ho]; simp only [if_neg normal, state]
        rw [holds]
        exact moveHeld_unqueues ho x
      | _ => rw [state] at admitted; cases admitted) h

/-- With none waiting, a queue of waiting operations is empty. -/
theorem queue_empty {s : State} (h : s.queuesWaiting) (calm : s.noneWaiting) : s.sta.queue = [] :=
  List.eq_nil_iff_forall_not_mem.2 fun q mem => by
    obtain ⟨o, ho, admitted⟩ := h q mem
    rw [calm q o ho] at admitted
    cases admitted

/-! ### A sweep of holds or cancels, as the stow's conditions read it (R131) -/

/-- What a sweep leaves of the records: each stands in its slot with its tag and its job, a SAFETY operation unchanged. -/
structure Swept (s v : State) : Prop where
  free : ∀ k, s.opAt k = none → v.opAt k = none
  kept : ∀ k o, s.opAt k = some o → ∃ after, v.opAt k = some after ∧ after.tag = o.tag ∧ after.job = o.job
    ∧ (o.opClass = .safety ∨ o.state.isEnded = true → after = o)

theorem holdLeaves_kept {s : State} {o after : Op} {x : HoldReason} (h : s.HoldLeaves o x after) :
    after.tag = o.tag ∧ after.job = o.job ∧ (o.opClass = .safety ∨ o.state.isEnded = true → after = o) := by
  unfold State.HoldLeaves at h
  split at h
  · exact ⟨congrArg Op.tag h, congrArg Op.job h, fun _ => h⟩
  · next normal =>
    have never : ∀ {P : Prop}, o.state.isEnded = false → o.opClass = .safety ∨ o.state.isEnded = true → P := fun moves which => by
      rcases which with safe | ended
      · exact absurd safe normal
      · rw [moves] at ended; cases ended
    split at h
    · next state => rw [h]; exact ⟨rfl, rfl, never (by rw [state]; rfl)⟩
    · next state =>
      split at h
      · rw [h]; exact ⟨rfl, rfl, never (by rw [state]; rfl)⟩
      · rw [h]; exact ⟨rfl, rfl, never (by rw [state]; rfl)⟩
    · exact ⟨congrArg Op.tag h, congrArg Op.job h, fun _ => h⟩

theorem cancelLeaves_kept {s : State} {o after : Op} {r : Result} (h : s.CancelLeaves o r after) :
    after.tag = o.tag ∧ after.job = o.job ∧ (o.state.isEnded = true → after = o) := by
  have never : ∀ {P : Prop}, o.state.isEnded = false → o.state.isEnded = true → P := fun moves ended => by
    rw [moves] at ended; cases ended
  unfold State.CancelLeaves at h
  split at h
  · next state => obtain ⟨_, _, rfl⟩ := h; exact ⟨rfl, rfl, never (by rw [state]; rfl)⟩
  · next state => obtain ⟨_, _, rfl⟩ := h; exact ⟨rfl, rfl, never (by rw [state]; rfl)⟩
  · next state =>
    split at h
    · obtain ⟨_, _, rfl⟩ := h; exact ⟨rfl, rfl, never (by rw [state]; rfl)⟩
    · rw [h]; exact ⟨rfl, rfl, never (by rw [state]; rfl)⟩
  · next state => rw [h]; exact ⟨rfl, rfl, never (by rw [state]; rfl)⟩
  · exact ⟨congrArg Op.tag h, congrArg Op.job h, fun _ => h⟩
  · exact ⟨congrArg Op.tag h, congrArg Op.job h, fun _ => h⟩

theorem swept_held {s v : State} {p : Op → Bool} {x : HoldReason}
    (records : s.eachRecord v p (fun o after => s.HoldLeaves o x after)) : Swept s v := by
  refine ⟨fun k => (records k).1, fun k o ho => ?_⟩
  cases named : p o with
  | false => exact ⟨o, ((records k).2 o ho).1 named, rfl, rfl, fun _ => rfl⟩
  | true =>
    obtain ⟨after, at_k, leaves⟩ := ((records k).2 o ho).2 named
    exact ⟨after, at_k, holdLeaves_kept leaves⟩

theorem swept_cancelled {s v : State} {p : Op → Bool} {r : Result} (normal : ∀ o, p o = true → o.opClass = .normal)
    (records : s.eachRecord v p (fun o after => s.CancelLeaves o r after)) : Swept s v := by
  refine ⟨fun k => (records k).1, fun k o ho => ?_⟩
  cases named : p o with
  | false => exact ⟨o, ((records k).2 o ho).1 named, rfl, rfl, fun _ => rfl⟩
  | true =>
    obtain ⟨after, at_k, leaves⟩ := ((records k).2 o ho).2 named
    obtain ⟨tag, job, ended⟩ := cancelLeaves_kept leaves
    refine ⟨after, at_k, tag, job, fun which => ?_⟩
    rcases which with safe | over_
    · rw [normal o named] at safe; cases safe
    · exact ended over_

section

variable {s v : State}

theorem Swept.occupied (h : Swept s v) (k : Slot) : (v.opAt k).map Op.tag = (s.opAt k).map Op.tag := by
  cases ho : s.opAt k with
  | none => rw [h.free k ho]
  | some o =>
    obtain ⟨after, at_k, tag, -⟩ := h.kept k o ho
    rw [at_k]
    exact congrArg some tag

theorem Swept.stowRunning (h : Swept s v) : v.stowRunning = s.stowRunning := by
  refine congrArg Option.isSome (findSlot_congr fun k => ?_)
  cases ho : s.opAt k with
  | none => rw [h.free k ho]
  | some o =>
    obtain ⟨after, at_k, -, job, same⟩ := h.kept k o ho
    rw [at_k]
    by_cases stow : o.job.kind = .awningStow
    · rw [same (.inl (by rw [Op.opClass, stow]; rfl))]
    · simp only [Option.any_some, job, beq_eq_false_iff_ne.2 stow, Bool.false_and]

end

theorem inputOf_congr {s v : State} (items : v.ist = s.ist) (f : Func) : v.inputOf f = s.inputOf f := by
  show inputNumbers.find? (fun i => decide (v.ist.items.inp.function.get i = f)) = _
  rw [items]
  rfl

/-- The conditions of a stow (R131), by what they read. -/
theorem stowDue_congr {s v : State} (items : v.ist = s.ist) (ready : v.inm.notReady = s.inm.notReady)
    (closed : v.shut .awningIn = s.shut .awningIn) (eStop : v.shut .eStop = s.shut .eStop) (posture : v.posture = s.posture)
    (stow : v.stowRunning = s.stowRunning) : v.stowDue = s.stowDue := by
  have referenced : v.awu.referenced = s.awu.referenced := congrArg (fun x => x.2.2) posture
  have condition : v.awningCondition = s.awningCondition := by rw [State.awningCondition, State.awningCondition, closed, referenced]
  have stop : v.coachNow.eStop = s.coachNow.eStop := by
    have now : v.eStopNow = s.eStopNow := by rw [State.eStopNow, State.eStopNow, eStop, inputOf_congr items]
    rw [State.coachNow, State.coachNow, ready]
    split
    · rfl
    · exact now
  have three : v.step3 = s.step3 := by
    have mandatory : v.mandatory = s.mandatory := by rw [State.mandatory, State.mandatory, State.items, State.items, items]
    simp only [State.step3, State.unassigned, mandatory, inputOf_congr items, items]
  rw [State.stowDue, State.stowDue, three, condition, stow, stop, State.items, State.items, items]

theorem createStow_idle {s : State} (h : s.stowDue = false) : s.createStow = s := by rw [State.createStow, h]; rfl

end Sys2Proof.Machine
end

section
namespace Sys2Proof.Machine

-- One declaration at a time, so that the memory the check takes stays small.
set_option Elab.async false

/-! ### A stow after a sweep of holds or cancels (R22, R131) -/

/-- A stow created after a sweep, in the terms of the state before the sweep. -/
structure StowAfter (s v t : State) (sl : Slot) (st : OpState) : Prop where
  created : StowCreated v t sl st
  record : t.opAt sl = some { tag := s.internalTag, job := stowJob, state := st, pass := 0, admission := s.opt.admissions + 1
                              reservation := s.items.supply.shareAwning, resumed := false }
  free : ∀ k, k ≠ sl → s.opAt k = none → t.opAt k = none
  counters : t.opt.admissions = s.opt.admissions + 1 ∧ t.opt.internalTag = nextTag s.internalTag

theorem stow_after {s v : State} {sl : Slot} (swept : Swept s v) (calm : v.Calm) (one : v.onePerGroup) (queue : v.sta.queue = [])
    (due : v.stowDue = true) (counters : v.opt.admissions = s.opt.admissions ∧ v.opt.internalTag = s.opt.internalTag)
    (items : v.ist = s.ist) (open_ : s.opAt sl = none) (below : ∀ k, k < sl → (s.opAt k).isSome = true) :
    ∃ st, StowAfter s v v.createStow.settle sl st := by
  have occupied := swept.occupied
  obtain ⟨st, created⟩ := createStow_leaves due calm one queue (swept.free sl open_) fun k less => by
    rw [← Option.isSome_map (f := Op.tag), occupied k, Option.isSome_map]
    exact below k less
  have tag : v.internalTag = s.internalTag := internalTag_congr occupied counters.2
  refine ⟨st, created, ?_, fun k other free => created.free k other (swept.free k free), ?_, ?_⟩
  · rw [created.record, tag, counters.1, State.items, State.items, items]
  · rw [created.counters.1, counters.1]
  · rw [created.counters.2, tag]

/-! ### The two holds (R20, R36, R180) -/

/-- The result of an operation that is superseded: its own where it is headed for one. -/
def OpState.supersededBy (st : OpState) : Result :=
  match st with
  | .stopping (.ended r) _ => r
  | _ => .cancelled .superseded

theorem immediate_superseded {st : OpState} (running : st.isEnded = false) :
    st.immediate (.cancelled .superseded) = some st.supersededBy := by
  cases st with
  | ended => cases running
  | stopping d ph => cases d <;> rfl
  | _ => rfl

/-- A hold takes no operation to an end of its own: superseded in the same event, it ends as it would have without. -/
theorem held_superseded {s : State} {o after : Op} {x : HoldReason} (h : s.HoldLeaves o x after) (running : o.state.isEnded = false) :
    after.state.isEnded = false ∧ after.state.supersededBy = o.state.supersededBy
      ∧ ∀ z, ({ after with state := z, resumed := false } : Op) = { o with state := z, resumed := false } := by
  unfold State.HoldLeaves at h
  split at h
  · rw [h]; exact ⟨running, rfl, fun _ => rfl⟩
  · split at h
    · next state => rw [h, state]; exact ⟨rfl, rfl, fun _ => rfl⟩
    · next state =>
      split at h
      · rw [h, state]; exact ⟨rfl, rfl, fun _ => rfl⟩
      · rw [h, state]; exact ⟨rfl, rfl, fun _ => rfl⟩
    · rw [h]; exact ⟨running, rfl, fun _ => rfl⟩

theorem shut_congr {s v : State} (items : v.ist = s.ist) (inputs : v.inm.inputs = s.inm.inputs) (f : Func) : v.shut f = s.shut f := by
  rw [State.shut, State.shut, State.reads, State.reads, inputOf_congr items]
  simp only [State.input, inputs]

section

variable {s : State}

/-- The link gone silent (R180). -/
def State.silenced (s : State) : State := { s with liu := { s.liu with watchdog := none, silent := true } }

/-- Every LINK operation of class NORMAL held with LINK_SILENT (R20, R180). -/
def State.linkHeld (s : State) : State := s.silenced.holdAll (fun o => o.job.origin == .link) .linkSilent

/-- The blocks that the watchdog's expiry may change. -/
abbrev watchdogBlocks : List Block := [.table, .arbiter, .jacks, .rooms, .awning, .links, .orders, .claims]

/-- What the holds at a link's silence leave of a state whose waiting operations are all of the link (R20, R180). -/
structure LinkHeld (s v : State) : Prop where
  calm : v.Calm
  records : s.eachRecord v (fun o => o.job.origin == .link) (fun o after => s.HoldLeaves o .linkSilent after)
  opt : v.opt = { s.opt with slots := v.opt.slots }
  arbiter : v.sta = { s.sta with queue := v.sta.queue, resSum := v.sta.resSum, normalSum := v.sta.normalSum }
  liu : v.liu = { s.liu with watchdog := none, silent := true, claims := v.liu.claims }
  items : v.ist = s.ist
  keeps : s.keepsBut v watchdogBlocks
  due : v.stowDue = s.stowDue

theorem linkHeld_leaves (undisturbed : s.Undisturbed)
    (waiting : ∀ sl o, s.opAt sl = some o → o.state.isAdmitted = true → o.job.origin = .link ∧ o.opClass = .normal) :
    LinkHeld s s.linkHeld := by
  obtain ⟨calm, records, eased, opt, liu⟩ := watchdog_holds undisturbed waiting
  change Eased s.silenced s.linkHeld at eased
  have inm : s.linkHeld.inm = _ := eased.blocks.1 .inputs (by decide)
  have items : s.linkHeld.ist = s.ist := eased.blocks.1 .items (by decide)
  have posture : s.linkHeld.posture = s.posture := posture_unmoved.holdAll s.silenced _ _
  have shut := fun f => shut_congr (v := s.linkHeld) items (by rw [inm]; rfl) f
  exact ⟨calm, records, opt, eased.arbiter, liu, items,
    keepsBut_trans (keepsBut_of : s.keepsBut s.silenced watchdogBlocks) (keepsBut_mono eased.blocks (by decide)),
    stowDue_congr items (by rw [inm]; rfl) (shut _) (shut _) posture (swept_held records).stowRunning⟩

theorem watchdogExpired_eq (running : s.liu.watchdog.isSome = true) (items : s.linkHeld.ist = s.ist) :
    s.watchdogExpired = (if s.items.awn.stowOnLinkLoss = true then s.linkHeld.createStow else s.linkHeld).settle := by
  rw [State.watchdogExpired, if_pos running]
  have asked : s.items.awn.stowOnLinkLoss = s.linkHeld.items.awn.stowOnLinkLoss := by rw [State.items, State.items, items]
  rw [asked, apply_ite State.settle]
  rfl

/-- WATCHDOG_EXPIRY where no stow follows (R180). -/
theorem watchdog_silences (running : s.liu.watchdog.isSome = true) (without : s.items.awn.stowOnLinkLoss = false ∨ s.stowDue = false)
    (undisturbed : s.Undisturbed)
    (waiting : ∀ sl o, s.opAt sl = some o → o.state.isAdmitted = true → o.job.origin = .link ∧ o.opClass = .normal) :
    ∃ t, exec .watchdogExpiry s = .next t
      ∧ t.liu = { s.liu with watchdog := none, silent := true, claims := t.liu.claims }
      ∧ t.ntu.faults.present &&& FaultKind.watchdog.bit = FaultKind.watchdog.bit
      ∧ s.eachRecord t (fun o => o.job.origin == .link) (fun o after => s.HoldLeaves o .linkSilent after)
      ∧ t.opt.ends = s.opt.ends ∧ t.opt.endedList = s.opt.endedList ∧ t.opt.admissions = s.opt.admissions
      ∧ t.sta.stagger = s.sta.stagger ∧ t.sta.supply = s.sta.supply ∧ s.keepsBut t watchdogBlocks := by
  have held := linkHeld_leaves undisturbed waiting
  have event : s.watchdogExpired = s.linkHeld.settle := by
    rw [watchdogExpired_eq running held.items]
    split
    · next asked => rw [createStow_idle (held.due.trans (without.resolve_left (by simp [asked])))]
    · rfl
  have follows := follows_settle held.calm
  generalize s.linkHeld = v at held event follows
  refine ⟨v.settle, congrArg Host.Outcome.next event, ?_, ?_, fun sl => ?_, ?_, ?_, ?_, ?_, ?_, follows.keepsBut held.keeps⟩
  · rw [follows.links]; exact held.liu
  · rw [follows.notices.present]
    exact presentNow_watchdog (by rw [follows.links, held.liu])
  · rw [opAt_of_opt follows.table]
    exact held.records sl
  · rw [follows.table, held.opt]
  · rw [follows.table, held.opt]
  · rw [follows.table, held.opt]
  · rw [follows.arbiter, held.arbiter]
  · rw [follows.arbiter, held.arbiter]

/-- WATCHDOG_EXPIRY with a stow (R131, R180). -/
theorem watchdog_stows {sl : Slot} (running : s.liu.watchdog.isSome = true) (asked : s.items.awn.stowOnLinkLoss = true)
    (due : s.stowDue = true) (undisturbed : s.Undisturbed)
    (waiting : ∀ k o, s.opAt k = some o → o.state.isAdmitted = true → o.job.origin = .link ∧ o.opClass = .normal)
    (queue : s.queuesWaiting) (open_ : s.opAt sl = none) (below : ∀ i, i < sl → (s.opAt i).isSome = true) (one : s.onePerGroup) :
    ∃ t st v, exec .watchdogExpiry s = .next t ∧ StowAfter s v t sl st ∧ LinkHeld s v := by
  have held := linkHeld_leaves undisturbed waiting
  have sweep : Deeds s.silenced s.linkHeld := (acts_holdAll s.silenced (fun o => o.job.origin == .link) .linkSilent).deeds
  have single : s.linkHeld.onePerGroup := sweep.onePerGroup one
  have waits : s.linkHeld.queuesWaiting :=
    holdAll_queuesWaiting (s := s.silenced) queue (fun o => o.job.origin == .link) .linkSilent
  have event : s.watchdogExpired = s.linkHeld.createStow.settle := by rw [watchdogExpired_eq running held.items, if_pos asked]
  generalize s.linkHeld = v at held single waits event
  obtain ⟨st, after⟩ := stow_after (swept_held held.records) held.calm single (queue_empty waits held.calm.waiting)
    (held.due.trans due) ⟨by rw [held.opt], by rw [held.opt]⟩ held.items open_ below
  exact ⟨v.createStow.settle, st, v, congrArg Host.Outcome.next event, after, held⟩

/-- The supply judged HOLD at the hold timer's end (R36, R37). -/
def State.lowJudged (s : State) : State :=
  ({ s with sta := { s.sta with holdTimer := none, flags := { s.sta.flags with holdSet := true }, supply := .hold } } : State).raise .supply

theorem holdTimerExpired_hold (clear : s.sta.flags.cutSet = false) (judged : s.sta.supply ≠ .hold) :
    s.holdTimerExpired = s.lowJudged.holdAll (fun _ => true) .supplyLow := by
  have state : ({ s.sta.flags with holdSet := true } : SupplyFlags).state = .hold := by simp [SupplyFlags.state, clear]
  rw [State.holdTimerExpired, followSupply_eq]
  dsimp only
  rw [state, if_neg judged.symm]
  rfl

/-- HOLD_TIMER_EXPIRY before HOLD is judged and with the cut flag clear (R36, R39). -/
theorem holdTimer_holds (running : s.sta.holdTimer.isSome = true) (clear : s.sta.flags.cutSet = false) (judged : s.sta.supply ≠ .hold)
    (undisturbed : s.Undisturbed) (waiting : ∀ sl o, s.opAt sl = some o → o.state.isAdmitted = true → o.opClass = .normal) :
    ∃ t, exec .holdTimerExpiry s = .next t
      ∧ t.sta.holdTimer = none ∧ t.sta.flags = { s.sta.flags with holdSet := true } ∧ t.sta.supply = .hold
      ∧ t.sta.stagger = s.sta.stagger ∧ t.sta.filtered = s.sta.filtered ∧ t.sta.samples = s.sta.samples
      ∧ s.eachRecord t (fun _ => true) (fun o after => s.HoldLeaves o .supplyLow after)
      ∧ t.opt.ends = s.opt.ends ∧ t.opt.endedList = s.opt.endedList ∧ t.opt.admissions = s.opt.admissions
      ∧ t.ntu.coach.cats &&& Category.supply.bit = Category.supply.bit
      ∧ t.ntu.service.cats &&& Category.supply.bit = Category.supply.bit
      ∧ s.keepsBut t [.table, .arbiter, .jacks, .rooms, .awning, .orders, .claims] := by
  have records : s.eachRecord _ (fun _ => true) (fun o after => s.HoldLeaves o .supplyLow after) :=
    holdAll_records s.lowJudged (fun _ => true) .supplyLow
  have eased := eased_holdAll s.lowJudged (fun _ => true) .supplyLow
  have opt := holdAll_lists s.lowJudged (fun _ => true) .supplyLow
  have raised : (s.lowJudged.holdAll (fun _ => true) .supplyLow).raised .supply :=
    raised_holdAll (s := s.lowJudged) (raised_raise _ .supply) (fun _ => true) .supplyLow
  have event : exec .holdTimerExpiry s = .next (s.lowJudged.holdAll (fun _ => true) .supplyLow).settle := by
    show Host.Outcome.next (if s.sta.holdTimer.isSome then s.holdTimerExpired.settle else s) = _
    rw [if_pos running, holdTimerExpired_hold clear judged]
  generalize s.lowJudged.holdAll (fun _ => true) .supplyLow = v at records eased opt raised event
  have calm : v.Calm := ⟨undisturbed_held undisturbed (eased.blocks.1 .items (by decide))
    (congrArg (·.inputs) (eased.blocks.1 .inputs (by decide) : v.inm = _)) records,
    held_noneWaiting records fun sl o ho admitted => ⟨rfl, waiting sl o ho admitted⟩⟩
  have follows := follows_settle calm
  have arbiter := follows.arbiter.trans eased.arbiter
  have table := follows.table.trans opt
  refine ⟨v.settle, event, ?_, ?_, ?_, ?_, ?_, ?_, fun sl => ?_, ?_, ?_, ?_, ?_, ?_, follows.keepsBut ?_⟩
  · rw [arbiter]; rfl
  · rw [arbiter]; rfl
  · rw [arbiter]; rfl
  · rw [arbiter]; rfl
  · rw [arbiter]; rfl
  · rw [arbiter]; rfl
  · rw [opAt_of_opt follows.table]
    exact records sl
  · rw [table]; rfl
  · rw [table]; rfl
  · rw [table]; rfl
  · exact (follows.notices.cats raised.1 raised.2).1
  · exact (follows.notices.cats raised.1 raised.2).2
  · refine keepsBut_trans ?_ (keepsBut_mono eased.blocks (by decide))
    exact keepsBut_of

/-- HOLD_TIMER_EXPIRY while the supply is cut sets the flag alone (R36, R37). -/
theorem holdTimer_cut (running : s.sta.holdTimer.isSome = true) (cut : s.sta.flags.cutSet = true) (judged : s.sta.supply = .cut)
    (calm : s.Calm) : ∃ t, exec .holdTimerExpiry s = .next t
      ∧ Follows { s with sta := { s.sta with holdTimer := none, flags := { s.sta.flags with holdSet := true } } } t := by
  let u : State := { s with sta := { s.sta with holdTimer := none, flags := { s.sta.flags with holdSet := true } } }
  have state : u.sta.flags.state = .cut := by simp [u, SupplyFlags.state, cut]
  have flagged : s.holdTimerExpired = u := by
    show u.followSupply false = u
    rw [followSupply_eq, if_pos (state.trans judged.symm)]
  refine ⟨u.settle, ?_, follows_settle (calm_same calm rfl rfl rfl)⟩
  show Host.Outcome.next (if s.sta.holdTimer.isSome then s.holdTimerExpired.settle else s) = _
  rw [if_pos running, flagged]

end

/-- The awning's operation ends where the stow supersedes it (R22). -/
theorem StowAfter.supersedes {s v t : State} {sl k : Slot} {st : OpState} {o : Op} {p : Op → Bool} {x : HoldReason}
    (after : StowAfter s v t sl st) (records : s.eachRecord v p (fun o after => s.HoldLeaves o x after)) (ho : s.opAt k = some o)
    (awning : o.job.group = .awning) (moves : o.state.isEnded = false) :
    ∃ rem m, t.opAt k = some { o with state := .ended o.state.supersededBy rem m, resumed := false } := by
  cases named : p o with
  | true =>
    obtain ⟨q, at_k, leaves⟩ := ((records k).2 o ho).2 named
    obtain ⟨still, result, same⟩ := held_superseded leaves moves
    obtain ⟨-, job, -⟩ := holdLeaves_kept leaves
    obtain ⟨r, rem, m, immediate, ends⟩ := after.created.ends k q at_k (by rw [job]; exact awning) still
    rw [immediate_superseded still, result] at immediate
    cases immediate
    exact ⟨rem, m, by rw [ends, same]⟩
  | false =>
    obtain ⟨r, rem, m, immediate, ends⟩ := after.created.ends k o (((records k).2 o ho).1 named) awning moves
    rw [immediate_superseded moves] at immediate
    cases immediate
    exact ⟨rem, m, ends⟩

/-- Settles O36: each expiry by its holds; the stow of a link's silence by its creation from the state the holds leave. -/
theorem silenceAndLowSupplyHold : Obligations.SilenceAndLowSupplyHold := by
  intro s
  refine ⟨fun stopped => ?_, fun running without undisturbed waiting => watchdog_silences running without undisturbed waiting,
    fun sl running asked due undisturbed waiting queue open_ below one => ?_, fun stopped => ?_,
    fun running clear judged undisturbed waiting => holdTimer_holds running clear judged undisturbed waiting,
    fun running cut judged calm => holdTimer_cut running cut judged calm⟩
  · show Host.Outcome.next s.watchdogExpired = _
    rw [State.watchdogExpired, stopped]
    rfl
  · obtain ⟨t, st, v, event, after, held⟩ := watchdog_stows running asked due undisturbed waiting queue open_ below one
    refine ⟨t, st, event, ?_, after.record, after.created.state, after.created.motor, after.free, fun k o ho => ⟨fun awning moves => ?_,
      fun apart => ?_⟩, after.counters.1, after.counters.2, keepsBut_trans held.keeps (keepsBut_mono after.created.blocks (by decide))⟩
    · rw [after.created.links, held.liu]
    · exact after.supersedes held.records ho awning moves
    · cases link : o.job.origin == .link with
      | true =>
        obtain ⟨x, at_k, leaves⟩ := ((held.records k).2 o ho).2 link
        obtain ⟨-, job, same⟩ := holdLeaves_kept leaves
        have stays := after.created.stays k x at_k (by
          rcases apart with away | ended
          · exact .inl (by rw [job]; exact away)
          · exact .inr (by rw [same (.inr ended)]; exact ended))
        exact ⟨fun _ => ⟨x, stays, leaves⟩, fun other => absurd (beq_iff_eq.1 link) other⟩
      | false =>
        have stays := after.created.stays k o (((held.records k).2 o ho).1 link) apart
        exact ⟨fun own => absurd link (by simp [own]), fun _ => stays⟩
  · show Host.Outcome.next (if s.sta.holdTimer.isSome then s.holdTimerExpired.settle else s) = _
    rw [stopped]
    rfl

end Sys2Proof.Machine
end

section
namespace Sys2Proof.Machine

-- One declaration at a time, so that the memory the check takes stays small.
set_option Elab.async false

/-! ### A table as the values of its items (R194) -/

/-- The bank of a function's values. -/
def tabulate {α : Type} {n : Nat} (g : Fin n → α) : Bank α n := ⟨List.ofFn g, List.length_ofFn⟩

@[simp] theorem tabulate_get {α : Type} {n : Nat} (g : Fin n → α) (i : Fin n) : (tabulate g).get i = g i := by
  simp [Bank.get_eq_getElem, tabulate]

theorem tabulate_of {α : Type} {n : Nat} {b : Bank α n} {g : Fin n → α} (h : ∀ i, g i = b.get i) : tabulate g = b :=
  Bank.ext_get fun i => (tabulate_get g i).trans (h i)

theorem set_tabulate {α : Type} {n : Nat} {g h : Fin n → α} {i : Fin n} {a : α} (at_i : h i = a) (other : ∀ j, i ≠ j → h j = g j) :
    (tabulate g).set i a = tabulate h :=
  Bank.ext_get fun j => by
    rw [Bank.get_set, tabulate_get, tabulate_get]
    split
    · next same => rw [← same, at_i]
    · next apart => exact (other j apart).symm

theorem boolInt_eq_one (b : Bool) : (boolInt b == 1) = b := by cases b <;> rfl

theorem faultAction_ofCode_code (a : FaultAction) : FaultAction.ofCode a.code = a := by cases a <;> rfl

theorem alarmMask_ofInt (b : BitVec 8) : BitVec.ofInt 8 (b.toNat : Int) = b := by simp

/-- The function that a number names, for a number that names one. -/
def funcOfValue (v : Int) : Func := (Func.ofNumber v).getD .none

/-- The profile of its eleven values. -/
def Profile.ofValues (f : Fin 11 → Int) : Profile :=
  { rampUp := (f 0).toNat, rampDown := (f 1).toNat, breakawayDuty := (f 2).toNat, breakawayTime := (f 3).toNat, runDuty := (f 4).toNat
    creepDuty := (f 5).toNat, creepWindow := (f 6).toNat, endZone := (f 7).toNat, stallWindow := (f 8).toNat, stallCount := (f 9).toNat
    currentLimit := (f 10).toNat }

theorem Profile.ofValues_get (p : Profile) : Profile.ofValues (fun i => (p.get i : Int)) = p := rfl

/-- The table of a value for each item, and of its clearance entries. -/
def Items.ofValues (f : ItemKey → Int) (c : Bank ClearEntry 8) : Items :=
  { supply :=
      { budgetLimit := (f .budgetLimit).toNat, safetyReserve := (f .safetyReserve).toNat, sharePump := (f .sharePump).toNat
        shareRoomMotor := (f .shareRoomMotor).toNat, shareAwning := (f .shareAwning).toNat, staggerTime := (f .staggerTime).toNat
        vAdmit := (f .vAdmit).toNat, vHold := (f .vHold).toNat, vCut := (f .vCut).toNat, vOver := (f .vOver).toNat
        hysteresis := (f .hysteresis).toNat }
    att :=
      { rotation := (f .rotation).toNat, refPitch := f .refPitch, refRoll := f .refRoll, driftMargin := (f .driftMargin).toNat
        driftTime := (f .driftTime).toNat, autoRelevel := f .autoRelevel == 1 }
    jack :=
      { count := (f .jackCount).toNat, x := tabulate fun j => f (.jackX j), y := tabulate fun j => f (.jackY j)
        strokeMax := tabulate fun j => (f (.strokeMax j)).toNat, contactPressure := (f .contactPressure).toNat
        levelTolerance := (f .levelTolerance).toNat, maxSolveTilt := (f .maxSolveTilt).toNat, maxPasses := (f .maxPasses).toNat
        groundTimeout := (f .groundTimeout).toNat, settleTime := (f .settleTime).toNat, liftTimeout := (f .liftTimeout).toNat
        stowTimeout := (f .stowTimeout).toNat, strokeReserve := (f .strokeReserve).toNat, maxPassLift := (f .maxPassLift).toNat
        minMove := (f .minMove).toNat, rampUp := (f .pumpRampUp).toNat, rampDown := (f .pumpRampDown).toNat }
    room :=
      { count := (f .roomCount).toNat, motors := tabulate fun n => (f (.roomMotors n)).toNat
        travel := tabulate fun n => (f (.roomTravel n)).toNat, needGround := f .needGround == 1, withIgnition := f .withIgnition == 1
        faultAction := FaultAction.ofCode (f .faultAction), syncGain := (f .syncGain).toNat, syncTrimMax := (f .syncTrimMax).toNat
        syncLimit := (f .syncLimit).toNat, profile := Profile.ofValues fun i => f (.roomProfile i) }
    awn :=
      { present := f .awningPresent == 1, travel := (f .awningTravel).toNat, windFactor := (f .windFactor).toNat
        avgLimit := (f .avgLimit).toNat, gustLimit := (f .gustLimit).toNat, lockout := (f .lockout).toNat
        stowOnLinkLoss := f .stowOnLinkLoss == 1, profile := Profile.ofValues fun i => f (.awningProfile i) }
    inp :=
      { function := tabulate fun i => funcOfValue (f (.function i)), invert := tabulate fun i => f (.invert i) == 1
        debounce := (f .debounce).toNat, notice := tabulate fun i => f (.notice i) == 1, wake := tabulate fun i => f (.wake i) == 1
        slow := tabulate fun i => f (.slow i) == 1, autoPark := (f .autoPark).toNat, pollTime := (f .pollTime).toNat }
    clearance := c
    linkWatchdog := (f .linkWatchdog).toNat
    alarmMask := BitVec.ofInt 8 (f .alarmMask) }

/-- Every function is the one its number names (R178). -/
theorem func_ofNumber (f : Func) : Func.ofNumber f.number = some f := by
  have all : ∀ f : Func, f.code < 256 ∧ f.arg < 256 ∧ Func.ofCode f.code f.arg = some f := by
    intro f
    cases f with
    | roomIn n => revert n; decide
    | jackUp j => revert j; decide
    | _ => decide
  obtain ⟨code, arg, named⟩ := all f
  have nat : f.number = ((f.code + 256 * f.arg : Nat) : Int) := by simp [Func.number]
  rw [Func.ofNumber, if_pos (by rw [nat]; omega), nat, Int.toNat_natCast]
  rw [show (f.code + 256 * f.arg) % 256 = f.code by omega, show (f.code + 256 * f.arg) / 256 = f.arg by omega, named]

@[simp] theorem tabulate_self {α : Type} {n : Nat} (b : Bank α n) : (tabulate fun i => b.get i) = b := tabulate_of fun _ => rfl

/-- A table is that of its own values. -/
theorem Items.ofValues_get (t : Items) : Items.ofValues t.get t.clearance = t := by
  have funcs : ∀ f : Func, funcOfValue f.number = f := fun f => by rw [funcOfValue, func_ofNumber]; rfl
  simp only [Items.ofValues, Items.get, boolInt_eq_one, faultAction_ofCode_code, alarmMask_ofInt, Int.toNat_natCast, funcs,
    Profile.ofValues_get, tabulate_self]

theorem Profile.put_ofValues (f : Fin 11 → Int) (i : Fin 11) (v : Int) :
    (Profile.ofValues f).put i v.toNat = Profile.ofValues (Function.update f i v) := by
  fin_cases i <;> rfl

theorem Profile.get_ofValues (f : Fin 11 → Int) (i : Fin 11) : (Profile.ofValues f).get i = (f i).toNat := by fin_cases i <;> rfl

/-- A value written in a column of items, as what each item of the column holds. -/
theorem column_update {n : Nat} {key : Fin n → ItemKey} (apart : Function.Injective key) (f : ItemKey → Int) (i : Fin n) (v : Int) :
    (fun j => Function.update f (key i) v (key j)) = Function.update (fun j => f (key j)) i v :=
  Function.update_comp_eq_of_injective f apart i v

theorem set_column {α : Type} {n : Nat} {key : Fin n → ItemKey} (apart : Function.Injective key) (read : Int → α) (f : ItemKey → Int)
    (i : Fin n) (v : Int) :
    (tabulate fun j => read (f (key j))).set i (read v) = tabulate fun j => read (Function.update f (key i) v (key j)) := by
  have column := congrFun (column_update apart f i v)
  exact set_tabulate (by rw [column, Function.update_self]) fun j other => by rw [column, Function.update_of_ne other.symm]

theorem put_column {key : Fin 11 → ItemKey} (apart : Function.Injective key) (f : ItemKey → Int) (i : Fin 11) (v : Int) :
    (Profile.ofValues fun j => f (key j)).put i v.toNat = Profile.ofValues fun j => Function.update f (key i) v (key j) := by
  rw [column_update apart]
  exact Profile.put_ofValues _ i v

/-- A value written is that of its item alone. -/
theorem Items.put_ofValues (f : ItemKey → Int) (c : Bank ClearEntry 8) (k : ItemKey) (v : Int)
    (named : ∀ i, k = .function i → (Func.ofNumber v).isSome = true) :
    (Items.ofValues f c).put k v = Items.ofValues (Function.update f k v) c := by
  let jack (x : JackItems) : Items := { Items.ofValues f c with jack := x }
  let room (x : RoomItems) : Items := { Items.ofValues f c with room := x }
  let inp (x : InputItems) : Items := { Items.ofValues f c with inp := x }
  cases k with
  | jackX j =>
    exact congrArg (fun b => jack { (Items.ofValues f c).jack with x := b }) (set_column (fun _ _ => ItemKey.jackX.inj) id f j v)
  | jackY j =>
    exact congrArg (fun b => jack { (Items.ofValues f c).jack with y := b }) (set_column (fun _ _ => ItemKey.jackY.inj) id f j v)
  | strokeMax j =>
    exact congrArg (fun b => jack { (Items.ofValues f c).jack with strokeMax := b })
      (set_column (fun _ _ => ItemKey.strokeMax.inj) Int.toNat f j v)
  | roomMotors n =>
    exact congrArg (fun b => room { (Items.ofValues f c).room with motors := b })
      (set_column (fun _ _ => ItemKey.roomMotors.inj) Int.toNat f n v)
  | roomTravel n =>
    exact congrArg (fun b => room { (Items.ofValues f c).room with travel := b })
      (set_column (fun _ _ => ItemKey.roomTravel.inj) Int.toNat f n v)
  | roomProfile i =>
    exact congrArg (fun b => room { (Items.ofValues f c).room with profile := b })
      (put_column (fun _ _ => ItemKey.roomProfile.inj) f i v)
  | awningProfile i =>
    exact congrArg (fun b => { Items.ofValues f c with awn := { (Items.ofValues f c).awn with profile := b } })
      (put_column (fun _ _ => ItemKey.awningProfile.inj) f i v)
  | function i =>
    obtain ⟨g, hg⟩ := Option.isSome_iff_exists.1 (named i rfl)
    have value : funcOfValue v = g := by rw [funcOfValue, hg]; rfl
    have column := set_column (fun _ _ => ItemKey.function.inj) funcOfValue f i v
    rw [value] at column
    rw [Items.put, hg]
    exact congrArg (fun b => inp { (Items.ofValues f c).inp with function := b }) column
  | invert i =>
    exact congrArg (fun b => inp { (Items.ofValues f c).inp with invert := b }) (set_column (fun _ _ => ItemKey.invert.inj) (· == 1) f i v)
  | notice i =>
    exact congrArg (fun b => inp { (Items.ofValues f c).inp with notice := b }) (set_column (fun _ _ => ItemKey.notice.inj) (· == 1) f i v)
  | wake i =>
    exact congrArg (fun b => inp { (Items.ofValues f c).inp with wake := b }) (set_column (fun _ _ => ItemKey.wake.inj) (· == 1) f i v)
  | slow i =>
    exact congrArg (fun b => inp { (Items.ofValues f c).inp with slow := b }) (set_column (fun _ _ => ItemKey.slow.inj) (· == 1) f i v)
  | _ => rfl

/-- A value as its item holds it. -/
def ItemKey.held (k : ItemKey) (v : Int) : Int := (Items.ofValues (fun _ => v) Items.default.clearance).get k

/-- Each item reads its own value. -/
theorem Items.get_ofValues (f : ItemKey → Int) (c : Bank ClearEntry 8) (k : ItemKey) : (Items.ofValues f c).get k = k.held (f k) := by
  cases k <;> simp only [ItemKey.held, Items.ofValues, Items.get, tabulate_get, Profile.get_ofValues]

/-- A domain without negative values. -/
def Domain.natural : Domain → Bool
  | .range lo _ => decide (0 ≤ lo)
  | .floorSet l => l.all (fun x => decide (0 ≤ x))
  | .jackCount | .watchdog | .choice _ => true
  | .function | .record => false

theorem Domain.nonneg {d : Domain} {v : Int} (holds : d.holds v = true) (natural : d.natural = true) : 0 ≤ v := by
  cases d with
  | range lo hi => simp only [Domain.holds, Domain.natural, decide_eq_true_eq] at holds natural; omega
  | floorSet l => exact of_decide_eq_true (List.all_eq_true.1 natural v (List.contains_iff_mem.1 holds))
  | jackCount => simp only [Domain.holds, decide_eq_true_eq] at holds; omega
  | watchdog => simp only [Domain.holds, decide_eq_true_eq] at holds; omega
  | choice n => simp only [Domain.holds, decide_eq_true_eq] at holds; omega
  | function => cases natural
  | record => cases natural

theorem profileDomain_natural (i : Fin 11) : (profileDomain i).natural = true := by revert i; decide

theorem boolInt_held {v : Int} (holds : (Domain.range 0 1).holds v = true) : boolInt (v == 1) = v := by
  have two : v = 0 ∨ v = 1 := by
    simp only [Domain.holds, decide_eq_true_eq] at holds
    omega
  rcases two with rfl | rfl <;> rfl

theorem finFrom1_some {n x : Nat} {i : Fin n} (h : finFrom1? n x = some i) : i.val + 1 = x := by
  unfold finFrom1? finOf? at h
  split at h
  · cases h
  · split at h
    · cases h; show x - 1 + 1 = x; omega
    · cases h

theorem func_ofCode_some {code arg : Nat} {g : Func} (h : Func.ofCode code arg = some g) : g.code = code ∧ g.arg = arg := by
  unfold Func.ofCode at h
  split at h
  · obtain ⟨n, named, rfl⟩ := Option.map_eq_some_iff.1 h
    exact ⟨rfl, finFrom1_some named⟩
  · obtain ⟨j, named, rfl⟩ := Option.map_eq_some_iff.1 h
    exact ⟨rfl, finFrom1_some named⟩
  · split at h
    · next zero =>
      split at h <;> cases h <;> exact ⟨rfl, zero.symm⟩
    · cases h

/-- The number of the function a number names is that number. -/
theorem number_funcOfValue {v : Int} (named : (Func.ofNumber v).isSome = true) : (funcOfValue v).number = v := by
  obtain ⟨g, hg⟩ := Option.isSome_iff_exists.1 named
  rw [funcOfValue, hg, Option.getD_some, Func.number]
  unfold Func.ofNumber at hg
  split at hg
  · obtain ⟨code, arg⟩ := func_ofCode_some hg
    rw [code, arg]
    omega
  · cases hg

/-- A value within its item's range or set is held as it is. -/
theorem ItemKey.held_of_holds {k : ItemKey} {v : Int} (holds : k.domain.holds v = true) (value : k.domain ≠ .record)
    (named : ∀ i, k = .function i → (Func.ofNumber v).isSome = true) : k.held v = v := by
  cases k with
  | refPitch | refRoll => rfl
  | jackX j | jackY j => exact tabulate_get _ _
  | autoRelevel | needGround | withIgnition | awningPresent | stowOnLinkLoss => exact boolInt_held holds
  | invert i | notice i | wake i | slow i => exact (congrArg boolInt (tabulate_get _ _)).trans (boolInt_held holds)
  | strokeMax j | roomMotors j | roomTravel j => exact (congrArg Int.ofNat (tabulate_get _ _)).trans (Int.toNat_of_nonneg (Domain.nonneg holds rfl))
  | roomProfile i | awningProfile i =>
    exact (congrArg Int.ofNat (Profile.get_ofValues _ _)).trans (Int.toNat_of_nonneg (Domain.nonneg holds (profileDomain_natural i)))
  | faultAction =>
    have three : v = 0 ∨ v = 1 ∨ v = 2 := by
      simp only [ItemKey.domain, Domain.holds, decide_eq_true_eq] at holds
      omega
    rcases three with rfl | rfl | rfl <;> rfl
  | function i => exact (congrArg Func.number (tabulate_get _ _)).trans (number_funcOfValue (named i rfl))
  | alarmMask =>
    simp only [ItemKey.domain, Domain.holds, decide_eq_true_eq] at holds
    show (((BitVec.ofInt 8 v).toNat : Nat) : Int) = v
    rw [BitVec.toNat_ofInt]
    omega
  | clearance e => exact absurd rfl value
  | _ => exact Int.toNat_of_nonneg (Domain.nonneg holds rfl)

end Sys2Proof.Machine
end

section
namespace Sys2Proof.Machine

-- One declaration at a time, so that the memory the check takes stays small.
set_option Elab.async false

/-! ### One item read after another is written (R194, R195) -/

section

variable {t : Items} {k : ItemKey} {v : Int}

theorem Items.put_eq (named : ∀ i, k = .function i → (Func.ofNumber v).isSome = true) :
    t.put k v = Items.ofValues (Function.update t.get k v) t.clearance := by
  rw [← Items.put_ofValues t.get t.clearance k v named, Items.ofValues_get]

theorem Items.get_held (t : Items) (k : ItemKey) : k.held (t.get k) = t.get k := by
  rw [← Items.get_ofValues t.get t.clearance, Items.ofValues_get]

theorem Items.get_put_self (holds : k.domain.holds v = true) (value : k.domain ≠ .record)
    (named : ∀ i, k = .function i → (Func.ofNumber v).isSome = true) : (t.put k v).get k = v := by
  rw [Items.put_eq named, Items.get_ofValues, Function.update_self, ItemKey.held_of_holds holds value named]

theorem Items.get_put_other {j : ItemKey} (apart : j ≠ k) (named : ∀ i, k = .function i → (Func.ofNumber v).isSome = true) :
    (t.put k v).get j = t.get j := by
  rw [Items.put_eq named, Items.get_ofValues, Function.update_of_ne apart, Items.get_held]

theorem Items.put_clearance (named : ∀ i, k = .function i → (Func.ofNumber v).isSome = true) :
    (t.put k v).clearance = t.clearance := by rw [Items.put_eq named]; rfl

theorem Items.ext_get {u : Items} (values : ∀ k, t.get k = u.get k) (entries : t.clearance = u.clearance) : t = u := by
  rw [← Items.ofValues_get t, ← Items.ofValues_get u, funext values, entries]

end

/-! ### Four bytes of a value (R173) -/

theorem outInt32_int32 (a b c d : Byte) : outInt32 (int32 a b c d) = [a, b, c, d] := by
  have ha := a.isLt
  have hb := b.isLt
  have hc := c.isLt
  have hd := d.isLt
  have whole : (BitVec.ofInt 32 (int32 a b c d)).toNat = a.toNat + 256 * b.toNat + 65536 * c.toNat + 16777216 * d.toNat := by
    rw [int32, BitVec.ofInt_toInt, BitVec.toNat_ofNat]
    omega
  rw [outInt32, whole, out32]
  simp only [List.cons.injEq, and_true]
  refine ⟨?_, ?_, ?_, ?_⟩ <;> apply BitVec.eq_of_toNat_eq <;> rw [BitVec.toNat_ofNat] <;> omega

theorem int32_outInt32 {v : Int} (small : -2147483648 ≤ v ∧ v < 2147483648) :
    ∃ a b c d, outInt32 v = [a, b, c, d] ∧ int32 a b c d = v := by
  refine ⟨_, _, _, _, rfl, ?_⟩
  have bound := (BitVec.ofInt 32 v).isLt
  have same : ∀ n : Nat, n < 4294967296 → (n % 256 + 256 * (n / 256 % 256) + 65536 * (n / 65536 % 256) + 16777216 * (n / 16777216 % 256)) = n := by
    intro n hn
    omega
  rw [int32]
  simp only [BitVec.toNat_ofNat]
  rw [show (2 : Nat) ^ 8 = 256 by rfl, same _ bound, BitVec.ofNat_toNat, BitVec.setWidth_eq, BitVec.toInt_ofInt]
  rw [Int.bmod_def]
  omega

/-- The bounds of a domain's values fit four bytes. -/
def Domain.small : Domain → Bool
  | .range lo hi => decide (-100000 ≤ lo ∧ hi ≤ 100000)
  | .floorSet l => l.all (fun x => decide (-100000 ≤ x ∧ x ≤ 100000))
  | .choice n => decide (n ≤ 100000)
  | .jackCount | .watchdog => true
  | .function | .record => false

theorem Domain.bounded {d : Domain} {v : Int} (holds : d.holds v = true) (small : d.small = true) : -100000 ≤ v ∧ v ≤ 100000 := by
  cases d with
  | range lo hi => simp only [Domain.holds, Domain.small, decide_eq_true_eq] at holds small; omega
  | floorSet l => exact of_decide_eq_true (List.all_eq_true.1 small v (List.contains_iff_mem.1 holds))
  | jackCount => simp only [Domain.holds, decide_eq_true_eq] at holds; omega
  | watchdog => simp only [Domain.holds, decide_eq_true_eq] at holds; omega
  | choice n => simp only [Domain.holds, Domain.small, decide_eq_true_eq] at holds small; omega
  | function => cases small
  | record => cases small

theorem ItemKey.domain_small (k : ItemKey) : k.domain.small = true ∨ k.domain = .function ∨ k.domain = .record := by
  cases k with
  | function i => exact .inr (.inl rfl)
  | clearance e => exact .inr (.inr rfl)
  | roomProfile i | awningProfile i =>
    left
    show (profileDomain i).small = true
    revert i
    decide
  | _ => exact .inl rfl

/-! ### A clearance record's sixteen bytes (R156, R178) -/

/-- A clearance entry that R156 takes. -/
structure ClearEntry.Fits (c : ClearEntry) : Prop where
  bounds : c.lo ≤ c.hi ∧ c.hi ≤ 1000
  subject : c.subject ≠ .jacks
  group : ∀ g lo hi, c.cond = .group g lo hi → lo ≤ hi ∧ hi ≤ 1000 ∧ g ≠ c.subject
  input : ∀ f st, c.cond = .input f st → f ≠ .none ∧ f ≠ .generic

theorem ClearEntry.write_length (c : ClearEntry) : c.write.length = 16 := by
  obtain ⟨en, sub, lo, hi, cond, act⟩ := c
  cases cond <;> rfl

/-- A record that is taken is one that R156 takes. -/
theorem RawEntry.take_fits {r : RawEntry} {c : ClearEntry} (h : r.take = some c) : c.Fits := by
  unfold RawEntry.take at h
  dsimp only at h
  split at h
  · cases h
  split at h
  · cases h
  split at h
  · cases h
  split at h
  · cases h
  split at h
  · cases h
  next ordered condOrdered notJacks apart used =>
  cases h
  refine ⟨by dsimp only; omega, notJacks, fun g lo hi cond => ?_, fun f st cond => ?_⟩
  · cases byGroup : r.byGroup with
    | false => rw [byGroup] at cond; cases cond
    | true =>
      rw [byGroup] at cond condOrdered apart
      cases cond
      simp only [Bool.true_and, decide_eq_true_eq, beq_iff_eq] at condOrdered apart
      exact ⟨by omega, by omega, apart⟩
  · cases byGroup : r.byGroup with
    | true => rw [byGroup] at cond; cases cond
    | false =>
      rw [byGroup] at cond used
      cases cond
      simpa using used

theorem num16_out16 {n : Nat} (small : n < 65536) : num16 (BitVec.ofNat 8 n) (BitVec.ofNat 8 (n / 256)) = n := by
  simp only [num16, BitVec.toNat_ofNat]
  omega

theorem two_bool (b : Bool) : two? (BitVec.ofNat 8 (if b then 1 else 0)) = some b := by cases b <;> rfl

theorem group_ofCode_code (g : Group) : Group.ofCode (BitVec.ofNat 8 g.code) = some g := by
  cases g with
  | room n => revert n; decide
  | _ => decide

theorem func_ofCode_code (f : Func) : Func.ofCode (BitVec.ofNat 8 f.code).toNat (BitVec.ofNat 8 f.arg).toNat = some f := by
  cases f with
  | roomIn n => revert n; decide
  | jackUp j => revert j; decide
  | _ => decide

/-- A record of a GROUP condition is read back from its bytes. -/
theorem ClearEntry.read_group {c : ClearEntry} {g : Group} {clo chi : Nat} (fits : c.Fits) (cond : c.cond = .group g clo chi) :
    (RawEntry.read c.write).bind RawEntry.take = some c := by
  obtain ⟨clo_chi, ctop, apart⟩ := fits.group g clo chi cond
  obtain ⟨⟨ordered, top⟩, notJacks, -, -⟩ := fits
  have detect : two? (BitVec.ofNat 8 (match c.action with | .protect => 0 | .detect => 1)) = some (c.action == .detect) := by
    cases c.action <;> rfl
  have action : (if (c.action == .detect) = true then ClearAction.detect else .protect) = c.action := by cases c.action <;> rfl
  have read : RawEntry.read c.write = some
      { enabled := c.enabled, subject := c.subject, lo := c.lo, hi := c.hi, byGroup := true, group := g, condLo := clo, condHi := chi
        func := .none, state := .closed, action := c.action } := by
    have bytes : c.write = [BitVec.ofNat 8 (if c.enabled then 1 else 0), BitVec.ofNat 8 c.subject.code, BitVec.ofNat 8 c.lo,
        BitVec.ofNat 8 (c.lo / 256), BitVec.ofNat 8 c.hi, BitVec.ofNat 8 (c.hi / 256), 0,
        BitVec.ofNat 8 (match c.action with | .protect => 0 | .detect => 1), BitVec.ofNat 8 g.code, BitVec.ofNat 8 clo,
        BitVec.ofNat 8 (clo / 256), BitVec.ofNat 8 chi, BitVec.ofNat 8 (chi / 256), 0, 0, 0] := by
      rw [ClearEntry.write, cond]
      cases c.action <;> rfl
    rw [bytes]
    simp only [RawEntry.read, two_bool, group_ofCode_code, detect, show two? 0 = some false from rfl, action, Option.map_some,
      num16_out16 (show c.lo < 65536 by omega), num16_out16 (show c.hi < 65536 by omega), num16_out16 (show clo < 65536 by omega),
      num16_out16 (show chi < 65536 by omega)]
    rfl
  rw [read, Option.bind_some, RawEntry.take]
  simp only [Nat.min_eq_right (show c.lo ≤ 1000 by omega), Nat.min_eq_right top, Nat.min_eq_right (show clo ≤ 1000 by omega),
    Nat.min_eq_right ctop, if_neg (show ¬ c.hi < c.lo by omega), show decide (chi < clo) = false from decide_eq_false (by omega),
    Bool.and_false, beq_eq_false_iff_ne.2 apart, if_neg notJacks]
  rw [← cond]
  rfl

/-- A record of an INPUT condition is read back from its bytes. -/
theorem ClearEntry.read_input {c : ClearEntry} {f : Func} {st : Contact} (fits : c.Fits) (cond : c.cond = .input f st) :
    (RawEntry.read c.write).bind RawEntry.take = some c := by
  obtain ⟨used, specific⟩ := fits.input f st cond
  obtain ⟨⟨ordered, top⟩, notJacks, -, -⟩ := fits
  have detect : two? (BitVec.ofNat 8 (match c.action with | .protect => 0 | .detect => 1)) = some (c.action == .detect) := by
    cases c.action <;> rfl
  have action : (if (c.action == .detect) = true then ClearAction.detect else .protect) = c.action := by cases c.action <;> rfl
  have contact : two? (BitVec.ofNat 8 st.code) = some (st == .opened) := by cases st <;> rfl
  have state : (if (st == .opened) = true then Contact.opened else .closed) = st := by cases st <;> rfl
  have read : RawEntry.read c.write = some
      { enabled := c.enabled, subject := c.subject, lo := c.lo, hi := c.hi, byGroup := false, group := .jacks, condLo := 0, condHi := 0
        func := f, state := st, action := c.action } := by
    have bytes : c.write = [BitVec.ofNat 8 (if c.enabled then 1 else 0), BitVec.ofNat 8 c.subject.code, BitVec.ofNat 8 c.lo,
        BitVec.ofNat 8 (c.lo / 256), BitVec.ofNat 8 c.hi, BitVec.ofNat 8 (c.hi / 256), 1,
        BitVec.ofNat 8 (match c.action with | .protect => 0 | .detect => 1), 0, 0, 0, 0, 0, BitVec.ofNat 8 f.code,
        BitVec.ofNat 8 f.arg, BitVec.ofNat 8 st.code] := by
      rw [ClearEntry.write, cond]
      cases c.action <;> rfl
    rw [bytes]
    simp only [RawEntry.read, two_bool, group_ofCode_code, func_ofCode_code, detect, show two? 1 = some true from rfl, action, contact, state,
      num16_out16 (show c.lo < 65536 by omega), num16_out16 (show c.hi < 65536 by omega)]
    rfl
  rw [read, Option.bind_some, RawEntry.take]
  simp only [Nat.min_eq_right (show c.lo ≤ 1000 by omega), Nat.min_eq_right top, if_neg (show ¬ c.hi < c.lo by omega),
    Bool.false_and, if_neg notJacks, beq_eq_false_iff_ne.2 used, beq_eq_false_iff_ne.2 specific]
  rw [← cond]
  rfl

/-- A record that R156 takes is read back from its bytes. -/
theorem ClearEntry.read_write {c : ClearEntry} (fits : c.Fits) : (RawEntry.read c.write).bind RawEntry.take = some c := by
  cases cond : c.cond with
  | group g clo chi => exact ClearEntry.read_group fits cond
  | input f st => exact ClearEntry.read_input fits cond

end Sys2Proof.Machine
end

section
namespace Sys2Proof.Machine

-- One declaration at a time, so that the memory the check takes stays small.
set_option Elab.async false

/-! ### One item written and read back (R196, R197) -/

/-- Two tables agree in one item. -/
def Items.AgreesAt (t u : Items) : ItemKey → Prop
  | .clearance e => u.clearance.get e = t.clearance.get e
  | k => u.get k = t.get k

/-- The value of one item lies within its range or set, or is a record that R156 takes. -/
def Items.FitsAt (t : Items) : ItemKey → Prop
  | .clearance e => (t.clearance.get e).Fits
  | k => k.domain.holds (t.get k) = true

section

variable {t u r : Items} {k j : ItemKey}

theorem Items.AgreesAt.symm (h : t.AgreesAt u k) : u.AgreesAt t k := by cases k <;> exact Eq.symm h

theorem Items.AgreesAt.trans (h : t.AgreesAt u k) (g : u.AgreesAt r k) : t.AgreesAt r k := by cases k <;> exact Eq.trans g h

/-- An item that is a number. -/
theorem value_key : k.domain ≠ .record ∨ ∃ e, k = .clearance e := by
  cases k with
  | clearance e => exact .inr ⟨e, rfl⟩
  | roomProfile i | awningProfile i =>
    refine .inl ?_
    show profileDomain i ≠ .record
    revert i
    decide
  | _ => exact .inl (by intro h; cases h)

theorem agreesAt_value (value : k.domain ≠ .record) : t.AgreesAt u k ↔ u.get k = t.get k := by
  cases k with
  | clearance e => exact absurd rfl value
  | _ => exact Iff.rfl

theorem fitsAt_value (value : k.domain ≠ .record) : t.FitsAt k ↔ k.domain.holds (t.get k) = true := by
  cases k with
  | clearance e => exact absurd rfl value
  | _ => exact Iff.rfl

theorem itemBytes_value (value : k.domain ≠ .record) : t.itemBytes k = outInt32 (t.get k) := by
  cases k with
  | clearance e => exact absurd rfl value
  | _ => rfl

/-- Whether a number names a function where the item is one. -/
def ItemKey.names (k : ItemKey) (v : Int) : Bool :=
  match k with
  | .function _ => (Func.ofNumber v).isSome
  | _ => true

theorem names_isSome {v : Int} (h : k.names v = true) : ∀ i, k = .function i → (Func.ofNumber v).isSome = true := by
  rintro i rfl
  exact h

theorem names_get (t : Items) (k : ItemKey) : k.names (t.get k) = true := by
  cases k with
  | function i =>
    show (Func.ofNumber (t.inp.function.get i).number).isSome = true
    rw [func_ofNumber]
    rfl
  | _ => rfl

theorem function_key (h : k.domain = .function) : ∃ i, k = .function i := by
  cases k with
  | function i => exact ⟨i, rfl⟩
  | roomProfile i | awningProfile i =>
    have natural := profileDomain_natural i
    rw [show profileDomain i = .function from h] at natural
    cases natural
  | _ => cases h

/-- Reading a number of four bytes (R197). -/
theorem readItem_four (a b c d : Byte) (rest : List Byte) (value : k.domain ≠ .record) (t : Items) :
    t.readItem k (a :: b :: c :: d :: rest) = if k.domain.holds (int32 a b c d) = true ∧ k.names (int32 a b c d) = true
      then some (t.put k (int32 a b c d), rest) else none := by
  cases k with
  | clearance e => exact absurd rfl value
  | function i => exact if_congr ⟨fun named => ⟨rfl, named⟩, And.right⟩ rfl rfl
  | _ => exact if_congr ⟨fun holds => ⟨holds, rfl⟩, And.left⟩ rfl rfl

theorem readItem_short {bytes : List Byte} (value : k.domain ≠ .record) (short : bytes.length < 4) : t.readItem k bytes = none := by
  have never : ∀ {P : Prop} {a b c d : Byte} {rest : List Byte}, (a :: b :: c :: d :: rest).length < 4 → P := fun h => by
    simp only [List.length_cons] at h
    omega
  cases k with
  | clearance e => exact absurd rfl value
  | _ =>
    match bytes, short with
    | [], _ => rfl
    | [_], _ => rfl
    | [_, _], _ => rfl
    | [_, _, _], _ => rfl
    | _ :: _ :: _ :: _ :: _, short => exact never short

/-- One item of a table written into another. -/
def Items.copy (t u : Items) : ItemKey → Items
  | .clearance e => { u with clearance := u.clearance.set e (t.clearance.get e) }
  | k => u.put k (t.get k)

theorem copy_value (value : k.domain ≠ .record) (t u : Items) : t.copy u k = u.put k (t.get k) := by
  cases k with
  | clearance e => exact absurd rfl value
  | _ => rfl

theorem get_small (fits : t.FitsAt k) (value : k.domain ≠ .record) : -2147483648 ≤ t.get k ∧ t.get k < 2147483648 := by
  rcases k.domain_small with small | function | record
  · have := Domain.bounded ((fitsAt_value value).1 fits) small
    omega
  · obtain ⟨i, rfl⟩ := function_key function
    have named := names_isSome (names_get t (.function i)) i rfl
    unfold Func.ofNumber at named
    split at named
    · omega
    · cases named
  · exact absurd record value

/-- An item that fits is read back from its bytes. -/
theorem readItem_itemBytes (fits : t.FitsAt k) (u : Items) (rest : List Byte) :
    u.readItem k (t.itemBytes k ++ rest) = some (t.copy u k, rest) := by
  rcases value_key (k := k) with value | ⟨e, rfl⟩
  · obtain ⟨a, b, c, d, bytes, whole⟩ := int32_outInt32 (get_small fits value)
    rw [itemBytes_value value, bytes, copy_value value]
    show u.readItem k (a :: b :: c :: d :: rest) = _
    rw [readItem_four a b c d rest value, whole, if_pos ⟨(fitsAt_value value).1 fits, names_get t k⟩]
  · show u.readItem (.clearance e) ((t.clearance.get e).write ++ rest) = _
    have length := ClearEntry.write_length (t.clearance.get e)
    have front : ((t.clearance.get e).write ++ rest).take 16 = (t.clearance.get e).write := by rw [← length, List.take_left]
    have back : ((t.clearance.get e).write ++ rest).drop 16 = rest := by rw [← length, List.drop_left]
    simp only [Items.readItem, front, back, ClearEntry.read_write fits, if_true]
    rfl

/-- An item read is the front of the bytes, fits, and leaves every other item. -/
theorem readItem_some {bytes rest : List Byte} (read : t.readItem k bytes = some (u, rest)) :
    bytes = u.itemBytes k ++ rest ∧ u.FitsAt k ∧ ∀ j, j ≠ k → t.AgreesAt u j := by
  rcases value_key (k := k) with value | ⟨e, rfl⟩
  · match bytes with
    | a :: b :: c :: d :: tail =>
      rw [readItem_four a b c d tail value] at read
      split at read
      · next good =>
        obtain ⟨holds, named⟩ := good
        cases read
        have names := names_isSome named
        have self := Items.get_put_self (t := t) holds value names
        refine ⟨?_, (fitsAt_value value).2 (by rw [self]; exact holds), fun j apart => ?_⟩
        · rw [itemBytes_value value, self, outInt32_int32]
          rfl
        · rcases value_key (k := j) with number | ⟨e, rfl⟩
          · exact (agreesAt_value number).2 (Items.get_put_other apart names)
          · exact congrArg (fun c => c.get e) (Items.put_clearance names)
      · cases read
    | [] | [_] | [_, _] | [_, _, _] =>
      rw [readItem_short value (by simp)] at read
      cases read
  · simp only [Items.readItem] at read
    split at read
    · next c taken =>
      split at read
      · next canonical =>
        cases read
        have here : ({ t with clearance := t.clearance.set e c } : Items).clearance.get e = c := Bank.get_set_self _ _ _
        refine ⟨?_, ?_, fun j apart => ?_⟩
        · rw [Items.itemBytes, here, canonical, List.take_append_drop]
        · show (({ t with clearance := t.clearance.set e c } : Items).clearance.get e).Fits
          rw [here]
          obtain ⟨r, -, take⟩ := Option.bind_eq_some_iff.1 taken
          exact RawEntry.take_fits take
        · rcases value_key (k := j) with number | ⟨i, rfl⟩
          · refine (agreesAt_value number).2 ?_
            cases j <;> rfl
          · exact Bank.get_set_ne _ _ fun same => apart (by rw [same])
      · cases read
    · cases read

/-- A written item agrees with its table, the others stand. -/
theorem copy_agrees (fits : t.FitsAt k) (u : Items) : t.AgreesAt (t.copy u k) k ∧ ∀ j, j ≠ k → u.AgreesAt (t.copy u k) j := by
  obtain ⟨bytes, -, others⟩ := readItem_some (readItem_itemBytes fits u [])
  refine ⟨?_, others⟩
  rcases value_key (k := k) with value | ⟨e, rfl⟩
  · rw [agreesAt_value value, copy_value value,
      Items.get_put_self ((fitsAt_value value).1 fits) value (names_isSome (names_get t k))]
  · exact Bank.get_set_self _ _ _

theorem agreesAt_refl (t : Items) (k : ItemKey) : t.AgreesAt t k := by cases k <;> exact rfl

theorem agreesAt_bytes (h : t.AgreesAt u k) : u.itemBytes k = t.itemBytes k := by
  rcases value_key (k := k) with value | ⟨e, rfl⟩
  · rw [itemBytes_value value, itemBytes_value value, (agreesAt_value value).1 h]
  · exact congrArg ClearEntry.write h

theorem agreesAt_fits (h : t.AgreesAt u k) (fits : t.FitsAt k) : u.FitsAt k := by
  rcases value_key (k := k) with value | ⟨e, rfl⟩
  · rw [fitsAt_value value, (agreesAt_value value).1 h]
    exact (fitsAt_value value).1 fits
  · have same : u.clearance.get e = t.clearance.get e := h
    show (u.clearance.get e).Fits
    rw [same]
    exact fits

/-- Two tables that agree in every item are equal. -/
theorem agreesAt_ext (h : ∀ k, t.AgreesAt u k) : u = t := by
  refine Items.ext_get (fun k => ?_) (Bank.ext_get fun e => h (.clearance e))
  rcases value_key (k := k) with value | ⟨e, rfl⟩
  · exact (agreesAt_value value).1 (h k)
  · rfl

/-! ### The whole table written and read back (R196, R197) -/

/-- The items of a list, read back from their bytes one after the other. -/
theorem readImage_flatMap (l : List ItemKey) (fits : ∀ k ∈ l, t.FitsAt k) (u : Items) :
    ∃ r, Items.readImage l u (l.flatMap t.itemBytes) = some r ∧ ∀ k, k ∈ l ∨ t.AgreesAt u k → t.AgreesAt r k := by
  induction l generalizing u with
  | nil => exact ⟨u, rfl, fun k h => h.resolve_left (by simp)⟩
  | cons k l ih =>
    obtain ⟨here, others⟩ := copy_agrees (fits k (by simp)) u
    obtain ⟨r, read, agrees⟩ := ih (fun j mem => fits j (by simp [mem])) (t.copy u k)
    refine ⟨r, ?_, fun j which => agrees j ?_⟩
    · rw [List.flatMap_cons, Items.readImage, readItem_itemBytes (fits k (by simp))]
      exact read
    · by_cases same : j = k
      · rw [same]
        exact .inr here
      · rcases which with mem | already
        · exact .inl ((List.mem_cons.1 mem).resolve_left same)
        · exact .inr (already.trans (others j same))

/-- A table read from bytes is one that writes them. -/
theorem readImage_some {l : List ItemKey} (distinct : l.Nodup) {bytes : List Byte} {u : Items}
    (read : Items.readImage l u bytes = some r) :
    bytes = l.flatMap r.itemBytes ∧ (∀ k ∈ l, r.FitsAt k) ∧ ∀ k, k ∉ l → u.AgreesAt r k := by
  induction l generalizing u bytes with
  | nil =>
    cases bytes with
    | nil =>
      cases read
      exact ⟨rfl, by simp, fun k _ => agreesAt_refl _ k⟩
    | cons => cases read
  | cons k l ih =>
    obtain ⟨fresh, distinct⟩ := List.nodup_cons.1 distinct
    rw [Items.readImage] at read
    split at read
    · next v rest item =>
      obtain ⟨front, fits, others⟩ := readItem_some item
      obtain ⟨back, fit, outside⟩ := ih distinct read
      have here := outside k fresh
      refine ⟨?_, fun j mem => ?_, fun j apart => ?_⟩
      · rw [List.flatMap_cons, front, back, agreesAt_bytes here]
      · rcases List.mem_cons.1 mem with rfl | later
        · exact agreesAt_fits here fits
        · exact fit j later
      · simp only [List.mem_cons, not_or] at apart
        exact (others j apart.1).trans (outside j apart.2)
    · cases read

end

end Sys2Proof.Machine
end

section
namespace Sys2Proof.Machine

-- One declaration at a time, so that the memory the check takes stays small.
set_option Elab.async false

/-! ### The load at a reset (R197) -/

theorem mem_itemOrder (k : ItemKey) : k ∈ itemOrder := by
  have jacks : ∀ j : Jack, ItemKey.jackX j ∈ itemOrder ∧ ItemKey.jackY j ∈ itemOrder ∧ ItemKey.strokeMax j ∈ itemOrder := by decide +kernel
  have rooms : ∀ n : Room, ItemKey.roomMotors n ∈ itemOrder ∧ ItemKey.roomTravel n ∈ itemOrder := by decide +kernel
  have profiles : ∀ i : Fin 11, ItemKey.roomProfile i ∈ itemOrder ∧ ItemKey.awningProfile i ∈ itemOrder := by decide +kernel
  have inputs : ∀ i : Input, ItemKey.function i ∈ itemOrder ∧ ItemKey.invert i ∈ itemOrder ∧ ItemKey.notice i ∈ itemOrder
      ∧ ItemKey.wake i ∈ itemOrder ∧ ItemKey.slow i ∈ itemOrder := by decide +kernel
  have entries : ∀ e : Entry, ItemKey.clearance e ∈ itemOrder := by decide +kernel
  cases k with
  | jackX j => exact (jacks j).1
  | jackY j => exact (jacks j).2.1
  | strokeMax j => exact (jacks j).2.2
  | roomMotors n => exact (rooms n).1
  | roomTravel n => exact (rooms n).2
  | roomProfile i => exact (profiles i).1
  | awningProfile i => exact (profiles i).2
  | function i => exact (inputs i).1
  | invert i => exact (inputs i).2.1
  | notice i => exact (inputs i).2.2.1
  | wake i => exact (inputs i).2.2.2.1
  | slow i => exact (inputs i).2.2.2.2
  | clearance e => exact entries e
  | _ => decide +kernel

theorem itemOrder_nodup : itemOrder.Nodup := by decide +kernel

/-- A table is in range where each of its items fits. -/
theorem inRange_iff {t : Items} : t.InRange ↔ ∀ k, t.FitsAt k := by
  constructor
  · intro h k
    rcases value_key (k := k) with value | ⟨e, rfl⟩
    · exact (fitsAt_value value).2 (h.values k (mem_itemOrder k) value)
    · exact ⟨h.bounds e, h.subjects e, h.groups e, h.inputs e⟩
  · intro h
    have entry : ∀ e, (t.clearance.get e).Fits := fun e => h (.clearance e)
    exact ⟨fun k _ value => (fitsAt_value value).1 (h k), fun e => (entry e).bounds, fun e => (entry e).subject,
      fun e => (entry e).group, fun e => (entry e).input⟩

theorem loadImage_read {m : Image} {t : Items} (check : crc16 m.bytes = m.check)
    (read : Items.readImage itemOrder Items.default m.bytes = some t) : loadImage m = (t, .image) := by
  rw [loadImage, if_pos check, read]

/-- The image of a table in range loads that table. -/
theorem loadImage_image {t : Items} (h : t.InRange) : loadImage t.image = (t, .image) := by
  have fits := inRange_iff.1 h
  obtain ⟨r, read, agrees⟩ := readImage_flatMap itemOrder (fun k _ => fits k) Items.default
  have same : r = t := agreesAt_ext fun k => agrees k (.inl (mem_itemOrder k))
  rw [same] at read
  have check : crc16 t.image.bytes = t.image.check := by simp only [Items.image]
  exact loadImage_read check read

/-- An image that no table in range makes loads every default. -/
theorem loadImage_foreign {m : Image} (h : ∀ t : Items, t.InRange → t.image ≠ m) : loadImage m = (Items.default, .defaulted) := by
  unfold loadImage
  split
  · next check =>
    cases read : Items.readImage itemOrder Items.default m.bytes with
    | none => rfl
    | some t =>
      obtain ⟨bytes, fits, -⟩ := readImage_some itemOrder_nodup read
      refine absurd ?_ (h t (inRange_iff.2 fun k => fits k (mem_itemOrder k)))
      have whole : t.imageBytes = m.bytes := bytes.symm
      rw [Items.image, whole, check]
  · rfl

theorem loadImage_check {m : Image} (h : crc16 m.bytes ≠ m.check) : loadImage m = (Items.default, .defaulted) := if_neg h

theorem default_inRange : Items.default.InRange := by
  have conds : ∀ k, (Items.default.clearance.get k).cond = .input .door .opened := by decide
  refine ⟨by decide +kernel, by decide, by decide, fun k g lo hi cond => ?_, fun k f st cond => ?_⟩
  · rw [conds] at cond
    cases cond
  · rw [conds] at cond
    cases cond
    decide

/-! ### A reset during a store (R196) -/

/-- The cells of an image: its bytes, then its check word. -/
def imageCells (m : Image) : List Byte := m.bytes ++ out16 m.check.toNat

theorem imageCells_length (m : Image) : (imageCells m).length = m.bytes.length + 2 := by simp [imageCells]

/-- Two bytes and those in front of them are the cells of an image. -/
theorem imageCells_split (body : List Byte) (lo hi : Byte) :
    imageCells { bytes := body, check := BitVec.ofNat 16 (num16 lo hi) } = body ++ [lo, hi] := by
  have word : (BitVec.ofNat 16 (num16 lo hi)).toNat = num16 lo hi := by
    have := lo.isLt
    have := hi.isLt
    rw [BitVec.toNat_ofNat, num16]
    omega
  rw [imageCells, word, out16_num16]

theorem last_two {l : List Byte} (long : 2 ≤ l.length) : ∃ lo hi, l.drop (l.length - 2) = [lo, hi] :=
  List.length_eq_two.1 (by rw [List.length_drop]; omega)

/-- The cells a reset finds when it ends a store: the written ones, then the old ones beyond them. -/
def State.mixedCells (s : State) : List Byte :=
  (imageCells s.items.image).take (Config.storedBytes s.draws) ++ (imageCells s.ist.image).drop (Config.storedBytes s.draws)

theorem mixedCells_long (s : State) : 2 ≤ s.mixedCells.length := by
  have new := imageCells_length s.items.image
  have old := imageCells_length s.ist.image
  rw [State.mixedCells, List.length_append, List.length_take, List.length_drop]
  omega

theorem cutStore_cells (s : State) : imageCells s.cutStore = s.mixedCells := by
  obtain ⟨lo, hi, ends⟩ := last_two (mixedCells_long s)
  have cut : s.cutStore = { bytes := s.mixedCells.take (s.mixedCells.length - 2), check := BitVec.ofNat 16 (num16 lo hi) } := by
    have shape : s.cutStore = (match s.mixedCells.drop (s.mixedCells.length - 2) with
      | [lo, hi] => { bytes := s.mixedCells.take (s.mixedCells.length - 2), check := BitVec.ofNat 16 (num16 lo hi) }
      | _ => { bytes := s.mixedCells.take (s.mixedCells.length - 2), check := 0 } : Image) := rfl
    rw [shape, ends]
  rw [cut, imageCells_split, ← ends, List.take_append_drop]

/-! ### What a boot leaves (R197) -/

section

variable {pending : List Instr} {now draws : Nat} {cause : RestartCause} {items : Items} {source : ItemSource} {image : Image}

theorem boot_link (l : Link) : (State.boot pending now draws cause items source image).link l = LinkUnit.reset := by cases l <;> rfl

theorem boot_motor (n : Room) (m : MotorId) :
    ((State.boot pending now draws cause items source image).roomUnit n).motor m = Motor.reset := by
  have unit : (State.boot pending now draws cause items source image).roomUnit n = RoomUnit.reset := Bank.get_fill _ _
  rw [unit]
  cases m <;> rfl

theorem boot_jack (j : Jack) : (State.boot pending now draws cause items source image).jack j = JackUnit.reset := Bank.get_fill _ _

theorem boot_input (i : Input) : (State.boot pending now draws cause items source image).input i = InputUnit.reset := Bank.get_fill _ _

theorem boot_room (n : Room) : (State.boot pending now draws cause items source image).roomUnit n = RoomUnit.reset := Bank.get_fill _ _

theorem boot_claimOf (g : Group) : (State.boot pending now draws cause items source image).claimOf g = .free := Bank.get_fill _ _

theorem boot_latched : (State.boot pending now draws cause items source image).ntu.faults.latched &&& FaultKind.restart.bit
    = FaultKind.restart.bit := by
  cases source with
  | image => exact BitVec.and_self
  | defaulted => exact (by decide : (FaultKind.restart.bit ||| FaultKind.itemsDefaulted.bit) &&& FaultKind.restart.bit = FaultKind.restart.bit)

end

/-- Settles O23: a reset boots from the image that stands, or from the one that a store had left when it was cut; the load reads
the table item by item, each from the bytes that the store writes. -/
theorem resetLeaves : Obligations.ResetLeaves := by
  refine ⟨fun s c idle => ?_, fun s c l storing => ?_, fun t => loadImage_image, fun m => loadImage_foreign, fun m => loadImage_check,
    default_inRange⟩
  · have event : exec (.reset c) s = .next (State.boot s.pending s.now s.draws (supplyCause c) (loadImage s.ist.image).1
        (loadImage s.ist.image).2 s.ist.image) := by
      show Host.Outcome.next (s.restart (supplyCause c)) = _
      rw [State.restart, idle]
      rfl
    refine ⟨_, event, rfl, rfl, rfl, rfl, rfl, rfl, boot_opAt _ _ _ _ _ _ _, rfl, rfl, rfl, rfl, rfl, rfl, rfl, rfl, rfl, rfl, rfl, rfl, rfl, rfl, rfl,
      fun j => ?_, rfl, rfl, rfl, fun n m => ?_, rfl, rfl, rfl, rfl, rfl, rfl, rfl, rfl, rfl, rfl, fun i => ?_, fun l => ?_, rfl, rfl,
      boot_claimOf, rfl, rfl, rfl, boot_latched, ?_⟩
    · rw [boot_jack]; exact ⟨rfl, rfl, rfl⟩
    · rw [boot_motor, boot_room]; exact ⟨rfl, rfl, rfl, rfl⟩
    · rw [boot_input]; rfl
    · rw [boot_link]; exact ⟨rfl, rfl, rfl⟩
    · cases c <;> rfl
  · have event : exec (.reset c) s = .next (State.boot s.pending s.now (s.draws + 1) (supplyCause c) (loadImage s.cutStore).1
        (loadImage s.cutStore).2 s.cutStore) := by
      show Host.Outcome.next (s.restart (supplyCause c)) = _
      rw [State.restart, storing]
      rfl
    refine ⟨_, Config.storedBytes s.draws, event, rfl, cutStore_cells s, rfl, fun k => ?_⟩
    rw [boot_link]
    rfl

end Sys2Proof.Machine
end

section
namespace Sys2Proof.Machine

-- One declaration at a time, so that the memory the check takes stays small.
set_option Elab.async false

/-! ### The end of an event in which nothing is judged, stopped or granted -/

section

variable {u v : State}

theorem undisturbed_unjudged (h : u.Undisturbed) : u.unjudged :=
  unjudged_of h rfl fun _ _ hp _ => .inl hp

/-- The end of an event whose retract interlock leaves `v` (R83). -/
theorem settle_watched (watch : u.watchRetract = v) (quiet : v.unjudged) (waiting : v.noneWaiting) :
    ∃ e, Flagged v e ∧ u.settle = (v.withEntries e).driftIdle.deriveCoach.followIdle.sync := by
  obtain ⟨e, derived, first⟩ := derive_unjudged quiet
  obtain ⟨f, again, second⟩ := derive_unjudged (s := v.withEntries e) quiet
  have still : (v.withEntries e).examineQueue = v.withEntries e := examineQueue_noneWaiting (s := v.withEntries e) waiting
  refine ⟨f, ⟨fun k => ?_, second.flags⟩, ?_⟩
  · obtain ⟨lastA, lastB⟩ := second.judged k
    exact ⟨lastA.trans (first.judged k).1, lastB.trans (first.judged k).2⟩
  · rw [State.settle, watch, derived, still, again]
    rfl

/-- What follows from such an event, the idle timer among it (R147). -/
theorem follows_watched (watch : u.watchRetract = v) (quiet : v.unjudged) (waiting : v.noneWaiting) :
    Follows v u.settle ∧ u.settle.inm.idleTimer
      = if v.idleNow then
          (if v.inm.idle then v.inm.idleTimer
           else if v.items.inp.autoPark = 0 then none else some (v.now + v.items.inp.autoPark * 60000))
        else none := by
  obtain ⟨e, flagged, ends⟩ := settle_watched watch quiet waiting
  constructor
  · obtain ⟨timer, refreshed⟩ := tail_refreshed v e
    have notices : NoticesFollow v (v.refreshed e timer).sync := notices_of_ntu (w := v.refreshed e timer) rfl (notices_sync _)
    rw [ends, refreshed]
    rw [sync_frame] at notices ⊢
    exact ⟨⟨rfl, rfl, rfl⟩, rfl, rfl, rfl, rfl, rfl, rfl, rfl, rfl, rfl, rfl, rfl, rfl, rfl, flagged.judged, flagged.flags, notices⟩
  · have frame : (v.withEntries e).driftIdle.deriveCoach = { v.withEntries e with
        atu := { v.atu with drift := if v.watching then v.atu.drift else none }
        inm := { v.inm with coach := if v.inm.parked then v.inm.coach else v.coachNow } } := by
      rw [deriveCoach_eq, driftIdle_eq]
      rfl
    rw [ends, sync_frame, frame, State.followIdle]
    show (ite (v.idleNow = true) (ite (v.inm.idle = true) _ _) _ : State).inm.idleTimer = _
    split
    · split <;> rfl
    · rfl

end

/-! ### An input's debounced change, before it is handed on (R135, R146) -/

/-- The input debounced anew, its notice raised where it has one. -/
def State.turned (s : State) (i : Input) (c : Contact) : State :=
  let u := s.modInput i (fun x => { x with debounced := some c, debounce := none })
  if s.items.inp.notice.get i then u.raiseInput i else u

/-- What every clause asks of the inputs and of their change flags after a debounced change. -/
def State.showsTurned (s : State) (i : Input) (c : Contact) (t : State) : Prop :=
  t.input i = { s.input i with debounced := some c, debounce := none } ∧ (∀ k, k ≠ i → t.input k = s.input k)
    ∧ t.ntu.coach.inputs = if s.items.inp.notice.get i then s.ntu.coach.inputs ||| bitAt 24 i.val else s.ntu.coach.inputs

section

variable {s t : State} {i : Input} {c : Contact}

theorem turned_frame (s : State) (i : Input) (c : Contact) : s.turned i c = { s with
    inm := { s.inm with inputs := s.inm.inputs.modify i (fun x => { x with debounced := some c, debounce := none }) }
    ntu := (s.turned i c).ntu } := by
  unfold State.turned
  dsimp only
  split <;> rfl

theorem turned_stands (s : State) (i : Input) (c : Contact) :
    s.turned i c = { s with inm := (s.turned i c).inm, ntu := (s.turned i c).ntu } := by
  rw [turned_frame]

theorem turned_keeps (s : State) (i : Input) (c : Contact) : s.keepsBut (s.turned i c) [.inputs] := by
  rw [turned_frame]
  exact keepsBut_of

theorem showsTurned_of (inputs : t.inm.inputs = (s.turned i c).inm.inputs) (notices : t.ntu.coach.inputs = (s.turned i c).ntu.coach.inputs) :
    s.showsTurned i c t := by
  have unit : ∀ k, t.input k = if i = k then { s.input i with debounced := some c, debounce := none } else s.input k := fun k => by
    rw [State.input, inputs, turned_frame]
    exact Bank.get_set _ _ _ _
  refine ⟨by rw [unit, if_pos rfl], fun k other => by rw [unit, if_neg other.symm], ?_⟩
  rw [notices, State.turned]
  split <;> rfl

theorem follows_showsTurned {u : State} (follows : Follows u t) (inputs : u.inm.inputs = (s.turned i c).inm.inputs)
    (notices : u.ntu.coach.inputs = (s.turned i c).ntu.coach.inputs) : s.showsTurned i c t :=
  showsTurned_of (by rw [follows.inputs]; exact inputs) ((follows_notices follows).trans notices)

/-! #### What the functions read after the change (R136, R138) -/

theorem funcOf_inputOf {f : Func} (h : s.inputOf f = some i) : s.funcOf i = f := by simpa using List.find?_some h

/-- The function whose input changed reads the new state. -/
theorem shut_turned {f : Func} (h : s.inputOf f = some i) : (s.turned i c).shut f = (c == .closed) := by
  have named : (s.turned i c).inputOf f = some i := (inputOf_congr (by rw [turned_frame]) f).trans h
  have unit : (s.turned i c).input i = { s.input i with debounced := some c, debounce := none } := (showsTurned_of rfl rfl).1
  rw [State.shut, State.reads, named]
  dsimp only
  rw [unit]
  rfl

/-- Every other function reads as it did. -/
theorem shut_turned_other {f : Func} (h : s.inputOf f ≠ some i) : (s.turned i c).shut f = s.shut f := by
  have named : (s.turned i c).inputOf f = s.inputOf f := inputOf_congr (by rw [turned_frame]) f
  rw [State.shut, State.shut, State.reads, State.reads, named]
  cases found : s.inputOf f with
  | none => rfl
  | some k =>
    have other : k ≠ i := by
      rintro rfl
      exact h found
    have unit : (s.turned i c).input k = s.input k := (showsTurned_of (s := s) (i := i) (c := c) rfl rfl).2.1 k other
    dsimp only
    rw [unit]

/-- A function other than the changed input's own reads as it did. -/
theorem shut_turned_func {f g : Func} (h : s.inputOf g = some i) (apart : f ≠ g) : (s.turned i c).shut f = s.shut f :=
  shut_turned_other fun named => apart ((funcOf_inputOf named).symm.trans (funcOf_inputOf h))

/-! #### The event (R135) -/

theorem debounce_event {d : Contact} (running : (s.input i).debounce.isSome = true) (first : (s.input i).firstDone = true)
    (awake : s.inm.parked = false) (before : (s.input i).debounced = some d) :
    exec (.debounceExpiry i) s = .next ((s.turned i d.flip).handChange (s.funcOf i) d.flip).settle := by
  have expires : s.debounceExpired i = (s.turned i d.flip).handChange (s.funcOf i) d.flip := by
    have func : (s.turned i d.flip).funcOf i = s.funcOf i := by rw [State.funcOf, turned_frame]; rfl
    rw [State.debounceExpired, running, first, awake, before, ← func]
    rfl
  show Host.Outcome.next (if (s.input i).debounce.isSome && (s.input i).firstDone then (s.debounceExpired i).settle else s) = _
  rw [running, first, expires]
  rfl

end

end Sys2Proof.Machine
end

section
namespace Sys2Proof.Machine

-- One declaration at a time, so that the memory the check takes stays small.
set_option Elab.async false

/-! ### Fault marks that do not stand (R190) -/

theorem bit_apart (j k : FaultKind) : j ≠ k → j.bit &&& k.bit = 0 := by cases j <;> cases k <;> decide

/-- A mark leaves another kind's bit clear, and its own where its condition does not hold. -/
theorem markIf_clear {b : Bool} {j k : FaultKind} (h : j ≠ k ∨ b = false) : markIf b j &&& k.bit = 0 := by
  rcases h with apart | rfl
  · cases b with
    | false => exact BitVec.zero_and
    | true => exact bit_apart j k apart
  · exact BitVec.zero_and

theorem or_and_zero {w : Nat} {a b c : BitVec w} (ha : a &&& c = 0) (hb : b &&& c = 0) : (a ||| b) &&& c = 0 := by
  refine BitVec.eq_of_getLsbD_eq fun i hi => ?_
  have at_a : (a.getLsbD i && c.getLsbD i) = false := by simpa using congrArg (fun x => x.getLsbD i) ha
  have at_b : (b.getLsbD i && c.getLsbD i) = false := by simpa using congrArg (fun x => x.getLsbD i) hb
  simp only [BitVec.getLsbD_and, BitVec.getLsbD_or, Bool.and_or_distrib_right, at_a, at_b, Bool.or_false]
  exact BitVec.getLsbD_zero.symm

theorem presentNow_travel {s : State} (clear : s.inm.coach.travelUnstowed = false) :
    s.presentNow &&& FaultKind.travelUnstowed.bit = 0 := by
  unfold State.presentNow
  iterate 11 apply or_and_zero
  all_goals exact markIf_clear (by simp [clear])

theorem presentNow_eStop {s : State} (clear : s.inm.coach.eStop = .normal) : s.presentNow &&& FaultKind.eStop.bit = 0 := by
  unfold State.presentNow
  iterate 11 apply or_and_zero
  all_goals exact markIf_clear (by simp [clear])

theorem presentNow_stopped {s : State} (stop : s.inm.coach.eStop = .stop) : s.presentNow &&& FaultKind.eStop.bit = FaultKind.eStop.bit := by
  unfold State.presentNow
  rw [stop]
  exact and_or_left (and_of_or_left _ _)

/-! ### A change that is handed to no controller -/

section

variable {s : State} {i : Input} {c : Contact}

theorem someRoomOut_turned (notRoom : ∀ n, s.inputOf (.roomIn n) ≠ some i) : (s.turned i c).someRoomOut = s.someRoomOut := by
  have condition : ∀ n, (s.turned i c).roomCondition n = s.roomCondition n := fun n => by
    rw [State.roomCondition, State.roomCondition, shut_turned_other (notRoom n), turned_frame]
    rfl
  have items : (s.turned i c).items = s.items := by rw [turned_frame]; rfl
  rw [State.someRoomOut, State.someRoomOut, items]
  simp only [condition]

theorem undisturbed_turned (notRoom : ∀ n, s.inputOf (.roomIn n) ≠ some i) (h : s.Undisturbed) : (s.turned i c).Undisturbed := by
  have out := someRoomOut_turned (c := c) notRoom
  refine ⟨?_, ?_⟩
  · rw [turned_frame]; exact h.edges
  · rw [out]
    rw [turned_frame]
    exact h.retract

theorem calm_turned (notRoom : ∀ n, s.inputOf (.roomIn n) ≠ some i) (h : s.Calm) : (s.turned i c).Calm := by
  refine ⟨undisturbed_turned notRoom h.toUndisturbed, ?_⟩
  rw [turned_frame]
  exact h.waiting

/-- A debounced change that no controller takes up brings the records up to date and nothing else. -/
theorem unhanded_change {d : Contact} (running : (s.input i).debounce.isSome = true) (first : (s.input i).firstDone = true)
    (awake : s.inm.parked = false) (before : (s.input i).debounced = some d)
    (hand : (s.turned i d.flip).handChange (s.funcOf i) d.flip = s.turned i d.flip) (calm : (s.turned i d.flip).Calm) :
    ∃ t, exec (.debounceExpiry i) s = .next t ∧ s.showsTurned i d.flip t ∧ s.keepsBut t [.inputs] ∧ Follows (s.turned i d.flip) t
      ∧ t = (s.turned i d.flip).settle := by
  have follows := follows_settle calm
  refine ⟨_, (debounce_event running first awake before).trans (by rw [hand]), follows_showsTurned follows rfl rfl,
    follows.keepsBut (turned_keeps s i d.flip), follows, rfl⟩

/-! #### What each such change shows -/

section Shown

variable {t : State} {d : Contact}

/-- What the clauses on such changes say of their input and of the state. -/
structure Turning (s : State) (i : Input) (d : Contact) : Prop where
  running : (s.input i).debounce.isSome = true
  first : (s.input i).firstDone = true
  awake : s.inm.parked = false
  before : (s.input i).debounced = some d
  ready : s.inm.notReady = false

theorem turned_coach (h : Turning s i d) (follows : Follows (s.turned i d.flip) t) :
    t.inm.coach = { brake := (s.turned i d.flip).brakeNow, ignition := (s.turned i d.flip).shut .ignition
                    door := (s.turned i d.flip).doorNow, eStop := (s.turned i d.flip).eStopNow
                    allStowed := (s.turned i d.flip).allStowed
                    travelUnstowed := (s.turned i d.flip).brakeNow == .released && !(s.turned i d.flip).allStowed } := by
  have awake : (s.turned i d.flip).inm.parked = false := by rw [turned_frame]; exact h.awake
  have ready : (s.turned i d.flip).inm.notReady = false := by rw [turned_frame]; exact h.ready
  rw [follows.coach, if_neg (by simp [awake]), State.coachNow, if_neg (by simp [ready])]

theorem turned_brake (named : s.inputOf .parkBrake = some i) : (s.turned i c).brakeNow = if c = .closed then .set else .released := by
  have found : (s.turned i c).inputOf .parkBrake = some i := (inputOf_congr (by rw [turned_frame]) _).trans named
  rw [State.brakeNow, found, shut_turned named]
  cases c <;> rfl

theorem turned_eStop (named : s.inputOf .eStop = some i) : (s.turned i c).eStopNow = if c = .closed then .normal else .stop := by
  have found : (s.turned i c).inputOf .eStop = some i := (inputOf_congr (by rw [turned_frame]) _).trans named
  rw [State.eStopNow, found, shut_turned named]
  cases c <;> rfl

theorem notRoom_of {f : Func} (named : s.inputOf f = some i) (apart : ∀ n, f ≠ .roomIn n) : ∀ n, s.inputOf (.roomIn n) ≠ some i :=
  fun n also => apart n ((funcOf_inputOf named).symm.trans (funcOf_inputOf also))

/-- A calm change of an input whose function no controller takes up. -/
theorem calm_change (h : Turning s i d) (calm : s.Calm) (notRoom : ∀ n, s.funcOf i ≠ .roomIn n)
    (hand : ∀ u : State, u.handChange (s.funcOf i) d.flip = u) :
    ∃ t, exec (.debounceExpiry i) s = .next t ∧ s.showsTurned i d.flip t ∧ s.keepsBut t [.inputs] ∧ Follows (s.turned i d.flip) t
      ∧ t = (s.turned i d.flip).settle :=
  unhanded_change h.running h.first h.awake h.before (hand _)
    (calm_turned (fun n named => notRoom n (funcOf_inputOf named)) calm)

theorem change_generic (h : Turning s i d) (calm : s.Calm) (plain : s.funcOf i = .generic ∨ s.funcOf i = .door) :
    ∃ t, exec (.debounceExpiry i) s = .next t ∧ s.showsTurned i d.flip t ∧ s.keepsBut t [.inputs] := by
  obtain ⟨t, event, shows_, keeps, -⟩ := calm_change h calm (fun n => by rcases plain with e | e <;> rw [e] <;> simp)
    fun u => by rcases plain with e | e <;> rw [e] <;> rfl
  exact ⟨t, event, shows_, keeps⟩

theorem change_ignition (h : Turning s i d) (named : s.inputOf .ignition = some i) (calm : s.Calm) :
    ∃ t, exec (.debounceExpiry i) s = .next t ∧ s.showsTurned i d.flip t ∧ s.keepsBut t [.inputs]
      ∧ t.inm.coach.ignition = (d == .opened)
      ∧ (d = .opened → t.inm.idle = false ∧ t.inm.idleTimer = none)
      ∧ (d = .closed → s.inm.idle = false → s.allEnded → s.liu.connected = false → s.ist.storing = none →
          t.inm.idle = true ∧ t.inm.idleTimer
            = if s.items.inp.autoPark = 0 then none else some (s.now + s.items.inp.autoPark * 60000)) := by
  have func := funcOf_inputOf named
  obtain ⟨t, event, shows_, keeps, follows, ends⟩ := calm_change h calm (fun n => by rw [func]; simp) fun u => by rw [func]; rfl
  have after := calm_turned (c := d.flip) (notRoom_of named fun n => by simp) calm
  obtain ⟨-, timer⟩ := follows_watched (watchRetract_undisturbed after.toUndisturbed) (undisturbed_unjudged after.toUndisturbed) after.waiting
  rw [← ends] at timer
  have ignition := shut_turned (c := d.flip) named
  have idle := follows.idle
  refine ⟨t, event, shows_, keeps, ?_, fun opened => ?_, fun closed notIdle ended apart saved => ?_⟩
  · rw [turned_coach h follows]
    show (s.turned i d.flip).shut .ignition = _
    rw [ignition]
    cases d <;> rfl
  · have busy : (s.turned i d.flip).idleNow = false := by
      rw [State.idleNow, ignition, opened]
      simp [Contact.flip]
    rw [busy] at idle timer
    exact ⟨idle, timer⟩
  · have frame := turned_frame s i d.flip
    have rests : (s.turned i d.flip).idleNow = true := by
      have over_ : (s.turned i d.flip).anyNonEnded = false := by
        rw [State.anyNonEnded, frame, findSlot_none.2 fun sl o ho => by simp [ended sl o ho]]
        rfl
      have parts : (s.turned i d.flip).inm.parked = false ∧ (s.turned i d.flip).inm.notReady = false
          ∧ (s.turned i d.flip).liu.connected = false ∧ (s.turned i d.flip).ist.storing = none := by
        rw [frame]
        exact ⟨h.awake, h.ready, apart, saved⟩
      obtain ⟨awake, ready, unlinked, unsaved⟩ := parts
      rw [State.idleNow, awake, ready, over_, ignition, unlinked, unsaved, closed]
      rfl
    rw [rests] at idle timer
    refine ⟨idle, timer.trans ?_⟩
    rw [if_pos rfl, frame]
    exact if_neg (by simp [notIdle])

theorem change_brakeSet (h : Turning s i d) (named : s.inputOf .parkBrake = some i) (opened : d = .opened) (calm : s.Calm) :
    ∃ t, exec (.debounceExpiry i) s = .next t ∧ s.showsTurned i d.flip t ∧ s.keepsBut t [.inputs]
      ∧ t.inm.coach.brake = .set ∧ t.inm.coach.travelUnstowed = false
      ∧ t.ntu.faults.present &&& FaultKind.travelUnstowed.bit = 0 := by
  have func := funcOf_inputOf named
  obtain ⟨t, event, shows_, keeps, follows, -⟩ := calm_change h calm (fun n => by rw [func]; simp) fun u => by rw [func, opened]; rfl
  have brake : (s.turned i d.flip).brakeNow = .set := by rw [turned_brake named, opened]; rfl
  have coach := turned_coach h follows
  have travel : t.inm.coach.travelUnstowed = false := by rw [coach, brake]; rfl
  refine ⟨t, event, shows_, keeps, ?_, travel, ?_⟩
  · rw [coach]
    exact brake
  · rw [follows.notices.present, presentNow_travel travel]

theorem change_eStopNormal (h : Turning s i d) (named : s.inputOf .eStop = some i) (opened : d = .opened) (calm : s.Calm) :
    ∃ t, exec (.debounceExpiry i) s = .next t ∧ s.showsTurned i d.flip t ∧ s.keepsBut t [.inputs]
      ∧ t.inm.coach.eStop = .normal ∧ t.ntu.faults.present &&& FaultKind.eStop.bit = 0 := by
  have func := funcOf_inputOf named
  obtain ⟨t, event, shows_, keeps, follows, -⟩ := calm_change h calm (fun n => by rw [func]; simp) fun u => by rw [func, opened]; rfl
  have eStop : t.inm.coach.eStop = .normal := by
    rw [turned_coach h follows]
    show (s.turned i d.flip).eStopNow = _
    rw [turned_eStop named, opened]
    rfl
  exact ⟨t, event, shows_, keeps, eStop, by rw [follows.notices.present, presentNow_eStop eStop]⟩

theorem change_jackLeft {j : Jack} (h : Turning s i d) (named : s.inputOf (.jackUp j) = some i) (closed : d = .closed) (calm : s.Calm) :
    ∃ t, exec (.debounceExpiry i) s = .next t ∧ s.showsTurned i d.flip t ∧ s.keepsBut t [.inputs]
      ∧ t.lvc = s.lvc ∧ (j ∈ s.items.jacks → t.jacksCondition ≠ .stowed) := by
  have func := funcOf_inputOf named
  obtain ⟨t, event, shows_, keeps, follows, -⟩ := calm_change h calm (fun n => by rw [func]; simp) fun u => by rw [func, closed]; rfl
  have items : t.ist = s.ist := keeps.1 .items (by decide)
  refine ⟨t, event, shows_, keeps, keeps.1 .jacks (by decide), fun fitted => ?_⟩
  have up : t.shut (.jackUp j) = false := by
    rw [shut_congr follows.items (by rw [follows.inputs]), shut_turned named, closed]
    rfl
  have jacks : t.items.jacks = s.items.jacks := by rw [State.items, State.items, items]
  have down : t.allJacksUp = false := by
    rw [State.allJacksUp, jacks, List.all_eq_false]
    exact ⟨j, fitted, by simp [up]⟩
  have some_ : s.items.jacks.isEmpty = false := by
    cases l : s.items.jacks with
    | nil => rw [l] at fitted; cases fitted
    | cons => rfl
  rw [State.jacksCondition, jacks, some_, down]
  simp only [Bool.false_eq_true, if_false]
  split
  · simp
  · split <;> simp

theorem change_awningLeft (h : Turning s i d) (named : s.inputOf .awningIn = some i) (closed : d = .closed) (calm : s.Calm) :
    ∃ t, exec (.debounceExpiry i) s = .next t ∧ s.showsTurned i d.flip t ∧ s.keepsBut t [.inputs]
      ∧ t.awu = s.awu ∧ t.awningCondition = if s.awu.referenced then .outside else .unknown := by
  have func := funcOf_inputOf named
  obtain ⟨t, event, shows_, keeps, follows, -⟩ := calm_change h calm (fun n => by rw [func]; simp) fun u => by rw [func, closed]; rfl
  have awu : t.awu = s.awu := keeps.1 .awning (by decide)
  refine ⟨t, event, shows_, keeps, awu, ?_⟩
  have away : t.shut .awningIn = false := by
    rw [shut_congr follows.items (by rw [follows.inputs]), shut_turned named, closed]
    rfl
  rw [State.awningCondition, away, awu]
  cases s.awu.referenced <;> rfl

end Shown

end

end Sys2Proof.Machine
end

section
namespace Sys2Proof.Machine

-- One declaration at a time, so that the memory the check takes stays small.
set_option Elab.async false

/-! ### A JACKS operation wound down (R60) -/

/-- What winding down the running JACKS operation `o` leaves: every valve closed, every timer stopped; with the pump on the result
is pending, otherwise it is reported. -/
structure WoundDown (u v : State) (sl : Slot) (o : Op) (r : Result) : Prop where
  valves : ∀ j, (v.jack j).extending = false ∧ (v.jack j).retracting = false
  timers : v.lvc.timers = JackTimers.stopped
  pends : u.lvc.pump ≠ 0 → v.lvc.pend = some r ∧ v.opt = u.opt
  ends : u.lvc.pump = 0 → ∃ rem, v.opAt sl = some { o with state := .ended r rem (u.opt.ends + 1), resumed := false }
  others : ∀ k, k ≠ sl → v.opAt k = u.opAt k
  keeps : u.keepsBut v [.table, .arbiter, .jacks, .orders, .claims]
  notices : v.ntu.coach.inputs = u.ntu.coach.inputs

theorem reportJacks_notices {s : State} {sl : Slot} {o : Op} {r : Result} {ph : Option Phase} (h : s.opAt sl = some o)
    (running : o.state = .running ph) (jacks : o.job.group = .jacks) :
    (s.reportJacks sl r).ntu.coach.inputs = s.ntu.coach.inputs := by
  obtain ⟨c, whole⟩ := writeEnd_eq h r (s.remainingOf o)
  have noted : (s.writeEnd sl r (s.remainingOf o)).ntu.coach.inputs = s.ntu.coach.inputs := by
    rw [whole]
    exact noteTag_inputs _ _
  rw [reportJacks_running h running jacks, State.unloadedNotice]
  split
  · exact noted
  · exact noted

theorem standDown_valves (l : Lvc) (j : Jack) :
    (l.standDown.jacks.get j).extending = false ∧ (l.standDown.jacks.get j).retracting = false := by
  rw [Lvc.standDown, Lvc.closeValves, Bank.get_map]
  exact ⟨rfl, rfl⟩

theorem woundDown {u : State} {sl : Slot} {o : Op} (run : u.runningOp .jacks = some (sl, o)) (r : Result) :
    WoundDown u (u.windDownJacks sl r) sl o r := by
  obtain ⟨ho, jacks, moves⟩ := runningOp_some run
  obtain ⟨ph, running⟩ := running_phase moves
  let w : State := { u with lvc := { u.lvc.standDown with pend := some r } }
  have before : u.keepsBut w [.table, .arbiter, .jacks, .orders, .claims] := keepsBut_of
  by_cases off : u.lvc.pump = 0
  · have wound : u.windDownJacks sl r = w.reportJacks sl r := if_pos (beq_iff_eq.2 off : (w.lvc.pump == 0) = true)
    have lvc := reportJacks_lvc (s := w) (r := r) ho running jacks
    have ends := endsOp_reportJacks (s := w) (r := r) ho running jacks
    rw [wound]
    refine ⟨fun j => ?_, by rw [lvc]; rfl, fun on => absurd off on, fun _ => ⟨_, ends.record⟩, ends.others,
      keepsBut_trans before (reportJacks_keeps (s := w) ho running jacks), reportJacks_notices (s := w) ho running jacks⟩
    rw [State.jack, lvc]
    exact standDown_valves w.lvc j
  · have on : ¬ (w.lvc.pump == 0) = true := fun zero => off (beq_iff_eq.1 zero)
    have wound : u.windDownJacks sl r = w := if_neg on
    rw [wound]
    exact ⟨standDown_valves u.lvc, rfl, fun _ => ⟨rfl, rfl⟩, fun zero => absurd zero off, fun _ _ => rfl, before, rfl⟩

section

variable {u v : State} {sl : Slot} {o : Op} {r : Result}

/-- A record after the winding down stood before, or has ended. -/
theorem WoundDown.origin (h : WoundDown u v sl o r) {k : Slot} {q : Op} (hq : v.opAt k = some q) :
    u.opAt k = some q ∨ q.state.isEnded = true := by
  by_cases at_sl : k = sl
  · by_cases off : u.lvc.pump = 0
    · obtain ⟨rem, ends⟩ := h.ends off
      rw [at_sl, ends] at hq
      cases hq
      exact .inr rfl
    · obtain ⟨-, table⟩ := h.pends off
      exact .inl ((opAt_of_opt table k).symm.trans hq)
  · exact .inl ((h.others k at_sl).symm.trans hq)

theorem WoundDown.waiting (h : WoundDown u v sl o r) (waiting : u.noneWaiting) : v.noneWaiting := by
  intro k q hq
  rcases h.origin hq with before | ended
  · exact waiting k q before
  · by_contra admitted
    exact absurd (admitted_notEnded (Bool.not_eq_false _ ▸ admitted)) (by simp [ended])

theorem WoundDown.running (h : WoundDown u v sl o r) {k : Slot} {q : Op} (hq : v.opAt k = some q) (moves : q.state.isRunning = true) :
    u.opAt k = some q := by
  rcases h.origin hq with before | ended
  · exact before
  · exact absurd (running_active moves) (by simp [ended_notActive ended])

theorem WoundDown.runsOnly (h : WoundDown u v sl o r) {p : Group → Bool} (only : u.runsOnly p) : v.runsOnly p :=
  fun k q hq moves => only k q (h.running hq moves) moves

theorem WoundDown.calm (h : WoundDown u v sl o r) (calm : u.Calm) : v.Calm :=
  calm_of calm.toUndisturbed (h.keeps.1 .items (by decide)) (congrArg (·.inputs) (h.keeps.1 .inputs (by decide) : v.inm = _))
    (fun k q hq moves => ⟨k, q, h.running hq moves, moves, rfl⟩) (h.waiting calm.waiting)

end

/-- With no clearance entry enabled, or none but JACKS operations running, no motion is judged. -/
theorem edges_unjudged {s : State} (h : (∀ k, (s.entryItem k).enabled = false) ∨ s.runsOnly (fun g => g == .jacks)) : s.unjudged := by
  rcases h with off | only
  · exact .inl off
  · exact .inr fun g other => by rw [State.judged, runningOp_none only (by simpa using other)]

end Sys2Proof.Machine
end

section
namespace Sys2Proof.Machine

-- One declaration at a time, so that the memory the check takes stays small.
set_option Elab.async false

/-! ### A room that ceases to be IN (R83, R93) -/

section

variable {s t : State} {i : Input} {d : Contact} {n : Room}

/-- A JACKS operation that retracts, and that the interlock reaches (R83). -/
abbrev retractsUnder (o : Op) : Prop :=
  (o.job.kind = .jacksStow ∨ o.job.kind = .jackJog ∧ o.job.dir = some .inward) ∧ ¬ (o.job.origin = .service ∧ o.job.override = true)

theorem retractsUnder_iff (o : Op) : (o.retracts && !o.job.exempt) = true ↔ retractsUnder o := by
  simp [Op.retracts, Job.exempt, imp_iff_not_or]

/-- The condition of a room whose switch has opened (R93). -/
def State.roomAwayCondition (s : State) (n : Room) : RoomCondition :=
  if (s.roomUnit n).referenced = false then .unknown
  else if ∀ m ∈ s.items.motors n, 1000 - s.roomProfile.endZone * 1000 / s.items.room.travel.get n
    ≤ min 1000 (((s.roomUnit n).motor m).count * 1000 / s.items.room.travel.get n) then .outside else .between

theorem roomCondition_away (away : s.shut (.roomIn n) = false) : s.roomCondition n = s.roomAwayCondition n := by
  rw [State.roomCondition, State.roomAwayCondition, away]
  cases s.roomUnit n |>.referenced with
  | false => rfl
  | true =>
    simp only [Bool.not_true, Bool.not_false, Bool.and_true, Bool.false_eq_true, if_false, List.all_eq_true, decide_eq_true_eq]
    rfl

/-- The room of the opened switch, once the event is over. -/
theorem turned_roomAway (named : s.inputOf (.roomIn n) = some i) (closed : d = .closed) (inputs : t.inm.inputs = (s.turned i d.flip).inm.inputs)
    (items : t.ist = s.ist) (rooms : t.sdc = s.sdc) : t.roomCondition n = s.roomAwayCondition n := by
  have away : t.shut (.roomIn n) = false := by
    rw [shut_congr (s := s.turned i d.flip) (by rw [turned_frame]; exact items) inputs, shut_turned named, closed]
    rfl
  rw [roomCondition_away away, State.roomAwayCondition, State.roomAwayCondition]
  have unit : t.roomUnit n = s.roomUnit n := by rw [State.roomUnit, State.roomUnit, rooms]
  have table : t.items = s.items := congrArg (·.items) items
  rw [unit, State.roomProfile, State.roomProfile, table]

/-- No retracting operation runs: the condition alone changes. -/
theorem change_roomLeft (h : Turning s i d) (named : s.inputOf (.roomIn n) = some i) (closed : d = .closed) (waiting : s.noneWaiting)
    (edges : (∀ k, (s.entryItem k).enabled = false) ∨ s.runsOnly (fun g => g == .jacks))
    (spared : ∀ sl o, s.runningOp .jacks = some (sl, o) → ¬ retractsUnder o) :
    ∃ t, exec (.debounceExpiry i) s = .next t ∧ s.showsTurned i d.flip t ∧ s.keepsBut t [.inputs]
      ∧ t.sdc = s.sdc ∧ t.roomCondition n = s.roomAwayCondition n := by
  have hand : ∀ u : State, u.handChange (s.funcOf i) d.flip = u := fun u => by rw [funcOf_inputOf named, closed]; rfl
  have watch : (s.turned i d.flip).watchRetract = s.turned i d.flip := by
    unfold State.watchRetract
    split
    · next sl o judging =>
      have run : s.runningOp .jacks = some (sl, o) := by
        rw [State.jacksJudging, turned_frame] at judging
        split at judging
        · cases judging
        · exact judging
      have off : ¬ (o.retracts && !o.job.exempt) = true := fun on => spared sl o run ((retractsUnder_iff o).1 on)
      simp [Bool.not_eq_true _ ▸ off]
    · rfl
  have quiet : (s.turned i d.flip).unjudged := edges_unjudged (by rw [turned_frame]; exact edges)
  have idle : (s.turned i d.flip).noneWaiting := by rw [turned_frame]; exact waiting
  obtain ⟨follows, -⟩ := follows_watched watch quiet idle
  have keeps := follows.keepsBut (turned_keeps s i d.flip)
  exact ⟨_, (debounce_event h.running h.first h.awake h.before).trans (by rw [hand]), follows_showsTurned follows rfl rfl, keeps,
    keeps.1 .rooms (by decide), turned_roomAway named closed (by rw [follows.inputs]) (keeps.1 .items (by decide)) (keeps.1 .rooms (by decide))⟩

/-- A retracting operation runs: the interlock closes the valves and ends it. -/
theorem change_roomStops {sl : Slot} {o : Op} (h : Turning s i d) (named : s.inputOf (.roomIn n) = some i) (closed : d = .closed)
    (waiting : s.noneWaiting) (edges : (∀ k, (s.entryItem k).enabled = false) ∨ s.runsOnly (fun g => g == .jacks))
    (run : s.runningOp .jacks = some (sl, o)) (reached : retractsUnder o) (open_ : s.lvc.pend = none)
    (fitted : s.items.configured (.room n) = true) :
    ∃ t, exec (.debounceExpiry i) s = .next t ∧ s.showsTurned i d.flip t ∧ t.sdc = s.sdc ∧ t.roomCondition n = s.roomAwayCondition n
      ∧ (∀ j, (t.jack j).extending = false ∧ (t.jack j).retracting = false) ∧ t.lvc.timers = JackTimers.stopped
      ∧ (s.lvc.pump = 0 → ∃ rem, t.opAt sl = some { o with state := .ended (.cancelled .interlock) rem (s.opt.ends + 1), resumed := false })
      ∧ (s.lvc.pump ≠ 0 → t.lvc.pend = some (.cancelled .interlock) ∧ t.opt = s.opt)
      ∧ (∀ k, k ≠ sl → t.opAt k = s.opAt k)
      ∧ s.keepsBut t [.table, .arbiter, .jacks, .inputs, .orders, .claims] := by
  let u := s.turned i d.flip
  have frame : u = { s with inm := u.inm, ntu := u.ntu } := turned_stands s i d.flip
  have hand : ∀ u : State, u.handChange (s.funcOf i) d.flip = u := fun u => by rw [funcOf_inputOf named, closed]; rfl
  have run_u : u.runningOp .jacks = some (sl, o) := by rw [frame]; exact run
  have away : u.shut (.roomIn n) = false := by
    show (s.turned i d.flip).shut _ = false
    rw [shut_turned named, closed]
    rfl
  have out : u.someRoomOut = true := by
    have items : u.items = s.items := by rw [frame]; rfl
    rw [State.someRoomOut, items, List.any_eq_true]
    refine ⟨n, ?_, ?_⟩
    · have numbered : ∀ n : Room, n ∈ roomNumbers := by decide
      exact List.mem_filter.2 ⟨numbered n, fitted⟩
    · rw [roomCondition_away away, State.roomAwayCondition]
      split
      · rfl
      · split <;> rfl
  have watch : u.watchRetract = u.windDownJacks sl (.cancelled .interlock) := by
    have judging : u.jacksJudging = some (sl, o) := by
      rw [State.jacksJudging, run_u]
      have pend : u.lvc.pend = none := by rw [frame]; exact open_
      rw [pend]
      rfl
    rw [State.watchRetract, judging]
    dsimp only
    rw [(retractsUnder_iff o).2 reached, out]
    rfl
  have wound := woundDown run_u (.cancelled .interlock)
  generalize u.windDownJacks sl (.cancelled .interlock) = v at watch wound
  have before : s.keepsBut v [.table, .arbiter, .jacks, .inputs, .orders, .claims] :=
    keepsBut_trans (keepsBut_mono (turned_keeps s i d.flip) (by decide)) (keepsBut_mono wound.keeps (by decide))
  have quiet : v.unjudged := edges_unjudged (edges.imp
    (fun off => entriesOff_of_items off (congrArg (·.items) (before.1 .items (by decide) : v.ist = s.ist))) fun only => wound.runsOnly (by rw [frame]; exact only))
  obtain ⟨follows, -⟩ := follows_watched watch quiet (wound.waiting (by rw [frame]; exact waiting))
  have keeps := follows.keepsBut before
  have inputs : v.inm.inputs = u.inm.inputs := congrArg (·.inputs) (wound.keeps.1 .inputs (by decide) : v.inm = _)
  have lvc := follows.jacks
  refine ⟨_, (debounce_event h.running h.first h.awake h.before).trans (by rw [hand]), follows_showsTurned follows inputs wound.notices,
    keeps.1 .rooms (by decide),
    turned_roomAway named closed (by rw [follows.inputs]; exact inputs) (keeps.1 .items (by decide)) (keeps.1 .rooms (by decide)),
    fun j => ?_, ?_, fun off => ?_, fun on => ?_, fun k other => ?_, keeps⟩
  · rw [State.jack, lvc]
    exact wound.valves j
  · rw [lvc]
    exact wound.timers
  · obtain ⟨rem, ends⟩ := wound.ends (by rw [frame]; exact off)
    refine ⟨rem, (opAt_of_opt follows.table sl).trans (ends.trans ?_)⟩
    rw [frame]
  · obtain ⟨pend, table⟩ := wound.pends (by rw [frame]; exact on)
    refine ⟨by rw [lvc]; exact pend, follows.table.trans (table.trans ?_)⟩
    rw [frame]
  · refine (opAt_of_opt follows.table k).trans ((wound.others k other).trans ?_)
    rw [frame]
    rfl

end

end Sys2Proof.Machine
end

section
namespace Sys2Proof.Machine

-- One declaration at a time, so that the memory the check takes stays small.
set_option Elab.async false

/-! ### Deploying operations while others are cancelled (R23) -/

/-- A sweep whose test reads only what no step of it changes is the sweep with the test as it stood. -/
theorem eachOp_congr {p q : State → Op → Bool} {f : State → Slot → State} {I : State → Prop}
    (same : ∀ u o, I u → p u o = q u o) (step : ∀ u sl, I u → I (f u sl)) {s : State} (start : I s) : s.eachOp p f = s.eachOp q f := by
  have sweep : ∀ (l : List Slot) (u : State), I u → l.foldl (State.visit p f) u = l.foldl (State.visit q f) u := by
    intro l
    induction l with
    | nil => exact fun _ _ => rfl
    | cons a l ih =>
      intro u hu
      have visit : u.visit p f a = u.visit q f a := by
        cases ho : u.opAt a with
        | none => rw [visit_none ho, visit_none ho]
        | some o => rw [visit_some ho, visit_some ho, same u o hu]
      have after : I (u.visit q f a) := by
        cases ho : u.opAt a with
        | none => rw [visit_none ho]; exact hu
        | some o =>
          rw [visit_some ho]
          split
          · exact step u a hu
          · exact hu
      rw [List.foldl_cons, List.foldl_cons, visit]
      exact ih _ after
  exact sweep slots s start

/-- What is deploying is read of the awning's posture and of the items. -/
theorem deployingOp_congr {s u : State} (items : u.ist = s.ist) (posture : u.posture = s.posture) (o : Op) :
    u.deployingOp o = s.deployingOp o := by
  have count : u.awu.motor.count = s.awu.motor.count := congrArg (fun x => x.1) posture
  have dir : u.awu.motor.dir = s.awu.motor.dir := congrArg (fun x => x.2.1) posture
  have referenced : u.awu.referenced = s.awu.referenced := congrArg (fun x => x.2.2) posture
  have position : u.awningPosition = s.awningPosition := by
    have motor : u.motorPosition .awning = s.motorPosition .awning := by
      show permilleOf u.awu.motor.count u.ist.items.awn.travel = permilleOf s.awu.motor.count s.ist.items.awn.travel
      rw [count, items]
    rw [State.awningPosition, State.awningPosition, referenced, motor]
  have job : u.deploying o.job = s.deploying o.job := by rw [State.deploying, State.deploying, position]
  rw [State.deployingOp, State.deployingOp, dir, job]

theorem cancelAll_deploying {s u : State} (items : u.ist = s.ist) (posture : u.posture = s.posture) (r : Result) :
    u.cancelAll (fun s o => o.opClass == .normal && s.deployingOp o) r
      = u.cancelAll (fun _ o => o.opClass == .normal && s.deployingOp o) r := by
  refine eachOp_congr (I := fun v => v.ist = s.ist ∧ v.posture = s.posture) (fun v o hv => ?_) (fun v sl hv => ⟨?_, ?_⟩) ⟨items, posture⟩
  · dsimp only
    rw [deployingOp_congr hv.1 hv.2]
  · exact ((eased_cancelOp v sl r).blocks.1 .items (by decide) : _ = _).trans hv.1
  · exact (posture_unmoved.cancelOp v sl r).trans hv.2

/-! ### The park-brake release (R23, R131, R143) -/

section

variable {s t : State} {i : Input} {d : Contact}

/-- The operations a park-brake release cancels. -/
def State.brakeCancels (s : State) (o : Op) : Bool := o.opClass == .normal && s.deployingOp o

/-- The blocks that a park-brake release may change. -/
abbrev brakeBlocks : List Block := [.table, .arbiter, .jacks, .rooms, .awning, .inputs, .orders, .claims]

/-- What the cancels of a park-brake release leave, before a stow is created. -/
structure Released (s : State) (i : Input) (d : Contact) (v : State) : Prop where
  records : s.eachRecord v s.brakeCancels (fun o after => s.CancelLeaves o (.cancelled .interlock) after)
  calm : v.Calm
  keeps : s.keepsBut v brakeBlocks
  inputs : v.inm = { (s.turned i d.flip).inm with coach := v.inm.coach, idle := v.inm.idle, idleTimer := v.inm.idleTimer }
  notices : v.ntu.coach.inputs = (s.turned i d.flip).ntu.coach.inputs
  counters : v.opt.admissions = s.opt.admissions ∧ v.opt.internalTag = s.opt.internalTag
  due : v.stowDue = s.stowDue
  queues : s.queuesWaiting → v.queuesWaiting
  one : s.onePerGroup → v.onePerGroup

/-- No end and no hold of an operation flags an input (R146). -/
theorem inputFlags_unmoved : Unmoved fun s => s.ntu.coach.inputs := by
  refine ⟨fun s sl r => ?_, fun s sl x => ?_, fun _ _ _ => rfl, fun s g => by cases g <;> rfl⟩
  · cases ho : s.opAt sl with
    | none => rw [State.endOp, ho]
    | some o =>
      obtain ⟨c, whole⟩ := writeEnd_eq ho r (s.remainingOf o)
      rw [State.endOp, ho]
      dsimp only
      rw [whole]
      exact noteTag_inputs _ _
  · cases ho : s.opAt sl with
    | none => rw [State.moveHeld, ho]
    | some o =>
      obtain ⟨c, whole⟩ := moveHeld_eq ho x
      rw [whole]
      exact noteTag_inputs _ _

theorem brakeReleased_leaves (named : s.inputOf .parkBrake = some i) (undisturbed : s.Undisturbed)
    (waiting : ∀ sl o, s.opAt sl = some o → o.state.isAdmitted = true → o.opClass = .normal ∧ s.deployingOp o = true) :
    ∃ v, (s.turned i d.flip).brakeReleased = v.createStow ∧ Released s i d v := by
  let u := s.turned i d.flip
  have frame : u = { s with inm := u.inm, ntu := u.ntu } := turned_stands s i d.flip
  have items_u : u.ist = s.ist := by rw [frame]
  have posture_u : u.posture = s.posture := by rw [frame]; rfl
  let v := u.cancelAll (fun _ o => s.brakeCancels o) (.cancelled .interlock)
  have records_u := cancelAll_records u s.brakeCancels (.cancelled .interlock)
  have records : s.eachRecord v s.brakeCancels (fun o after => s.CancelLeaves o (.cancelled .interlock) after) := by
    intro sl
    obtain ⟨free, kept⟩ := records_u sl
    rw [opAt_of_opt (by rw [frame] : u.opt = s.opt)] at free kept
    refine ⟨free, fun o ho => ⟨(kept o ho).1, fun cancels => ?_⟩⟩
    obtain ⟨after, at_sl, leaves⟩ := (kept o ho).2 cancels
    exact ⟨after, at_sl, cancelLeaves_congr (fun g => by rw [frame]; cases g <;> rfl) leaves⟩
  have eased : Eased u v := eased_cancelAll u _ _
  have items : v.ist = s.ist := (eased.blocks.1 .items (by decide) : v.ist = u.ist).trans items_u
  have inm : v.inm = { u.inm with coach := v.inm.coach, idle := v.inm.idle, idleTimer := v.inm.idleTimer } :=
    eased.blocks.1 .inputs (by decide)
  have notRoom := notRoom_of (s := s) named fun n => by simp
  have shut : ∀ f, f ≠ .parkBrake → v.shut f = s.shut f := fun f apart =>
    (shut_congr (s := u) (items.trans items_u.symm) (by rw [inm]) f).trans (shut_turned_func named apart)
  have ready : v.inm.notReady = s.inm.notReady := by
    rw [inm]
    show (s.turned i d.flip).inm.notReady = _
    rw [turned_frame]
  have swept : Swept s v := swept_cancelled (fun o cancels => by simp [State.brakeCancels] at cancels; exact cancels.1) records
  refine ⟨v, congrArg State.createStow (cancelAll_deploying items_u posture_u _), records, ?_, ?_, inm, inputFlags_unmoved.cancelAll u _ _, ?_, ?_, ?_, ?_⟩
  · refine calm_cancelled (undisturbed_turned notRoom undisturbed) (eased.blocks.1 .items (by decide)) (by rw [inm]) records_u
      fun sl o ho admitted => ?_
    obtain ⟨normal, deploys⟩ := waiting sl o ((opAt_of_opt (by rw [frame] : u.opt = s.opt) sl).symm.trans ho) admitted
    simp [State.brakeCancels, normal, deploys]
  · exact keepsBut_trans (keepsBut_mono (turned_keeps s i d.flip) (by decide)) (keepsBut_mono eased.blocks (by decide))
  · obtain ⟨-, -, admissions, tag⟩ := cancelAll_lists u (fun _ o => s.brakeCancels o) (.cancelled .interlock)
    exact ⟨admissions.trans (by rw [frame]), tag.trans (by rw [frame])⟩
  · exact stowDue_congr items ready (shut _ (by simp)) (shut _ (by simp)) ((posture_unmoved.cancelAll u _ _).trans posture_u) swept.stowRunning
  · exact fun queues => cancelAll_queuesWaiting (by rw [frame]; exact queues) _ _
  · exact fun one => (acts_cancelAll u _ _).deeds.onePerGroup (by rw [frame]; exact one)

end

end Sys2Proof.Machine
end

section
namespace Sys2Proof.Machine

-- One declaration at a time, so that the memory the check takes stays small.
set_option Elab.async false

section

variable {s t : State} {i : Input} {d : Contact}

/-- The brake's field, at the end of an event that opened its switch (R142). -/
theorem brake_released {u : State} (h : Turning s i d) (named : s.inputOf .parkBrake = some i) (closed : d = .closed) (items : u.ist = s.ist)
    (inputs : u.inm.inputs = (s.turned i d.flip).inm.inputs) (ready : u.inm.notReady = s.inm.notReady) (coach : u.inm.coach = u.coachNow) :
    u.inm.coach.brake = .released := by
  have found : u.inputOf .parkBrake = some i := (inputOf_congr items _).trans named
  have away : u.shut .parkBrake = false := by
    rw [shut_congr (s := s.turned i d.flip) (by rw [turned_frame]; exact items) inputs, shut_turned named, closed]
    rfl
  rw [coach, State.coachNow, if_neg (by rw [ready]; simp [h.ready])]
  show u.brakeNow = _
  rw [State.brakeNow, found, away]
  rfl

theorem follows_awakeCoach {u : State} (h : Turning s i d) (follows : Follows u t) (parked : u.inm.parked = s.inm.parked) :
    t.inm.coach = t.coachNow := follows_coachNow follows (parked.trans h.awake)

theorem Released.states {v : State} (h : Released s i d v) : v.ist = s.ist ∧ v.inm.inputs = (s.turned i d.flip).inm.inputs
    ∧ v.inm.notReady = s.inm.notReady ∧ v.inm.parked = s.inm.parked := by
  have inm := h.inputs
  refine ⟨h.keeps.1 .items (by decide), by rw [inm], ?_, ?_⟩
  · rw [inm]
    show (s.turned i d.flip).inm.notReady = _
    rw [turned_frame]
  · rw [inm]
    show (s.turned i d.flip).inm.parked = _
    rw [turned_frame]

/-- PARK_BRAKE opening where no stow is due (R23). -/
theorem change_brakeReleased (h : Turning s i d) (named : s.inputOf .parkBrake = some i) (closed : d = .closed)
    (without : s.items.awn.present = false ∨ s.stowDue = false) (undisturbed : s.Undisturbed)
    (waiting : ∀ sl o, s.opAt sl = some o → o.state.isAdmitted = true → o.opClass = .normal ∧ s.deployingOp o = true) :
    ∃ t, exec (.debounceExpiry i) s = .next t ∧ s.showsTurned i d.flip t ∧ t.inm.coach.brake = .released
      ∧ s.eachRecord t s.brakeCancels (fun o after => s.CancelLeaves o (.cancelled .interlock) after) ∧ s.keepsBut t brakeBlocks := by
  obtain ⟨v, released, leaves⟩ := brakeReleased_leaves (d := d) named undisturbed waiting
  obtain ⟨items, inputs, ready, parked⟩ := leaves.states
  have none_ : s.stowDue = false := by
    rcases without with absent | idle
    · rw [State.stowDue, absent]
      rfl
    · exact idle
  have hand : (s.turned i d.flip).handChange (s.funcOf i) d.flip = v := by
    rw [funcOf_inputOf named, closed]
    rw [closed] at released
    exact released.trans (createStow_idle (leaves.due.trans none_))
  have follows := follows_settle leaves.calm
  have keeps := follows.keepsBut leaves.keeps
  have inm := follows.inputs
  refine ⟨_, (debounce_event h.running h.first h.awake h.before).trans (by rw [hand]), follows_showsTurned follows inputs leaves.notices,
    brake_released h named closed (keeps.1 .items (by decide)) (by rw [inm]; exact inputs) (by rw [inm]; exact ready)
      (follows_awakeCoach h follows parked), fun sl => ?_, keeps⟩
  rw [opAt_of_opt follows.table]
  exact leaves.records sl

/-- The result an operation takes to an end of the event: its own where it is headed for one. -/
def OpState.endedBy (st : OpState) (r : Result) : Result :=
  match st with
  | .stopping (.ended x) _ => x
  | _ => r

/-- A cancelled operation has ended, or is headed for its end and takes it when superseded. -/
theorem cancelled_superseded {o after : Op} {r : Result} (h : s.CancelLeaves o r after) (running : o.state.isEnded = false) :
    (∃ rem m, after = { o with state := .ended (o.state.endedBy r) rem m, resumed := false })
    ∨ after.state.isEnded = false ∧ after.state.supersededBy = o.state.endedBy r
      ∧ ∀ z, ({ after with state := z, resumed := false } : Op) = { o with state := z, resumed := false } := by
  unfold State.CancelLeaves at h
  split at h
  · next state => obtain ⟨rem, m, rfl⟩ := h; exact .inl ⟨rem, m, by rw [state]; rfl⟩
  · next state => obtain ⟨rem, m, rfl⟩ := h; exact .inl ⟨rem, m, by rw [state]; rfl⟩
  · next state =>
    split at h
    · obtain ⟨rem, m, rfl⟩ := h
      exact .inl ⟨rem, m, by rw [state]; rfl⟩
    · rw [h, state]; exact .inr ⟨rfl, rfl, fun _ => rfl⟩
  · next state => rw [h, state]; exact .inr ⟨rfl, rfl, fun _ => rfl⟩
  · next state => rw [h, state]; exact .inr ⟨rfl, rfl, fun _ => rfl⟩
  · next state => rw [state] at running; cases running

/-- The awning's operation ends where the stow that follows a release supersedes it (R22, R23). -/
theorem StowAfter.releases {v : State} {sl k : Slot} {st : OpState} {o : Op} {p : Op → Bool} {r : Result} (after : StowAfter s v t sl st)
    (records : s.eachRecord v p (fun o after => s.CancelLeaves o r after)) (ho : s.opAt k = some o) (awning : o.job.group = .awning)
    (moves : o.state.isEnded = false) :
    ∃ rem m, t.opAt k
      = some { o with state := .ended (o.state.endedBy (if p o = true then r else .cancelled .superseded)) rem m, resumed := false } := by
  cases named : p o with
  | true =>
    obtain ⟨q, at_k, leaves⟩ := ((records k).2 o ho).2 named
    obtain ⟨-, job, -⟩ := cancelLeaves_kept leaves
    rcases cancelled_superseded leaves moves with ⟨rem, m, ended⟩ | ⟨still, result, same⟩
    · refine ⟨rem, m, ?_⟩
      rw [after.created.stays k q at_k (.inr (by rw [ended]; rfl)), ended]
      rfl
    · obtain ⟨x, rem, m, immediate, ends⟩ := after.created.ends k q at_k (by rw [job]; exact awning) still
      rw [immediate_superseded still, result] at immediate
      cases immediate
      exact ⟨rem, m, by rw [ends, same]; rfl⟩
  | false =>
    obtain ⟨x, rem, m, immediate, ends⟩ := after.created.ends k o (((records k).2 o ho).1 named) awning moves
    rw [immediate_superseded moves] at immediate
    cases immediate
    exact ⟨rem, m, ends⟩

/-- PARK_BRAKE opening where a stow is due (R23, R131). -/
theorem change_brakeStows {sl : Slot} (h : Turning s i d) (named : s.inputOf .parkBrake = some i) (closed : d = .closed)
    (due : s.stowDue = true) (undisturbed : s.Undisturbed) (one : s.onePerGroup)
    (waiting : ∀ k o, s.opAt k = some o → o.state.isAdmitted = true → o.opClass = .normal ∧ s.deployingOp o = true)
    (queue : s.queuesWaiting) (open_ : s.opAt sl = none) (below : ∀ k, k < sl → (s.opAt k).isSome = true) :
    ∃ t st v, exec (.debounceExpiry i) s = .next t ∧ s.showsTurned i d.flip t ∧ t.inm.coach.brake = .released
      ∧ StowAfter s v t sl st ∧ Released s i d v ∧ s.keepsBut t brakeBlocks := by
  obtain ⟨v, released, leaves⟩ := brakeReleased_leaves (d := d) named undisturbed waiting
  obtain ⟨items, inputs, ready, parked⟩ := leaves.states
  have hand : (s.turned i d.flip).handChange (s.funcOf i) d.flip = v.createStow := by
    rw [funcOf_inputOf named, closed]
    rw [closed] at released
    exact released
  have swept : Swept s v := swept_cancelled (fun o cancels => by simp [State.brakeCancels] at cancels; exact cancels.1) leaves.records
  obtain ⟨st, after⟩ := stow_after swept leaves.calm (leaves.one one) (queue_empty (leaves.queues queue) leaves.calm.waiting)
    (leaves.due.trans due) leaves.counters items open_ below
  have keeps : s.keepsBut v.createStow.settle brakeBlocks := keepsBut_trans leaves.keeps (keepsBut_mono after.created.blocks (by decide))
  have inm : v.createStow.settle.inm = _ := after.created.blocks.1 .inputs (by decide)
  have inputs_t : v.createStow.settle.inm.inputs = (s.turned i d.flip).inm.inputs := after.created.inputs.1.trans inputs
  exact ⟨v.createStow.settle, st, v, (debounce_event h.running h.first h.awake h.before).trans (by rw [hand]),
    showsTurned_of inputs_t (after.created.notices.trans leaves.notices),
    brake_released h named closed (keeps.1 .items (by decide)) inputs_t (by rw [inm]; exact ready) (after.created.coach (parked.trans h.awake)),
    after, leaves, keeps⟩

theorem endNow_inputFlags (s : State) (sl : Slot) (r : Result) : (s.endNow sl r).ntu.coach.inputs = s.ntu.coach.inputs := by
  cases ho : s.opAt sl with
  | none => rw [State.endNow, ho]
  | some o =>
    cases hx : o.state.immediate r with
    | none =>
      rw [State.endNow, ho]
      simp only [hx]
    | some x =>
      obtain ⟨c, whole⟩ := writeEnd_eq ((shed_opAt s o sl).trans ho) x (s.remainingOf o)
      rw [endNow_eq ho hx, whole]
      exact (noteTag_inputs _ _).trans (by rw [shed_frame])

theorem endAll_inputFlags (s : State) (p : Op → Bool) (r : Result) : (s.endAll p r).ntu.coach.inputs = s.ntu.coach.inputs :=
  eachOp_invariant (I := fun u => u.ntu.coach.inputs = s.ntu.coach.inputs)
    (fun u sl _ hu _ _ => (endNow_inputFlags u sl r).trans hu) rfl

theorem immediate_undecided {st : OpState} {r : Result} (h : st.isAdmitted = true ∨ st.isRunning = true ∨ st.isHeld = true) :
    st.immediate r = some r := by
  cases st with
  | stopping d => simp [OpState.isAdmitted, OpState.isRunning, OpState.isHeld] at h
  | ended => simp [OpState.isAdmitted, OpState.isRunning, OpState.isHeld] at h
  | _ => rfl

/-- The E-stop's field, at the end of an event that opened its switch (R142). -/
theorem eStop_stops {u : State} (h : Turning s i d) (named : s.inputOf .eStop = some i) (closed : d = .closed) (items : u.ist = s.ist)
    (inputs : u.inm.inputs = (s.turned i d.flip).inm.inputs) (ready : u.inm.notReady = s.inm.notReady) (coach : u.inm.coach = u.coachNow) :
    u.inm.coach.eStop = .stop := by
  have found : u.inputOf .eStop = some i := (inputOf_congr items _).trans named
  have away : u.shut .eStop = false := by
    rw [shut_congr (s := s.turned i d.flip) (by rw [turned_frame]; exact items) inputs, shut_turned named, closed]
    rfl
  rw [coach, State.coachNow, if_neg (by rw [ready]; simp [h.ready])]
  show u.eStopNow = _
  rw [State.eStopNow, found, away]
  rfl

/-- E_STOP opening ends every operation (R24, R144). -/
theorem change_eStop (h : Turning s i d) (named : s.inputOf .eStop = some i) (closed : d = .closed) :
    ∃ t, exec (.debounceExpiry i) s = .next t ∧ s.showsTurned i d.flip t ∧ t.allEnded ∧ t.inm.coach.eStop = .stop
      ∧ t.ntu.faults.present &&& FaultKind.eStop.bit = FaultKind.eStop.bit
      ∧ (∀ sl o, s.opAt sl = some o → o.state.isAdmitted = true ∨ o.state.isRunning = true ∨ o.state.isHeld = true →
          ∃ rem m, t.opAt sl = some { o with state := .ended (.cancelled .eStop) rem m, resumed := false })
      ∧ s.keepsBut t brakeBlocks := by
  let u := s.turned i d.flip
  have frame : u = { s with inm := u.inm, ntu := u.ntu } := turned_stands s i d.flip
  have hand : (s.turned i d.flip).handChange (s.funcOf i) d.flip = u.endAll (fun _ => true) (.cancelled .eStop) := by
    rw [funcOf_inputOf named, closed]
    show (s.turned i _).eStopped = _
    rw [State.eStopped, ← closed]
  have ended := endAll_allEnded u (.cancelled .eStop)
  have named_u : ∀ sl o, s.opAt sl = some o → o.state.immediate (.cancelled .eStop) = some (.cancelled .eStop) → ∃ rem m,
      (u.endAll (fun _ => true) (.cancelled .eStop)).opAt sl = some { o with state := .ended (.cancelled .eStop) rem m, resumed := false } :=
    fun sl o ho immediate => endAll_named (s := u) ((opAt_of_opt (by rw [frame]) sl).trans ho) rfl immediate
  have keeps_u : u.keepsBut (u.endAll (fun _ => true) (.cancelled .eStop)) endBlocks := endAll_keeps u _ _
  have notices : (u.endAll (fun _ => true) (.cancelled .eStop)).ntu.coach.inputs = u.ntu.coach.inputs := endAll_inputFlags u _ _
  generalize u.endAll (fun _ => true) (.cancelled .eStop) = v at hand ended named_u keeps_u notices
  have calm : v.Calm := calm_allEnded ended
  have follows := follows_settle calm
  have keeps : s.keepsBut v.settle brakeBlocks :=
    follows.keepsBut (keepsBut_trans (keepsBut_mono (turned_keeps s i d.flip) (by decide)) (keepsBut_mono keeps_u (by decide)))
  have inm : v.inm = _ := keeps_u.1 .inputs (by decide)
  have power : v.inm.notReady = s.inm.notReady ∧ v.inm.parked = s.inm.parked := by
    rw [inm]
    show (s.turned i d.flip).inm.notReady = _ ∧ (s.turned i d.flip).inm.parked = _
    rw [turned_frame]
    exact ⟨rfl, rfl⟩
  have inm_t := follows.inputs
  have eStop : v.settle.inm.coach.eStop = .stop :=
    eStop_stops h named closed (keeps.1 .items (by decide)) (by rw [inm_t, inm]) (by rw [inm_t]; exact power.1)
      (follows_awakeCoach h follows power.2)
  refine ⟨v.settle, (debounce_event h.running h.first h.awake h.before).trans (by rw [hand]),
    follows_showsTurned follows (by rw [inm]) notices, fun sl o ho => ended sl o ((opAt_of_opt follows.table sl).symm.trans ho), eStop, ?_,
    fun sl o ho state => ?_, keeps⟩
  · rw [follows.notices.present, presentNow_stopped eStop]
  · rw [opAt_of_opt follows.table]
    exact named_u sl o ho (immediate_undecided state)

end

end Sys2Proof.Machine
end

section
namespace Sys2Proof.Machine

-- One declaration at a time, so that the memory the check takes stays small.
set_option Elab.async false

/-! ### A room that comes home (R92, R103) -/

theorem modify_modify {α : Type} {n : Nat} (b : Bank α n) (i : Fin n) (f g : α → α) : (b.modify i f).modify i g = b.modify i (g ∘ f) :=
  Bank.ext_get fun j => by
    by_cases same : i = j
    · subst same
      simp [Bank.modify]
    · simp [Bank.modify, Bank.get_set_ne _ _ same]

theorem modRoom_modRoom (s : State) (n : Room) (f g : RoomUnit → RoomUnit) : (s.modRoom n f).modRoom n g = s.modRoom n (g ∘ f) :=
  congrArg (fun b => ({ s with sdc := b } : State)) (modify_modify s.sdc n f g)

theorem modRoom_congr {s : State} {n : Room} {f g : RoomUnit → RoomUnit} (h : f (s.roomUnit n) = g (s.roomUnit n)) :
    s.modRoom n f = s.modRoom n g :=
  congrArg (fun r => ({ s with sdc := s.sdc.set n r } : State)) h

/-- A motor's count written 0, where the room has that motor (R92). -/
def homeCount (fitted : List MotorId) (m : MotorId) (y : Motor) : Motor := if m ∈ fitted then { y with count := 0 } else y

/-- A room referenced at count 0 (R92). -/
def RoomUnit.home (fitted : List MotorId) (r : RoomUnit) : RoomUnit :=
  { r with a := homeCount fitted .a r.a, b := homeCount fitted .b r.b, referenced := true, stray := false }

theorem motors_cases (t : Items) (n : Room) : t.motors n = [.a] ∨ t.motors n = [.a, .b] := by
  unfold Items.motors
  split
  · exact .inr rfl
  · exact .inl rfl

section

variable {s : State} {n : Room}

/-- With no clearance entry enabled a reference at 0 judges nothing (R92). -/
theorem referenceRoom_home (off : s.entriesOff) :
    s.referenceRoom n (s.items.motors n) 0 = s.modRoom n (RoomUnit.home (s.items.motors n)) := by
  have silent : ∀ (t : State) (which : List MotorId), t.entriesOff →
      which.foldl (fun t m => t.judgeMove (.room n) m (.room n m) ((s.roomUnit n).motor m).count true) t = t := fun t which quiet =>
    foldl_same _ _ _ fun m _ => judgeMove_noEntries m _ _ _ (entriesOff_entries quiet _)
  unfold State.referenceRoom
  dsimp only
  rcases motors_cases s.items n with one | two
  · rw [one, silent _ _ (by exact off)]
    exact modRoom_modRoom s n _ _
  · rw [two, silent _ _ (by exact off)]
    simp only [List.foldl_cons, List.foldl_nil, State.modRoomMotor, modRoom_modRoom]
    rfl

/-- A motor that a closed switch stops at its end (R103). -/
def Motor.stoppedHome (now : Nat) (y : Motor) : Motor :=
  if y.driven = true then { y with driven := false, applied := 0, coast := some (now + 300), atEnd := true } else y

theorem stoppedHome_driven (now : Nat) (y : Motor) : (y.stoppedHome now).driven = false := by
  cases driven : y.driven <;> simp [Motor.stoppedHome, driven]

theorem homeCount_driven (fitted : List MotorId) (m : MotorId) (y : Motor) : (homeCount fitted m y).driven = y.driven := by
  unfold homeCount
  split <;> rfl

/-- Both motors of a room stopped at their end. -/
theorem haltAtEnd_both (now : Nat) (r : RoomUnit) : (r.haltAtEnd now .a).haltAtEnd now .b
    = { r with a := r.a.stoppedHome now, b := r.b.stoppedHome now, ramped := 0, demanded := 0 } := by
  cases a : r.a.driven <;> cases b : r.b.driven <;>
    simp [RoomUnit.haltAtEnd, RoomUnit.modMotor, RoomUnit.afterStop, RoomUnit.noneDriven, Motor.halt, Motor.stoppedHome, a, b]

/-- The room's operation runs, or ramps down, inward. -/
def State.homesInward (s : State) (n : Room) : Bool := (s.activeOp (.room n)).any (fun x => x.2.job.roomDir == .inward)

/-- The room's motors stopped at their end. -/
def State.roomStopped (s : State) (n : Room) : State := s.modRoom n (fun r => (r.haltAtEnd s.now .a).haltAtEnd s.now .b)

theorem roomHome_eq (s : State) (n : Room) : s.roomHome n true
    = if s.homesInward n then (((s.roomStopped n).referenceRoom n (s.items.motors n) 0).roomEndCheck n true)
      else s.referenceRoom n (s.items.motors n) 0 := by
  unfold State.roomHome State.homesInward
  cases s.activeOp (.room n) with
  | none => rfl
  | some x =>
    obtain ⟨sl, o⟩ := x
    cases inward : o.job.roomDir == .inward <;>
      simp only [inward, Option.any_some, Bool.true_and, Bool.false_eq_true, if_true, if_false] <;> rfl

/-- The switch of a room with no operation under way references it. -/
theorem roomHome_rests (off : s.entriesOff) (rests : s.activeOp (.room n) = none) :
    s.roomHome n true = s.modRoom n (RoomUnit.home (s.items.motors n)) := by
  have none_ : ¬ s.homesInward n = true := by rw [State.homesInward, rests]; simp
  rw [roomHome_eq, if_neg none_, referenceRoom_home off]

/-- The switch of a room that runs outward references it. -/
theorem roomHome_outward {sl : Slot} {o : Op} (off : s.entriesOff) (run : s.runningOp (.room n) = some (sl, o))
    (outward : o.job.roomDir = .outward) : s.roomHome n true = s.modRoom n (RoomUnit.home (s.items.motors n)) := by
  have none_ : ¬ s.homesInward n = true := by rw [State.homesInward, activeOp_of_running run]; simp [outward]
  rw [roomHome_eq, if_neg none_, referenceRoom_home off]

/-- What a closed switch leaves of a room that runs inward (R103). -/
def RoomUnit.arrive (fitted : List MotorId) (now : Nat) (p : Pend) (r : RoomUnit) : RoomUnit :=
  { r with
    a := homeCount fitted .a (r.a.stoppedHome now), b := homeCount fitted .b (r.b.stoppedHome now), referenced := true, stray := false
    demanded := 0, ramped := 0, pend := some p }

theorem roomHome_inward {sl : Slot} {o : Op} (off : s.entriesOff) (run : s.runningOp (.room n) = some (sl, o))
    (inward : o.job.roomDir = .inward) (open_ : (s.roomUnit n).pend = none) :
    s.roomHome n true = s.modRoom n (RoomUnit.arrive (s.items.motors n) s.now (if o.job.kind = .roomJog then .result .complete else .bySwitch)) := by
  have some_ : s.homesInward n = true := by rw [State.homesInward, activeOp_of_running run]; simp [inward]
  have stopped : s.roomStopped n = s.modRoom n (fun r => { r with
      a := r.a.stoppedHome s.now, b := r.b.stoppedHome s.now, ramped := 0, demanded := 0 }) :=
    congrArg (s.modRoom n) (funext fun r => haltAtEnd_both s.now r)
  have home : (s.roomStopped n).referenceRoom n (s.items.motors n) 0
      = s.modRoom n (fun r => RoomUnit.home (s.items.motors n) { r with
          a := r.a.stoppedHome s.now, b := r.b.stoppedHome s.now, ramped := 0, demanded := 0 }) := by
    rw [stopped]
    exact (referenceRoom_home (s := s.modRoom n _) off).trans (modRoom_modRoom s n _ _)
  have judging : ((s.roomStopped n).referenceRoom n (s.items.motors n) 0).roomJudging n = some (sl, o) := by
    rw [home, State.roomJudging, State.modRoom_roomUnit_self]
    show (if (s.roomUnit n).pend.isSome = true then none else s.runningOp (.room n)) = _
    rw [open_, run]
    rfl
  have still : (((s.roomStopped n).referenceRoom n (s.items.motors n) 0).roomUnit n).noneDriven = true := by
    rw [home, State.modRoom_roomUnit_self]
    simp [RoomUnit.noneDriven, RoomUnit.home, homeCount_driven, stoppedHome_driven]
  rw [roomHome_eq, if_pos some_, State.roomEndCheck, judging]
  dsimp only
  rw [if_pos still, home, modRoom_modRoom]
  refine modRoom_congr ?_
  have result : o.job.endOfTravel true = if o.job.kind = .roomJog then .result .complete else .bySwitch := by
    simp [Job.endOfTravel, inward]
  simp [RoomUnit.decide, RoomUnit.home, RoomUnit.arrive, open_, result]

end

end Sys2Proof.Machine
end

section
namespace Sys2Proof.Machine

-- One declaration at a time, so that the memory the check takes stays small.
set_option Elab.async false

section

variable {s t : State} {i : Input} {d : Contact}

/-! ### ROOM_IN closing (R92, R103) -/

/-- A room whose closed switch leaves its unit `g` of what it was. -/
theorem homed_settles {n : Room} {g : RoomUnit → RoomUnit} (h : Turning s i d) (named : s.inputOf (.roomIn n) = some i)
    (opened : d = .opened) (fitted : s.items.configured (.room n) = true) (waiting : s.noneWaiting) (off : ∀ k, (s.entryItem k).enabled = false)
    (runs : s.runsOnly (fun g => !(g == .jacks))) (home : (s.turned i d.flip).roomHome n true = (s.turned i d.flip).modRoom n g) :
    ∃ t, exec (.debounceExpiry i) s = .next t ∧ s.showsTurned i d.flip t ∧ t.roomCondition n = .inside
      ∧ t.roomUnit n = g (s.roomUnit n) ∧ (∀ k, k ≠ n → t.roomUnit k = s.roomUnit k) ∧ s.keepsBut t [.rooms, .inputs] := by
  subst opened
  let u := s.turned i Contact.opened.flip
  have frame : u = { s with inm := u.inm, ntu := u.ntu } := turned_stands s i _
  have items : u.ist = s.ist := by rw [frame]
  let v := u.modRoom n g
  have hand : u.handChange (s.funcOf i) Contact.opened.flip = v := by
    have configured : u.items.configured (.room n) = true := by rw [State.items, items]; exact fitted
    rw [funcOf_inputOf named]
    show (if u.items.configured (.room n) = true then u.roomHome n true else u) = v
    rw [if_pos configured]
    exact home
  have calm : v.Calm := by
    have only : u.runsOnly (fun g => !(g == .jacks)) := by rw [frame]; exact runs
    have idle : u.noneWaiting := by rw [frame]; exact waiting
    exact ⟨⟨.inl (entriesOff_of_items (s := s) off (congrArg (·.items) items)), .inr only⟩, idle⟩
  have follows := follows_settle calm
  have keeps : s.keepsBut v [.rooms, .inputs] :=
    keepsBut_trans (keepsBut_mono (turned_keeps s i _) (by decide)) (keepsBut_of : u.keepsBut v [.rooms, .inputs])
  have unit : ∀ k, v.settle.roomUnit k = v.roomUnit k := fun k => by rw [State.roomUnit, follows.rooms]; rfl
  have before : ∀ k, u.roomUnit k = s.roomUnit k := fun k => by rw [frame]; rfl
  refine ⟨v.settle, (debounce_event h.running h.first h.awake h.before).trans (congrArg (fun x : State => Host.Outcome.next x.settle) hand),
    follows_showsTurned follows rfl rfl, ?_, ?_, fun k other => ?_, follows.keepsBut keeps⟩
  · have closed : v.settle.shut (.roomIn n) = true := by
      rw [shut_congr (s := u) follows.items (by rw [follows.inputs]; rfl)]
      exact shut_turned named
    rw [State.roomCondition, closed]
    simp
  · rw [unit, State.modRoom_roomUnit_self, before]
  · rw [unit, State.modRoom_roomUnit, if_neg other.symm, before]

theorem home_counts (r : RoomUnit) {fitted : List MotorId} {m : MotorId} (mem : m ∈ fitted) : ((r.home fitted).motor m).count = 0 := by
  cases m <;> simp [RoomUnit.home, RoomUnit.motor, homeCount, mem]

/-- A room that rests is referenced by its closed switch. -/
theorem change_roomHome {n : Room} (h : Turning s i d) (named : s.inputOf (.roomIn n) = some i)
    (opened : d = .opened) (fitted : s.items.configured (.room n) = true) (rests : s.activeOp (.room n) = none) (calm : s.Calm)
    (off : ∀ k, (s.entryItem k).enabled = false) (runs : s.runsOnly (fun g => !(g == .jacks))) :
    ∃ t, exec (.debounceExpiry i) s = .next t ∧ s.showsTurned i d.flip t
      ∧ (t.roomUnit n).referenced = true ∧ (t.roomUnit n).stray = false ∧ (∀ m ∈ s.items.motors n, ((t.roomUnit n).motor m).count = 0)
      ∧ t.roomCondition n = .inside ∧ (∀ k, k ≠ n → t.roomUnit k = s.roomUnit k) ∧ s.keepsBut t [.rooms, .inputs] := by
  have frame := turned_stands s i d.flip
  have items : (s.turned i d.flip).items = s.items := by rw [frame]; rfl
  have home : (s.turned i d.flip).roomHome n true = (s.turned i d.flip).modRoom n (RoomUnit.home (s.items.motors n)) := by
    rw [← items]
    exact roomHome_rests (entriesOff_of_items (s := s) off items) (by rw [frame]; exact rests)
  obtain ⟨t, event, shows_, inside, unit, others, keeps⟩ := homed_settles h named opened fitted calm.waiting off runs home
  exact ⟨t, event, shows_, by rw [unit]; rfl, by rw [unit]; rfl, fun m mem => by rw [unit]; exact home_counts _ mem, inside, others, keeps⟩

/-- A room that moves is referenced, and stopped where it runs inward. -/
theorem change_roomArrives {n : Room} {sl : Slot} {o : Op} (h : Turning s i d) (named : s.inputOf (.roomIn n) = some i)
    (opened : d = .opened) (fitted : s.items.configured (.room n) = true) (run : s.runningOp (.room n) = some (sl, o))
    (open_ : (s.roomUnit n).pend = none) (waiting : s.noneWaiting) (off : ∀ k, (s.entryItem k).enabled = false)
    (runs : s.runsOnly (fun g => !(g == .jacks))) :
    ∃ t, exec (.debounceExpiry i) s = .next t ∧ s.showsTurned i d.flip t ∧ t.roomCondition n = .inside
      ∧ (o.job.roomDir = .outward → t.roomUnit n = (s.roomUnit n).home (s.items.motors n))
      ∧ (o.job.roomDir = .inward → t.roomUnit n = (s.roomUnit n).arrive (s.items.motors n) s.now
          (if o.job.kind = .roomJog then .result .complete else .bySwitch))
      ∧ (∀ k, k ≠ n → t.roomUnit k = s.roomUnit k) ∧ s.keepsBut t [.rooms, .inputs] := by
  have frame := turned_stands s i d.flip
  have items : (s.turned i d.flip).items = s.items := by rw [frame]; rfl
  have quiet : (s.turned i d.flip).entriesOff := entriesOff_of_items (s := s) off items
  have run_u : (s.turned i d.flip).runningOp (.room n) = some (sl, o) := by rw [frame]; exact run
  cases dir : o.job.roomDir with
  | outward =>
    have home := roomHome_outward quiet run_u dir
    rw [items] at home
    obtain ⟨t, event, shows_, inside, unit, others, keeps⟩ := homed_settles h named opened fitted waiting off runs home
    exact ⟨t, event, shows_, inside, fun _ => unit, nofun, others, keeps⟩
  | inward =>
    have now : (s.turned i d.flip).now = s.now := by rw [frame]
    have home := roomHome_inward quiet run_u dir (by rw [frame]; exact open_)
    rw [items, now] at home
    obtain ⟨t, event, shows_, inside, unit, others, keeps⟩ := homed_settles h named opened fitted waiting off runs home
    exact ⟨t, event, shows_, inside, nofun, fun _ => unit, others, keeps⟩

/-! ### AWNING_IN closing (R118, R124) -/

/-- The awning referenced at count 0 (R118). -/
def AwningUnit.home (a : AwningUnit) : AwningUnit := { a with motor := { a.motor with count := 0 }, referenced := true, stray := false }

/-- The awning that comes home inward, its motor driven (R124). -/
def AwningUnit.arrive (now : Nat) (a : AwningUnit) : AwningUnit :=
  { a with
    motor := { a.motor with count := 0, driven := false, applied := 0, coast := some (now + 300), atEnd := true }
    referenced := true, stray := false, demanded := 0, ramped := 0, pend := some (.result .complete) }

theorem referenceAwning_home (off : s.entriesOff) : s.referenceAwning 0 = s.modAwning AwningUnit.home :=
  judgeMove_noEntries _ _ _ _ (entriesOff_entries (s := s.modAwning _) off _)

/-- The awning's operation runs, or ramps down, inward. -/
def State.awningInward (s : State) : Bool := (s.activeOp .awning).any (fun x => s.awningDir x.2 == .inward)

theorem awningHome_eq (s : State) : s.awningHome true
    = if s.awningInward then (s.haltAwning.referenceAwning 0).decideAwning (.result .complete) else s.referenceAwning 0 := by
  unfold State.awningHome State.awningInward
  cases s.activeOp .awning with
  | none => rfl
  | some x => rfl

theorem awningHome_rests (off : s.entriesOff) (rests : s.activeOp .awning = none) : s.awningHome true = s.modAwning AwningUnit.home := by
  have none_ : ¬ s.awningInward = true := by rw [State.awningInward, rests]; simp
  rw [awningHome_eq, if_neg none_, referenceAwning_home off]

theorem awningHome_outward {sl : Slot} {o : Op} (off : s.entriesOff) (run : s.runningOp .awning = some (sl, o))
    (outward : s.awningDir o = .outward) : s.awningHome true = s.modAwning AwningUnit.home := by
  have none_ : ¬ s.awningInward = true := by rw [State.awningInward, activeOp_of_running run]; simp [outward]
  rw [awningHome_eq, if_neg none_, referenceAwning_home off]

theorem halt_pend (now : Nat) (a : AwningUnit) : (a.halt now).pend = a.pend := by
  unfold AwningUnit.halt
  split <;> rfl

theorem awningHome_inward {sl : Slot} {o : Op} (off : s.entriesOff) (run : s.runningOp .awning = some (sl, o))
    (inward : s.awningDir o = .inward) (open_ : s.awu.pend = none) :
    s.awningHome true = s.modAwning (fun a => (a.halt s.now).home.decide (.result .complete)) := by
  have some_ : s.awningInward = true := by rw [State.awningInward, activeOp_of_running run]; simp [inward]
  have home : s.haltAwning.referenceAwning 0 = s.modAwning (fun a => (a.halt s.now).home) := referenceAwning_home (s := s.haltAwning) off
  have judging : (s.modAwning (fun a => (a.halt s.now).home)).awningJudging = some (sl, o) :=
    awningJudging_eq ((halt_pend s.now s.awu).trans open_) run
  rw [awningHome_eq, if_pos some_, home, State.decideAwning, judging]
  rfl

theorem arrive_eq {a : AwningUnit} (now : Nat) (driven : a.motor.driven = true) (open_ : a.pend = none) :
    (a.halt now).home.decide (.result .complete) = a.arrive now := by
  simp [AwningUnit.halt, AwningUnit.home, AwningUnit.decide, AwningUnit.arrive, Motor.halt, driven, open_]

/-- An awning whose closed switch leaves its unit `g` of what it was. -/
theorem awning_settles {g : AwningUnit → AwningUnit} (h : Turning s i d) (named : s.inputOf .awningIn = some i) (opened : d = .opened)
    (calm : s.Calm) (home : (s.turned i d.flip).awningHome true = (s.turned i d.flip).modAwning g) :
    ∃ t, exec (.debounceExpiry i) s = .next t ∧ s.showsTurned i d.flip t ∧ t.awningCondition = .inside ∧ t.awu = g s.awu
      ∧ s.keepsBut t [.awning, .inputs] := by
  subst opened
  let u := s.turned i Contact.opened.flip
  have frame : u = { s with inm := u.inm, ntu := u.ntu } := turned_stands s i _
  let v := u.modAwning g
  have hand : u.handChange (s.funcOf i) Contact.opened.flip = v := by
    rw [funcOf_inputOf named]
    exact home
  have calm_u : u.Calm := calm_turned (notRoom_of named fun n => by simp) calm
  have follows := follows_settle (calm_same calm_u rfl rfl rfl : v.Calm)
  have keeps : s.keepsBut v [.awning, .inputs] :=
    keepsBut_trans (keepsBut_mono (turned_keeps s i _) (by decide)) (keepsBut_of : u.keepsBut v [.awning, .inputs])
  refine ⟨v.settle, (debounce_event h.running h.first h.awake h.before).trans (congrArg (fun x : State => Host.Outcome.next x.settle) hand),
    follows_showsTurned follows rfl rfl, ?_, ?_, follows.keepsBut keeps⟩
  · have closed : v.settle.shut .awningIn = true := by
      rw [shut_congr (s := u) follows.items (by rw [follows.inputs]; rfl)]
      exact shut_turned named
    rw [State.awningCondition, closed]
    simp
  · rw [follows.awning]
    show g u.awu = _
    rw [frame]

/-- An awning that rests is referenced by its closed switch. -/
theorem change_awningHome (h : Turning s i d) (named : s.inputOf .awningIn = some i) (opened : d = .opened)
    (rests : s.activeOp .awning = none) (calm : s.Calm) (off : ∀ k, (s.entryItem k).enabled = false) :
    ∃ t, exec (.debounceExpiry i) s = .next t ∧ s.showsTurned i d.flip t ∧ t.awningCondition = .inside ∧ t.awu = s.awu.home
      ∧ s.keepsBut t [.awning, .inputs] := by
  have frame := turned_stands s i d.flip
  exact awning_settles h named opened calm (awningHome_rests (entriesOff_of_items (s := s) off (by rw [frame]; rfl)) (by rw [frame]; exact rests))

/-- An awning that moves is referenced, and stopped where it runs inward. -/
theorem change_awningArrives {sl : Slot} {o : Op} (h : Turning s i d) (named : s.inputOf .awningIn = some i) (opened : d = .opened)
    (calm : s.Calm) (off : ∀ k, (s.entryItem k).enabled = false) (run : s.runningOp .awning = some (sl, o)) (open_ : s.awu.pend = none) :
    ∃ t, exec (.debounceExpiry i) s = .next t ∧ s.showsTurned i d.flip t ∧ t.awningCondition = .inside
      ∧ (s.awningDir o = .outward → t.awu = s.awu.home)
      ∧ (s.awningDir o = .inward → s.awu.motor.driven = true → t.awu = s.awu.arrive s.now)
      ∧ s.keepsBut t [.awning, .inputs] := by
  have frame := turned_stands s i d.flip
  have quiet : (s.turned i d.flip).entriesOff := entriesOff_of_items (s := s) off (by rw [frame]; rfl)
  have run_u : (s.turned i d.flip).runningOp .awning = some (sl, o) := by rw [frame]; exact run
  have dir : (s.turned i d.flip).awningDir o = s.awningDir o := by rw [frame]; rfl
  cases heading : s.awningDir o with
  | outward =>
    obtain ⟨t, event, shows_, inside, unit, keeps⟩ :=
      awning_settles h named opened calm (awningHome_outward quiet run_u (dir.trans heading))
    exact ⟨t, event, shows_, inside, fun _ => unit, nofun, keeps⟩
  | inward =>
    have now : (s.turned i d.flip).now = s.now := by rw [frame]
    have home := awningHome_inward quiet run_u (dir.trans heading) (by rw [frame]; exact open_)
    rw [now] at home
    obtain ⟨t, event, shows_, inside, unit, keeps⟩ := awning_settles h named opened calm home
    exact ⟨t, event, shows_, inside, nofun, fun _ driven => unit.trans (arrive_eq s.now driven open_), keeps⟩

end

end Sys2Proof.Machine
end

section
namespace Sys2Proof.Machine

-- One declaration at a time, so that the memory the check takes stays small.
set_option Elab.async false

section

variable {s t : State} {i : Input} {d : Contact} {j : Jack} {sl : Slot} {o : Op}

/-! ### JACK_UP closing (R82, R86) -/

/-- The JACKS operation has come to its end COMPLETE: every valve closed, the end pending or, with the pump off, reported. -/
structure JacksDown (s t : State) (sl : Slot) (o : Op) : Prop where
  valves : ∀ k, (t.jack k).extending = false ∧ (t.jack k).retracting = false
  timers : t.lvc.timers = JackTimers.stopped
  pends : s.lvc.pump ≠ 0 → t.lvc.pend = some .complete ∧ t.opt = s.opt
  ends : s.lvc.pump = 0 → ∃ rem, t.opAt sl = some { o with state := .ended .complete rem (s.opt.ends + 1), resumed := false }
  keeps : s.keepsBut t [.table, .arbiter, .jacks, .inputs, .orders, .claims]

/-- The jack whose switch has closed, its retract valve shut (R82). -/
def State.jackShut (s : State) (j : Jack) : State := s.modJack j (fun u => { u with retracting := false })

theorem jackStowed_stow (run : s.jacksJudging = some (sl, o)) (stow : o.job.kind = .jacksStow) :
    s.jackStowed j = if (s.jackShut j).allJacksUp then (s.jackShut j).windDownJacks sl .complete else s.jackShut j := by
  rw [State.jackStowed, run]
  simp only [stow]
  rfl

theorem jackStowed_jog (run : s.jacksJudging = some (sl, o)) (jog : o.job.kind = .jackJog) (inward : o.job.dir = some .inward)
    (sub : o.job.sub = some j) : s.jackStowed j = s.windDownJacks sl .complete := by
  rw [State.jackStowed, run]
  simp [jog, inward, sub]

theorem jackStowed_other (run : s.jacksJudging = some (sl, o)) (kind : o.job.kind = .level ∨ o.job.kind = .ground) : s.jackStowed j = s := by
  rw [State.jackStowed, run]
  rcases kind with e | e <;> simp [e]

/-- A closed switch of a fitted jack is handed to the Leveling Controller. -/
theorem jackUp_event (h : Turning s i d) (named : s.inputOf (.jackUp j) = some i) (opened : d = .opened) (fitted : j ∈ s.items.jacks) :
    exec (.debounceExpiry i) s = .next ((s.turned i d.flip).jackStowed j).settle := by
  subst opened
  have items : (s.turned i Contact.opened.flip).items = s.items := by rw [turned_stands]; rfl
  have hand : (s.turned i Contact.opened.flip).handChange (s.funcOf i) Contact.opened.flip = (s.turned i Contact.opened.flip).jackStowed j := by
    rw [funcOf_inputOf named]
    refine if_pos ?_
    rw [items]
    exact List.contains_iff_mem.2 fitted
  exact (debounce_event h.running h.first h.awake h.before).trans (congrArg (fun x : State => Host.Outcome.next x.settle) hand)

/-- The jacks that read up after the change: the changed one, and those that did. -/
theorem turned_allUp (named : s.inputOf (.jackUp j) = some i) (opened : d = .opened) :
    ((s.turned i d.flip).jackShut j).allJacksUp = true ↔ ∀ k ∈ s.items.jacks, k ≠ j → s.shut (.jackUp k) = true := by
  have items : (s.turned i d.flip).items = s.items := by rw [turned_stands]; rfl
  have self : (s.turned i d.flip).shut (.jackUp j) = true := by rw [shut_turned named, opened]; rfl
  have other : ∀ k, k ≠ j → (s.turned i d.flip).shut (.jackUp k) = s.shut (.jackUp k) := fun k apart =>
    shut_turned_func named fun same => apart (Func.jackUp.inj same)
  show (s.turned i d.flip).allJacksUp = true ↔ _
  rw [State.allJacksUp, items, List.all_eq_true]
  refine ⟨fun all k mem apart => (other k apart).symm.trans (all k mem), fun all k mem => ?_⟩
  by_cases same : k = j
  · rw [same]
    exact self
  · exact (other k same).trans (all k mem same)

/-- What is left of the state before the JACKS operation is wound down. -/
structure JackHanded (s u : State) (i : Input) (d : Contact) : Prop where
  calm : u.Calm
  opt : u.opt = s.opt
  pump : u.lvc.pump = s.lvc.pump
  keeps : s.keepsBut u [.jacks, .inputs]
  inputs : u.inm = (s.turned i d.flip).inm
  notices : u.ntu = (s.turned i d.flip).ntu

theorem JackHanded.down {u : State} (handed : JackHanded s u i d) (run : u.runningOp .jacks = some (sl, o))
    (event : exec (.debounceExpiry i) s = .next (u.windDownJacks sl .complete).settle) :
    ∃ t, exec (.debounceExpiry i) s = .next t ∧ s.showsTurned i d.flip t ∧ JacksDown s t sl o := by
  have wound := woundDown run .complete
  generalize u.windDownJacks sl .complete = v at wound event
  have follows := follows_settle (wound.calm handed.calm)
  have inm : v.inm = _ := wound.keeps.1 .inputs (by decide)
  refine ⟨v.settle, event, follows_showsTurned follows (by rw [inm, handed.inputs]) (by rw [wound.notices, handed.notices]),
    fun k => ?_, ?_, fun on => ?_, fun off => ?_,
    follows.keepsBut (keepsBut_trans (keepsBut_mono handed.keeps (by decide)) (keepsBut_mono wound.keeps (by decide)))⟩
  · rw [State.jack, follows.jacks]
    exact wound.valves k
  · rw [follows.jacks]
    exact wound.timers
  · obtain ⟨pend, table⟩ := wound.pends (by rw [handed.pump]; exact on)
    exact ⟨by rw [follows.jacks]; exact pend, follows.table.trans (table.trans handed.opt)⟩
  · obtain ⟨rem, ends⟩ := wound.ends (handed.pump.trans off)
    rw [handed.opt] at ends
    exact ⟨rem, (opAt_of_opt follows.table sl).trans ends⟩

theorem jackHanded_turned (named : s.inputOf (.jackUp j) = some i) (calm : s.Calm) : JackHanded s (s.turned i d.flip) i d := by
  have frame := turned_stands s i d.flip
  exact ⟨calm_turned (notRoom_of named fun n => by simp) calm, by rw [frame], by rw [frame], keepsBut_mono (turned_keeps s i d.flip) (by decide),
    rfl, rfl⟩

theorem jackHanded_shut (named : s.inputOf (.jackUp j) = some i) (calm : s.Calm) : JackHanded s ((s.turned i d.flip).jackShut j) i d := by
  obtain ⟨calm_u, opt, pump, keeps, inputs, notices⟩ := jackHanded_turned (d := d) named calm
  exact ⟨calm_same calm_u rfl rfl rfl, opt, pump,
    keepsBut_trans keeps (keepsBut_of : (s.turned i d.flip).keepsBut ((s.turned i d.flip).jackShut j) [.jacks, .inputs]), inputs, notices⟩

/-- JACK_UP closing under the running JACKS operation. -/
theorem change_jackUp (h : Turning s i d) (named : s.inputOf (.jackUp j) = some i) (opened : d = .opened) (fitted : j ∈ s.items.jacks)
    (calm : s.Calm) (open_ : s.lvc.pend = none) (run : s.runningOp .jacks = some (sl, o)) :
    (o.job.kind = .jacksStow → (∀ k ∈ s.items.jacks, k ≠ j → s.shut (.jackUp k) = true) →
        ∃ t, exec (.debounceExpiry i) s = .next t ∧ s.showsTurned i d.flip t ∧ JacksDown s t sl o)
    ∧ (o.job.kind = .jacksStow → ¬ (∀ k ∈ s.items.jacks, k ≠ j → s.shut (.jackUp k) = true) →
        ∃ t, exec (.debounceExpiry i) s = .next t ∧ s.showsTurned i d.flip t ∧ t.lvc = (s.jackShut j).lvc ∧ s.keepsBut t [.jacks, .inputs])
    ∧ (o.job.kind = .jackJog → o.job.dir = some .inward → o.job.sub = some j →
        ∃ t, exec (.debounceExpiry i) s = .next t ∧ s.showsTurned i d.flip t ∧ JacksDown s t sl o)
    ∧ (o.job.kind = .level ∨ o.job.kind = .ground →
        ∃ t, exec (.debounceExpiry i) s = .next t ∧ s.showsTurned i d.flip t ∧ s.keepsBut t [.inputs]) := by
  have event := jackUp_event h named opened fitted
  have frame := turned_stands s i d.flip
  have run_u : (s.turned i d.flip).runningOp .jacks = some (sl, o) := by rw [frame]; exact run
  have judging : (s.turned i d.flip).jacksJudging = some (sl, o) := by
    have pend : (s.turned i d.flip).lvc.pend = none := by rw [frame]; exact open_
    rw [State.jacksJudging, pend, run_u]
    rfl
  refine ⟨fun stow allUp => ?_, fun stow some_ => ?_, fun jog inward sub => ?_, fun kind => ?_⟩
  · rw [jackStowed_stow judging stow, if_pos ((turned_allUp named opened).2 allUp)] at event
    exact (jackHanded_shut named calm).down run_u event
  · rw [jackStowed_stow judging stow, if_neg (mt (turned_allUp named opened).1 some_)] at event
    have handed := jackHanded_shut (d := d) named calm
    have follows := follows_settle handed.calm
    refine ⟨_, event, follows_showsTurned follows (by rw [handed.inputs]) (by rw [handed.notices]), ?_, follows.keepsBut handed.keeps⟩
    rw [follows.jacks, frame]
    rfl
  · rw [jackStowed_jog judging jog inward sub] at event
    exact (jackHanded_turned named calm).down run_u event
  · rw [jackStowed_other judging kind] at event
    have follows := follows_settle (jackHanded_turned (d := d) named calm).calm
    exact ⟨_, event, follows_showsTurned follows rfl rfl, follows.keepsBut (turned_keeps s i d.flip)⟩

end

/-! ### What is deploying (R23) -/

theorem deployingOp_iff (s : State) (o : Op) : s.deployingOp o = true ↔
    o.job.kind = .level ∨ o.job.kind = .ground ∨ o.job.kind = .roomOut
    ∨ (o.job.kind = .jackJog ∨ o.job.kind = .roomJog ∨ o.job.kind = .awningJog) ∧ o.job.dir = some .outward
    ∨ o.job.kind = .awningSet
      ∧ (o.state.active = true ∧ s.awu.motor.dir = some .outward
        ∨ o.state.active = false ∧ (s.awu.referenced = true
            ∧ min 1000 (s.awu.motor.count * 1000 / s.items.awn.travel) < o.job.value.getD 0
          ∨ s.awu.referenced = false ∧ 0 < o.job.value.getD 0)) := by
  cases kind : o.job.kind with
  | awningSet =>
    rw [State.deployingOp, kind]
    cases active : o.state.active with
    | true => simp
    | false =>
      have position : s.awningPosition = if s.awu.referenced = true then some (min 1000 (s.awu.motor.count * 1000 / s.items.awn.travel)) else none := rfl
      rw [State.deploying, kind, position]
      cases s.awu.referenced <;> simp
  | _ => simp [State.deployingOp, State.deploying, kind]

/-! ### The records after a release with a stow (R22, R23) -/

theorem brakeCancels_iff {s : State} {o : Op} : s.brakeCancels o = true ↔ o.opClass = .normal ∧ s.deployingOp o = true := by
  simp [State.brakeCancels]

/-- The awning's operation ends with its own result, by the release, or by the stow. -/
theorem StowAfter.awningEnds {s v t : State} {i : Input} {d : Contact} {sl k : Slot} {st : OpState} {o : Op} (after : StowAfter s v t sl st)
    (released : Released s i d v) (ho : s.opAt k = some o) (awning : o.job.group = .awning) (moves : o.state.isEnded = false) :
    ∃ rem m, t.opAt k = some { o with
      state := .ended (match o.state with
        | .stopping (.ended r) _ => r
        | _ => if o.opClass = .normal ∧ s.deployingOp o = true then .cancelled .interlock else .cancelled .superseded) rem m
      resumed := false } := by
  have ends := after.releases released.records ho awning moves
  rw [if_congr brakeCancels_iff rfl rfl] at ends
  exact ends

/-- Every other operation is cancelled where it deploys, and stands where it does not. -/
theorem StowAfter.othersLeft {s v t : State} {i : Input} {d : Contact} {sl k : Slot} {st : OpState} {o : Op} (after : StowAfter s v t sl st)
    (released : Released s i d v) (ho : s.opAt k = some o) (apart : o.job.group ≠ .awning ∨ o.state.isEnded = true) :
    (o.opClass = .normal ∧ s.deployingOp o = true → ∃ q, t.opAt k = some q ∧ s.CancelLeaves o (.cancelled .interlock) q)
    ∧ (¬ (o.opClass = .normal ∧ s.deployingOp o = true) → t.opAt k = some o) := by
  refine ⟨fun cancels => ?_, fun spared => ?_⟩
  · obtain ⟨q, at_k, leaves⟩ := ((released.records k).2 o ho).2 (brakeCancels_iff.2 cancels)
    obtain ⟨-, job, ended⟩ := cancelLeaves_kept leaves
    refine ⟨q, after.created.stays k q at_k ?_, leaves⟩
    rcases apart with away | over_
    · exact .inl (by rw [job]; exact away)
    · exact .inr (by rw [ended over_]; exact over_)
  · exact after.created.stays k o (((released.records k).2 o ho).1 (by rw [← Bool.not_eq_true]; exact mt brakeCancels_iff.1 spared)) apart

/-- Settles O60: the input debounced anew and its notice, then what the controller of its function does, from the rules of the
sweeps, the stow, the wound-down JACKS operation and the room and awning that come home; the end of the event brings up the records. -/
theorem debouncedChangeActs : Obligations.DebouncedChangeActs := by
  refine ⟨fun s i => ⟨fun stopped => ?_, fun c running first awake before ready => ?_⟩, deployingOp_iff⟩
  · show Host.Outcome.next (if (s.input i).debounce.isSome && (s.input i).firstDone then (s.debounceExpired i).settle else s) = _
    rw [if_neg]
    rcases stopped with none_ | early
    · simp [none_]
    · simp [early]
  · have h : Turning s i c := ⟨running, first, awake, before, ready⟩
    refine ⟨fun plain calm => change_generic h calm plain, fun named calm => change_ignition h named calm,
      fun named opened calm => change_brakeSet h named opened calm, fun named opened calm => change_eStopNormal h named opened calm,
      fun j named closed calm => change_jackLeft h named closed calm, fun named closed calm => change_awningLeft h named closed calm,
      fun n named closed waiting edges => ⟨fun spared => change_roomLeft h named closed waiting edges spared, fun sl o run reached open_ fitted =>
        change_roomStops h named closed waiting edges run reached open_ fitted⟩,
      fun named closed without undisturbed waiting => change_brakeReleased h named closed without undisturbed waiting,
      fun named closed => change_eStop h named closed,
      fun n named opened fitted rests calm off runs => change_roomHome h named opened fitted rests calm off runs,
      fun sl named closed due undisturbed one waiting queue open_ below => ?_,
      fun n sl o named opened fitted run open_ waiting off runs => change_roomArrives h named opened fitted run open_ waiting off runs,
      fun j sl o named opened fitted calm open_ run => ?_,
      fun named opened rests calm off => change_awningHome h named opened rests calm off,
      fun sl o named opened calm off run open_ => change_awningArrives h named opened calm off run open_⟩
    · obtain ⟨t, st, v, event, shows_, brake, after, released, keeps⟩ :=
        change_brakeStows h named closed due undisturbed one waiting queue open_ below
      exact ⟨t, st, event, shows_, brake, after.record, after.created.state, after.created.motor, after.free,
        fun k o ho => ⟨fun awning moves => after.awningEnds released ho awning moves, fun apart => after.othersLeft released ho apart⟩,
        after.counters.1, after.counters.2, keeps⟩
    · obtain ⟨stowUp, stowOn, jogUp, other⟩ := change_jackUp h named opened fitted calm open_ run
      refine ⟨fun stow allUp => ?_, fun stow some_ => stowOn stow some_, fun jog inward sub => ?_, fun kind => other kind⟩
      · obtain ⟨t, event, shows_, down⟩ := stowUp stow allUp
        exact ⟨t, event, shows_, down.valves, down.timers, down.pends, down.ends, down.keeps⟩
      · obtain ⟨t, event, shows_, down⟩ := jogUp jog inward sub
        exact ⟨t, event, shows_, down.valves, down.timers, down.pends, down.ends, down.keeps⟩

end Sys2Proof.Machine
end
